-- ==== Sys2Proof/Word.lean ====
section
/-! DEFINITION. Octets, and fixed-size tables of like things (the part's 8 spurs, 16 channels, 60 Slot Map entries …)
with the two accessors every other file uses. -/

namespace Sys2Proof

/-- An octet as it crosses a pin (chapter 11: octet 0 is sent first, bit 7 first within an octet). -/
abbrev Octet := BitVec 8

/-- A fixed number `n` of like things. Entry number k of the manual (numbered from 1) is index k − 1 here. -/
abbrev Tab (n : Nat) (α : Type) := Vector α n

/-- Entry `i` of a table. -/
def Tab.get {n : Nat} {α : Type} (t : Tab n α) (i : Fin n) : α := t[i]

/-- The table with entry `i` replaced. -/
def Tab.put {n : Nat} {α : Type} (t : Tab n α) (i : Fin n) (x : α) : Tab n α := Vector.set t i x

/-- A table of `n` equal entries. -/
def Tab.fill (n : Nat) {α : Type} (x : α) : Tab n α := Vector.replicate n x

/-- The table whose entry `i` is `f i`. -/
def Tab.build (n : Nat) {α : Type} (f : Fin n → α) : Tab n α :=
  ⟨((List.finRange n).map f).toArray, by simp⟩

/-- Every entry replaced by a function of its index and its value. -/
def Tab.mapIx {n : Nat} {α β : Type} (t : Tab n α) (f : Fin n → α → β) : Tab n β :=
  Tab.build n fun i => f i (t.get i)

/-- The first index, lowest first, whose entry meets `p`. -/
def Tab.firstIx {n : Nat} {α : Type} (t : Tab n α) (p : Fin n → α → Bool) : Option (Fin n) :=
  (List.finRange n).find? fun i => p i (t.get i)

/-- Whether some entry meets `p`. -/
def Tab.anyIx {n : Nat} {α : Type} (t : Tab n α) (p : Fin n → α → Bool) : Bool :=
  (List.finRange n).any fun i => p i (t.get i)

/-- `f` applied for each index of a table in index order, lowest first. -/
def forEach {σ : Type} (n : Nat) (f : Fin n → σ → σ) (s : σ) : σ :=
  (List.finRange n).foldl (fun t i => f i t) s

end Sys2Proof
end

