-- ==== Sys2Proof/Syntax.lean ====
section
/-! DEFINITION. The commands the block takes: one constructor of `Instr` for each row of spec/opcode_table.json, in the
table's order. Cells and frames are carried as the octets that arrive (chapter 11); the fields of messages and orders are
carried as the unsigned numbers of their octets, so that a value outside its range can arrive, as R168 and R199 allow. -/

namespace Sys2Proof

/-- Inbye is toward the face, outbye toward the surface: a line port, a direction of travel or a far side. -/
inductive Side where
  | inbye
  | outbye
deriving DecidableEq, Repr

/-- Spur number 1 to 8, held as 0 to 7. -/
abbrev SpurId := Fin 8
/-- Channel number 1 to 16, held as 0 to 15. -/
abbrev ChanId := Fin 16
/-- Call record index 1 to 16, held as 0 to 15. -/
abbrev RecId := Fin 16
/-- Block entry index 1 to 4, held as 0 to 3. -/
abbrev BlockIx := Fin 4
/-- Refuge, contact input, general output or trigger list 1 or 2, held as 0 or 1. -/
abbrev PairIx := Fin 2
/-- Traffic slot 2 to 31, held as 0 to 29. -/
abbrev Slot := Fin 30
/-- Slot Map index 0 to 59 as R78 numbers it. -/
abbrev SlotIx := Fin 60

/-- How a complete order was addressed and the reference its reply echoes (R174). `bcast` is set for mode BROADCAST. -/
structure OrderHdr where
  bcast : Bool
  ref   : Octet
deriving DecidableEq, Repr

/-- The commands: one constructor per row of the table. -/
inductive Instr where
  /-- POWER_ON (R188): the reset input or the return of supply. -/
  | powerOn
  /-- RESTART_CARRIED_OUT (R189). -/
  | restartCarriedOut
  /-- LINE_CYCLE (R47): one kept cycle; `closed1`, `closed2` are the contact inputs' samples of the cycle (R41). -/
  | lineCycle (closed1 closed2 : Bool)
  /-- INBYE_TRAVELLING_SEGMENT_CELL (R51): the cell that arrives in slot 1 at the outbye port. -/
  | inbyeSegmentCell (cell : List Octet)
  /-- OUTBYE_TRAVELLING_SEGMENT_CELL (R52): the cell that arrives in slot 1 at the inbye port. -/
  | outbyeSegmentCell (cell : List Octet)
  /-- TRAFFIC_CELL (R68): the cell that arrives at `port` in the place of traffic slot `slot`. -/
  | trafficCell (port : Side) (slot : Slot) (cell : List Octet)
  /-- MANAGEMENT_CELL (R175): the cell that arrives at `port` in the place of slot 0. -/
  | managementCell (port : Side) (cell : List Octet)
  /-- FRAMING_LOST (R48). -/
  | framingLost (port : Side)
  /-- PORT_LOST (R55). -/
  | portLost (port : Side)
  /-- PORT_UP (R55). -/
  | portUp (port : Side)
  /-- WINDOW_END (R57). -/
  | windowEnd
  /-- READING (R6): a READING message from the head on spur `p`. -/
  | reading (p : SpurId) (sub raw quality : Nat)
  /-- STALE_EXPIRY (R16). -/
  | staleExpiry (c : ChanId)
  /-- CONTACT_CHANGE (R42). -/
  | contactChange (i : PairIx)
  /-- OFFHOOK (R82). -/
  | offhook (p : SpurId)
  /-- ONHOOK (R83). -/
  | onhook (p : SpurId)
  /-- DIGIT (R84). -/
  | digit (p : SpurId) (d : Nat)
  /-- SURFACE_COMPLETION_TIMEOUT (R86). -/
  | surfaceCompletionTimeout (r : RecId)
  /-- REFUGE_EMERGENCY_COMPLETION (R85). -/
  | refugeEmergencyCompletion (r : RecId)
  /-- COLLECTING_TIMEOUT (R86). -/
  | collectingTimeout (r : RecId)
  /-- REQUESTED_TIMEOUT (R101). -/
  | requestedTimeout (r : RecId)
  /-- HELD_TIMEOUT (R89). -/
  | heldTimeout (r : RecId)
  /-- ALERTING_TIMEOUT (R101). -/
  | alertingTimeout (r : RecId)
  /-- RINGING_TIMEOUT (R101). -/
  | ringingTimeout (r : RecId)
  /-- CONTINUITY_LOSS (R73): the Slot Map entry whose count has reached 125. -/
  | continuityLoss (e : SlotIx)
  /-- TAG (R109): sense 0 ARRIVING, 1 LEAVING. -/
  | tag (p : SpurId) (t sense : Nat)
  /-- TRUCK_STATUS (R127). -/
  | truckStatus (p : SpurId) (t status : Nat)
  /-- CLAIM (R109): a CLAIM neighbour message taken at the inbye port. -/
  | claim (block t : Nat)
  /-- GRANT (R114): a GRANT neighbour message taken at the outbye port. -/
  | grant (block t : Nat)
  /-- WAIT (R114): a WAIT neighbour message taken at the outbye port. -/
  | wait (block t : Nat)
  /-- EXIT (R111): an EXIT neighbour message taken at the inbye port. -/
  | exit (block t : Nat)
  /-- STATE (R116): a master STATE taken at the outbye port, its octets as R198 lays them out (codes, four tag positions,
  the two waits, 0 for none). -/
  | state (block st dir count : Nat) (tags : List Nat) (mWait fWait : Nat)
  /-- FAR_END_STATE (R117): a far-end STATE taken at the inbye port. -/
  | farEndState (block readiness : Nat)
  /-- BLOCK_TURN (R118). -/
  | blockTurn (i : BlockIx)
  /-- OVERDUE (R113): the listed truck `t` of entry `i`. -/
  | overdue (i : BlockIx) (t : Nat)
  /-- CHECKIN (R135). -/
  | checkin (p : SpurId) (t : Nat)
  /-- CHECKOUT (R136). -/
  | checkout (p : SpurId) (t : Nat)
  /-- DOOR (R137): 0 OPEN, any other value SHUT. -/
  | door (p : SpurId) (v : Nat)
  /-- DISTRESS (R138). -/
  | distress (p : SpurId)
  /-- STOP_TRUCKS_END (R148). -/
  | stopTrucksEnd
  /-- HEAD_DELAY_EXPIRY (R156). -/
  | headDelayExpiry
  /-- SPUR_FRAME (R164): the frame that arrives on spur `p`. -/
  | spurFrame (p : SpurId) (frame : List Octet)
  /-- HELLO (R165). -/
  | hello (p : SpurId) (headType : Nat)
  /-- SPUR_SILENCE_TIMEOUT (R165). -/
  | spurSilenceTimeout (p : SpurId)
  /-- FILL_CREDIT_EARNED (R178). -/
  | fillCreditEarned
  /-- OUTBYE_CELL_FILL (R178). -/
  | outbyeCellFill
  /-- ACCESS_EXPIRY (R180). -/
  | accessExpiry
  /-- COMMIT_COMPLETE (R187). -/
  | commitComplete
  /-- ENQUIRE (R192). -/
  | enquire (h : OrderHdr)
  /-- STATUS_POLL (R191). -/
  | statusPoll (h : OrderHdr)
  /-- TABLE_READ (R184). -/
  | tableRead (h : OrderHdr) (table first count : Nat)
  /-- TABLE_LOAD (R185): `entries` are the octets after the count. -/
  | tableLoad (h : OrderHdr) (table first count : Nat) (entries : List Octet)
  /-- HISTORY_READ (R22). -/
  | historyRead (h : OrderHdr) (channel start count : Nat)
  /-- COMMIT (R187). -/
  | commit (h : OrderHdr)
  /-- RESTART (R189). -/
  | restart (h : OrderHdr)
  /-- UNLOCK (R182). -/
  | unlock (h : OrderHdr) (code : Nat)
  /-- LOCK (R183). -/
  | lock (h : OrderHdr)
  /-- CALL_ASSIGN_ORIGIN (R92). -/
  | callAssignOrigin (h : OrderHdr) (index callNo slot far : Nat)
  /-- CALL_ASSIGN_DESTINATION (R93). -/
  | callAssignDestination (h : OrderHdr) (spur priority slot far : Nat)
  /-- CALL_CONNECT (R94). -/
  | callConnect (h : OrderHdr) (index callNo : Nat)
  /-- CALL_RELEASE (R95). -/
  | callRelease (h : OrderHdr) (index callNo : Nat)
  /-- CALL_REFUSE (R96). -/
  | callRefuse (h : OrderHdr) (index callNo reason : Nat)
  /-- TRIP_PREPARE (R39). -/
  | tripPrepare (h : OrderHdr)
  /-- TRIP_RESET (R40). -/
  | tripReset (h : OrderHdr)
  /-- BLOCK_OPEN (R122): the clear-list option is 0 no, 1 yes. -/
  | blockOpen (h : OrderHdr) (block clear : Nat)
  /-- BLOCK_CLOSE (R123). -/
  | blockClose (h : OrderHdr) (block : Nat)
  /-- ARM (R154): an action (kind, two field octets) and a queue condition (kind, three field octets). -/
  | arm (h : OrderHdr) (a0 a1 a2 c0 c1 c2 c3 : Nat)
  /-- LEVEL_CLEAR (R46). -/
  | levelClear (h : OrderHdr)
  /-- TRUCK_CLEAR (R128). -/
  | truckClear (h : OrderHdr)
  /-- OUTPUT_SET (R45). -/
  | outputSet (h : OrderHdr) (output force : Nat)
  /-- UNKNOWN_ORDER (R176): a complete order of a kind the node does not know. One of a known kind, 1 to 22, whose body is not in the
  form of its kind has no row of its own and comes here too (log entry 32). -/
  | unknownOrder (h : OrderHdr) (kind : Nat)
  /-- SUPPLY_LOSS (R187). -/
  | supplyLoss
  /-- ERRORED_SEGMENT_CELL (R48): a slot 1 cell that arrives errored at `port`. -/
  | erroredSegmentCell (port : Side)
deriving DecidableEq, Repr

end Sys2Proof
end

