-- ==== Sys2Proof/Config.lean ====
section
/-! DEFINITION. What the manual leaves to the part or leaves open: constants with no body, of which nothing can be proved. -/

namespace Sys2Proof.Config

/-- R192: the revision number of the part, 0 to 255, which the manual does not give (log entry 2). -/
opaque revision : Octet

/-- What becomes of the Settings Store when the reset input is held active while a store write is in flight:
0 the old copy stands, 1 the new copy stands, 2 the copy fails its integrity check. R187 states this for loss of supply
only; the value is free, read afresh at each such reset (log entry 3). -/
opaque resetDuringWrite : Nat → Fin 3

end Sys2Proof.Config
end

