-- ==== Sys2Proof/Machine/State.lean ====
section
/-! DEFINITION. The node's state as plain data: every register, table, queue, counter, flag and pin the manual gives the
TN416, grouped by the block that holds it, and its value right after power-on of a new part (`State.reset`). -/

namespace Sys2Proof.Machine

/-! ## Named values -/

/-- A district level, ordered by number: NORMAL 0, ALERT 1, ALARM 2, TRIP 3, EVACUATE 4 (scope file, Levels). -/
abbrev Level := Fin 5

/-- R2: the kinds of a channel. -/
inductive Kind where
  | methane | carbonMonoxide | carbonDioxide | oxygen | airflow
deriving DecidableEq, Repr

/-- R3: the statuses of a channel. -/
inductive ChanStatus where
  | normal | alert | alarm | trip | noData | warmup | fault | unused
deriving DecidableEq, Repr

/-- R161: the types of a spur. -/
inductive SpurType where
  | off | gas | voice | truck | refuge
deriving DecidableEq, Repr

/-- R161: the states of a spur. -/
inductive SpurState where
  | off | down | starting | up | mismatch
deriving DecidableEq, Repr

/-- R161: the last offered head type. -/
inductive HeadType where
  | gas | voice | truck | refuge | unknown
deriving DecidableEq, Repr

/-- R27: the roles of a contact input. -/
inductive Role where
  | none | trip | alert | alarm | evacuate | triggerOnly
deriving DecidableEq, Repr

/-- R27: the force of a general output. -/
inductive Force where
  | follow | on | off
deriving DecidableEq, Repr

/-- R36: the causes of the isolation latch. -/
inductive Cause where
  | power
  | channelTrip (c : ChanId)
  | channelFault (c : ChanId)
  | contact (i : PairIx)
  | action
  | store
deriving DecidableEq, Repr

/-- R79: the states of a call record. -/
inductive CallState where
  | idle | collecting | requested | held | alerting | ringing | connected | cleared
deriving DecidableEq, Repr

/-- R79: the roles of a call record. -/
inductive CallRole where
  | origin | destination | localCall
deriving DecidableEq, Repr

/-- R79: the clear causes. -/
inductive ClearCause where
  | normal | preempted | lost | timeout | refused | busy | invalid | congestion
deriving DecidableEq, Repr

/-- R79: a dialled destination. -/
inductive Dialled where
  | surface
  | station (number spurDigit : Nat)
  | emergency
deriving DecidableEq, Repr

/-- R105: the states of a master block; the mirror of a far end uses the same names. -/
inductive BlockState where
  | closed | free | held | draining | closing | fault
deriving DecidableEq, Repr

/-- R107: the standing of the claim in hand. -/
inductive Standing where
  | asked | waiting | granted
deriving DecidableEq, Repr

/-- The two ends of a block: the master end (outbye) and the far end (inbye). -/
inductive BlockEnd where
  | master | far
deriving DecidableEq, Repr

/-- R112: the anomalies of a block. -/
inductive Anomaly where
  | order (t : Nat)
  | stray (t : Nat) (atEnd : BlockEnd)
  | overdue (t : Nat)
deriving DecidableEq, Repr

/-- R125: the aspects of a traffic light. -/
inductive Light where
  | dark | go | stop
deriving DecidableEq, Repr

/-- R127: the status a truck reports. -/
inductive TruckReport where
  | loaded | empty | breakdown | emergency
deriving DecidableEq, Repr

/-- R133: the states of a refuge. -/
inductive RefugeState where
  | standby | openDoor | occupied | distress | fault
deriving DecidableEq, Repr

/-- R145: the states of a trigger list. -/
inductive ListState where
  | empty | armed | fired
deriving DecidableEq, Repr

/-- R170: the tones. -/
inductive Tone where
  | silent | dial | ringback | busy | congestion | hold | preempt | alert
deriving DecidableEq, Repr

/-- R170: the messages an owner block queues for a head (HELLO ACK does not pass through the queue). -/
inductive OutMsg where
  | ring (on : Bool)
  | tone (t : Tone)
  | lights (l : Light)
  | stopAll (on : Bool)
  | refugePrepare
  | refugeStanddown
  | rollQuery
deriving DecidableEq, Repr

/-- R62, R198: a neighbour message, its fields as the numbers its octets carry. -/
inductive NMsg where
  | claim (block t : Nat)
  | grant (block t : Nat)
  | wait (block t : Nat)
  | exit (block t : Nat)
  | masterState (block st dir count : Nat) (tags : List Nat) (mWait fWait : Nat)
  | farState (block readiness : Nat)
deriving DecidableEq, Repr

/-- The results of an order (chapter 11, Value encodings). -/
inductive Result where
  | done | busy | locked | notReady | invalid | full | inUse | conflict | unknown | error
deriving DecidableEq, Repr

/-! ## The loadable tables -/

/-- R147: an action with its fields. -/
inductive Action where
  | setOutput (o : PairIx) (f : Force)
  | soundHandsets
  | closeBlock (block : Nat)
  | raiseLevel (l : Level)
  | setTrip
  | clearCallsAbove (priority : Nat)
  | refugePrepare (r : PairIx)
  | stopTrucks
  | sendNote (code : Nat)
deriving DecidableEq, Repr

/-- R150: a trigger condition. The band named by CHANNEL AT LEAST is held as its number 1 to 3. -/
inductive TriggerCond where
  | levelAtLeast (l : Level)
  | channelAtLeast (c : ChanId) (band : Nat)
  | contactActive (i : PairIx)
  | refugeOccupied (r : PairIx)
  | blockFault (block : Nat)
deriving DecidableEq, Repr

/-- R155: a queue condition. The band named by CHANNEL AT MOST is held as its number 0 to 2. -/
inductive QueueCond where
  | tagSeen (p : SpurId) (t : Nat)
  | delay (seconds : Nat)
  | channelAtMost (c : ChanId) (band : Nat)
  | levelAtMost (l : Level)
  | blockFree (block : Nat)
deriving DecidableEq, Repr

/-- R186: the COMMISSION entry. An output level of NONE is `none`. -/
structure Commission where
  station   : Nat
  district  : Fin 16
  code      : Nat
  spacing   : Nat
  threshold : Nat
  roles     : Tab 2 Role
  outLevels : Tab 2 (Option Level)
deriving DecidableEq, Repr

/-- R161: a SPURS entry. -/
structure SpurCfg where
  type     : SpurType
  refuge   : Bool
  priority : Nat
deriving DecidableEq, Repr

/-- R1: a CHANNELS entry. -/
structure ChanCfg where
  spur       : Option SpurId
  sub        : Nat
  kind       : Kind
  zero       : Nat
  span       : Nat
  shift      : Nat
  l1         : Nat
  l2         : Nat
  l3         : Nat
  hyst       : Nat
  confirm    : Nat
  tripOn     : Bool
  faultTrips : Bool
  staleLimit : Nat
  window     : Nat
  decimation : Nat
deriving DecidableEq, Repr

/-- R103: a BLOCKS entry. -/
structure BlockCfg where
  id      : Nat
  role    : BlockEnd
  spur    : Option SpurId
  convoy  : Nat
  transit : Nat
deriving DecidableEq, Repr

/-- R131: a REFUGES entry. -/
structure RefugeCfg where
  spur  : Option SpurId
  chan1 : Option ChanId
  chan2 : Option ChanId
deriving DecidableEq, Repr

/-- R153: a TRIGGER LISTS entry; an empty list has no condition and no actions. -/
structure TriggerCfg where
  cond    : Option TriggerCond
  actions : List Action
deriving DecidableEq, Repr

/-- The seven loadable tables (R184, R187). -/
structure Tables where
  commission : Commission
  levelMap   : Tab 5 Nat
  spurs      : Tab 8 SpurCfg
  channels   : Tab 16 ChanCfg
  blocks     : Tab 4 BlockCfg
  refuges    : Tab 2 RefugeCfg
  triggers   : Tab 2 TriggerCfg
deriving DecidableEq, Repr

/-- The factory tables (R5, R27, R103, R131, R145, R161, R186). -/
def factoryTables : Tables where
  commission :=
    { station := 0, district := 0, code := 0, spacing := 25, threshold := 10,
      roles := #v[.none, .none], outLevels := #v[some 2, some 3] }
  levelMap := #v[15, 15, 7, 3, 0]
  spurs := Tab.fill 8 { type := .off, refuge := false, priority := 8 }
  channels := Tab.fill 16
    { spur := none, sub := 0, kind := .methane, zero := 0, span := 4096, shift := 0, l1 := 100, l2 := 125, l3 := 150,
      hyst := 10, confirm := 3, tripOn := true, faultTrips := true, staleLimit := 5, window := 16, decimation := 1 }
  blocks := Tab.fill 4 { id := 0, role := .master, spur := none, convoy := 1, transit := 300 }
  refuges := Tab.fill 2 { spur := none, chan1 := none, chan2 := none }
  triggers := Tab.fill 2 { cond := none, actions := [] }

/-- R187, R188: the Settings Store, one stored copy with the outcome of its integrity check. -/
structure Store where
  tables : Tables
  good   : Bool
deriving DecidableEq, Repr

/-! ## The blocks' state -/

/-- R3: the state fields of one Channel Table entry. -/
structure Channel where
  status       : ChanStatus
  f            : Option Nat
  v            : Option Nat
  n            : Nat
  m            : Option Nat
  overSet      : Bool
  underSet     : Bool
  lastReported : ChanStatus
  stale        : Nat
  readings     : Nat
  ring         : List (Option Nat)
  wpos         : Nat
  valid        : Nat
deriving DecidableEq, Repr

/-- R27, R41: a contact input. -/
structure Contact where
  active : Bool
  run    : Nat
deriving DecidableEq, Repr

/-- R27: the Level Unit (the PREPARE flag is kept with the Management Engine). -/
structure LevelUnit where
  localLevel  : Level
  ordered     : Tab 16 Level
  /-- Ordered-level source: set for RECEIVED, clear for HELD. -/
  received    : Bool
  effective   : Level
  mask        : Nat
  latch       : Bool
  causes      : List Cause
  firstCause  : Option (Cause × Nat)
  accumulated : List Cause
  output      : Bool
  hold        : Level
  contacts    : Tab 2 Contact
  force       : Tab 2 Force
  drive       : Tab 2 Bool
deriving DecidableEq, Repr

/-- R48, R55, R57, R62: one line port. -/
structure LinePort where
  framed   : Bool
  /-- R48: how far the expected slot of a FRAMED port stands past the place in which a cell arrives, modulo 32 (log entry 10). -/
  shift    : Nat
  errRun   : Nat
  up       : Bool
  miss     : Nat
  good     : Nat
  total    : Nat
  window   : Nat
  degraded : Bool
  queue    : List NMsg
  /-- Whether a valid segment cell has been handed over in the present cycle (R55). -/
  segSeen  : Bool
  /-- The payload of the last valid segment cell counted while LOST: the one PORT_UP takes (R55). -/
  heldCell : List Octet
deriving DecidableEq, Repr

/-- Chapter 3: the state the line ports share. -/
structure Line where
  inPort        : LinePort
  outPort       : LinePort
  cycle         : Nat
  /-- Whether the present cycle's number has been taken from a segment cell (R50). -/
  cycleTaken    : Bool
  position      : Option Nat
  inbyePos      : Option Nat
  inbyeEol      : Option Bool
  endOfLine     : Bool
  autonomous    : Bool
  /-- SURFACE PRESENT and ordered levels of the last valid inbye-travelling segment cell taken (R30, R53). -/
  rxSurface     : Bool
  rxOrdered     : Tab 16 Level
  /-- Received merged levels (R31, R52). -/
  rxMerged      : Tab 16 Level
  discarded     : Nat
  /-- Cycles since the present 250-cycle window began, and whether a window end is due (R57). -/
  windowPos     : Nat
  windowDue     : Bool
deriving DecidableEq, Repr

/-- R68 to R71: what an entry sends in a cycle: a vacant cell, a payload, or the voice of a spur as it stands when the cell
is sent (R70). -/
inductive SlotOut where
  | vacant
  | cell (payload : List Octet)
  | voice (p : SpurId)
deriving DecidableEq, Repr

/-- R66: one Slot Map entry; `out` is what the entry has decided to send in the node's next cycle (R47), none until this
cycle's arrival has been handled. -/
structure SlotEntry where
  drop       : Option RecId
  add        : Option RecId
  continuity : Nat
  out        : Option SlotOut
deriving DecidableEq, Repr

/-- Chapter 4: the Slot Switch. -/
structure SlotSwitch where
  map        : Tab 60 SlotEntry
  bridge     : List (SpurId × SpurId)
  collisions : Nat
deriving DecidableEq, Repr

/-- R79: one call record; `refuge` marks a refuge call (R85). -/
structure CallRec where
  state    : CallState
  callNo   : Option Nat
  role     : Option CallRole
  origin   : Option SpurId
  dest     : Option SpurId
  priority : Option Nat
  digits   : List Nat
  dialled  : Option Dialled
  far      : Option Side
  slot     : Option Slot
  entry    : Option Nat
  timer    : Option Nat
  cause    : Option ClearCause
  refuge   : Bool
deriving DecidableEq, Repr

/-- R79, R80, R82: the Call Controller. `clearing` lists the CLEARED records, oldest first; `heldOrder` the HELD records in
the order in which they entered HELD (R89). -/
structure Calls where
  recs      : Tab 16 CallRec
  counter   : Nat
  clearing  : List RecId
  heldOrder : List RecId
  /-- Set while the spur's handset is OFF HOOK. -/
  hooks     : Tab 8 Bool
  refused   : Nat
deriving DecidableEq, Repr

/-- R106: an entry of a truck list or fault list. -/
structure Truck where
  tag     : Nat
  cycle   : Nat
  age     : Nat
  overdue : Bool
deriving DecidableEq, Repr

/-- R105: the master record. -/
structure Master where
  state     : BlockState
  dir       : Option Side
  list      : List Truck
  faults    : List Truck
  faultDir  : Option Side
  mWait     : Option Nat
  fWait     : Option Nat
  goTag     : Option Nat
  memory    : List Nat
  farReady  : Bool
  anomalies : List Anomaly
  dropped   : Nat
deriving DecidableEq, Repr

/-- R107: the mirror of a far end. -/
structure Mirror where
  state : BlockState
  dir   : Option Side
  count : Nat
  tags  : List Nat
  mWait : Option Nat
  fWait : Option Nat
deriving DecidableEq, Repr

/-- R107: the far-end record. -/
structure FarEnd where
  mirror     : Mirror
  claim      : Option (Nat × Standing)
  exits      : List Nat
  localFault : Bool
  readySent  : Bool
deriving DecidableEq, Repr

/-- The two records of a Block Table entry; its role says which one is in force. -/
structure BlockRec where
  master : Master
  far    : FarEnd
deriving DecidableEq, Repr

/-- Chapter 6: the Block Controller. -/
structure Blocks where
  entries    : Tab 4 BlockRec
  /-- The aspect last formed for each TRUCK spur (R125). -/
  lights     : Tab 8 Light
  /-- The STOP ALL value last formed (R126). -/
  stopAll    : Bool
  truckLast  : Tab 8 (Option (Nat × TruckReport × Nat))
  truckAlarm : Option Nat
  period     : Nat
  /-- Set from the start of a cycle until the turn of that cycle has been taken (R118). -/
  turnOpen   : Bool
deriving DecidableEq, Repr

/-- R133: a refuge record. -/
structure Refuge where
  state    : RefugeState
  /-- Set for OPEN. -/
  door     : Bool
  muster   : List Nat
  overflow : Nat
  distress : Bool
  prepared : Bool
deriving DecidableEq, Repr

/-- R146, R151: a change handed to the Action Unit and not yet taken. -/
inductive Notice where
  | level
  | channel (c : ChanId)
  | contact (i : PairIx)
  | refuge (r : PairIx)
  | block (id : Nat)
  | tag (p : SpurId) (t : Nat)
deriving DecidableEq, Repr

/-- R152, R157: where a failed action stood. -/
inductive FailSource where
  | list (x : PairIx)
  | queue
deriving DecidableEq, Repr

/-- R145: the last failure. -/
structure Failure where
  source   : FailSource
  position : Nat
  action   : Action
deriving DecidableEq, Repr

/-- R145: the Action Unit; the working lists themselves are in the working tables. -/
structure ActionUnit where
  lists        : Tab 2 ListState
  last         : Tab 2 Bool
  queue        : List (Action × QueueCond)
  headDelay    : Nat
  stopTrucks   : Nat
  notes        : List Nat
  notesDropped : Nat
  failure      : Option Failure
  flushed      : Nat
  /-- Changes handed over and not yet taken (R146); empty between commands. -/
  notices      : List Notice
deriving DecidableEq, Repr

/-- R161: one spur record. HELLO ACK pending is `none`, or `some true` for ACCEPTED, `some false` for REFUSED. -/
structure Spur where
  state      : SpurState
  silence    : Nat
  ack        : Option Bool
  offered    : Option HeadType
  queue      : List OutMsg
  voice      : Option (List Octet)
  errored    : Nat
  inDiscard  : Nat
  outDiscard : Nat
  /-- Whether a valid frame has been taken in the present cycle (R164). -/
  heard      : Bool
  /-- The voice dropped from the line for the next frame sent (R69). -/
  dropVoice  : Option (List Octet)
deriving DecidableEq, Repr

/-- R175: an order being assembled. -/
structure Assembly where
  mode  : Nat
  kind  : Nat
  ref   : Octet
  cells : Nat
  body  : List Octet
deriving DecidableEq, Repr

/-- R177: a made reply; `body` starts with the order kind and the result (R199). -/
structure Reply where
  ref  : Octet
  body : List Octet
deriving DecidableEq, Repr

/-- R179: the message in progress; `addr` is the source address fixed by its first cell (mode code and address). -/
structure Progress where
  report : Bool
  ref    : Octet
  body   : List Octet
  sent   : Nat
  addr   : Option (Nat × Nat)
deriving DecidableEq, Repr

/-- R187: a store write in flight. -/
structure StoreWrite where
  copy    : Tables
  bcast   : Bool
  ref     : Octet
  elapsed : Nat
deriving DecidableEq, Repr

/-- Chapter 10: the Management Engine. -/
structure Mgmt where
  asm        : Option Assembly
  replies    : List Reply
  /-- Places of the reply queue reserved for a COMMIT in flight (R177). -/
  reserved   : Nat
  progress   : Option Progress
  credit     : Nat
  spacing    : Nat
  accessOpen : Bool
  period     : Nat
  attempts   : Nat
  prepare    : Bool
  /-- R181: the 58 holding places in class order; none is not pending, otherwise the superseded count. -/
  holding    : Tab 58 (Option Nat)
  discarded  : Nat
  malformed  : Nat
  storeFault : Bool
  write      : Option StoreWrite
  /-- R189: a restart is pending; the flag says whether its order was broadcast. -/
  restart    : Option Bool
  /-- The payloads the slot 0 cells of the next cycle will carry, none for vacant (R174, R178). -/
  toInbye    : Option (List Octet)
  toOutbye   : Option (List Octet)
deriving DecidableEq, Repr

/-- What the node sent in the last cycle it kept: 32 cells on each port, and a frame or nothing on each spur. -/
structure Pins where
  inbyeTx  : List (List Octet)
  outbyeTx : List (List Octet)
  spurTx   : Tab 8 (Option (List Octet))
deriving DecidableEq, Repr

/-- The whole node. `pending` is the queue of commands that wait, first in first out; `powered` is clear after a loss of
supply; `freeCount` is the model's own counter for the free value of Config. -/
structure State where
  pending   : List Instr
  powered   : Bool
  working   : Tables
  store     : Store
  level     : LevelUnit
  air       : Tab 16 Channel
  line      : Line
  slots     : SlotSwitch
  calls     : Calls
  blocks    : Blocks
  refuges   : Tab 2 Refuge
  action    : ActionUnit
  spurs     : Tab 8 Spur
  mgmt      : Mgmt
  pins      : Pins
  freeCount : Nat
deriving DecidableEq, Repr

/-- No command stops the node with a fault: the manual describes none, and every command answers a next state (safe: there
is nothing to raise). -/
inductive Fault where
deriving DecidableEq, Repr

/-- The reasons a command has no meaning. -/
inductive Refusal where
  /-- Raised by exec's arm of a command that has no meaning yet; no arm does so now (safe). -/
  | notModelled (mnemonic : String)
deriving DecidableEq, Repr

/-! ## Values after power-on -/

/-- R3: the state fields after power-on of an entry with window `w`, in use or not. -/
def Channel.start (used : Bool) (w : Nat) : Channel :=
  let st := if used then .noData else .unused
  { status := st, f := none, v := none, n := 0, m := none, overSet := false, underSet := false, lastReported := st, stale := 0,
    readings := 0, ring := List.replicate w none, wpos := 0, valid := 0 }

/-- The line state table of chapter 3, power-on column. -/
def LinePort.start : LinePort :=
  { framed := false, shift := 0, errRun := 0, up := false, miss := 0, good := 0, total := 0, window := 0, degraded := false, queue := [],
    segSeen := false, heldCell := [] }

/-- The line state table of chapter 3, power-on column; end of line and autonomous from power-on (R58, R59). -/
def Line.start : Line :=
  { inPort := .start, outPort := .start, cycle := 0, cycleTaken := false, position := none, inbyePos := none, inbyeEol := none,
    endOfLine := true, autonomous := true, rxSurface := false, rxOrdered := Tab.fill 16 0, rxMerged := Tab.fill 16 0,
    discarded := 0, windowPos := 0, windowDue := false }

/-- R66: a PASS entry. -/
def SlotEntry.pass : SlotEntry := { drop := none, add := none, continuity := 0, out := none }

/-- R77: the Slot Switch after power-on. -/
def SlotSwitch.start : SlotSwitch := { map := Tab.fill 60 .pass, bridge := [], collisions := 0 }

/-- R79: an IDLE record, every other field absent. -/
def CallRec.idle : CallRec :=
  { state := .idle, callNo := none, role := none, origin := none, dest := none, priority := none, digits := [], dialled := none,
    far := none, slot := none, entry := none, timer := none, cause := none, refuge := false }

/-- R102: the Call Controller after power-on. -/
def Calls.start : Calls :=
  { recs := Tab.fill 16 .idle, counter := 1, clearing := [], heldOrder := [], hooks := Tab.fill 8 false, refused := 0 }

/-- R105: the master record after power-on and restart. -/
def Master.start : Master :=
  { state := .closed, dir := none, list := [], faults := [], faultDir := none, mWait := none, fWait := none, goTag := none,
    memory := [], farReady := false, anomalies := [], dropped := 0 }

/-- R107: the far-end record after power-on and restart; the local fault is given. -/
def FarEnd.start (localFault : Bool) : FarEnd :=
  { mirror := { state := .closed, dir := none, count := 0, tags := [], mWait := none, fWait := none },
    claim := none, exits := [], localFault := localFault, readySent := false }

/-- R130: the Block Controller after power-on. No spur and no port is UP then, so a far entry has its local fault set. -/
def Blocks.start : Blocks :=
  { entries := Tab.fill 4 { master := .start, far := .start true }, lights := Tab.fill 8 .dark, stopAll := false,
    truckLast := Tab.fill 8 none, truckAlarm := none, period := 0, turnOpen := true }

/-- R133: a refuge record after power-on. -/
def Refuge.start (configured : Bool) : Refuge :=
  { state := if configured then .fault else .standby, door := false, muster := [], overflow := 0, distress := false,
    prepared := false }

/-- R145: the Action Unit after power-on, before its lists are evaluated. -/
def ActionUnit.start (t : Tables) : ActionUnit :=
  { lists := t.triggers.mapIx fun _ l => if l.cond.isNone then .empty else .armed
    last := Tab.fill 2 false, queue := [], headDelay := 0, stopTrucks := 0, notes := [], notesDropped := 0, failure := none,
    flushed := 0, notices := [] }

/-- R161: a spur record after power-on, OFF or DOWN. -/
def Spur.start (t : SpurType) : Spur :=
  { state := if t = .off then .off else .down, silence := 0, ack := none, offered := none, queue := [], voice := none,
    errored := 0, inDiscard := 0, outDiscard := 0, heard := false, dropVoice := none }

/-- Chapter 10, Management Engine state after power-on. -/
def Mgmt.start (storeFault : Bool) : Mgmt :=
  { asm := none, replies := [], reserved := 0, progress := none, credit := 0, spacing := 0, accessOpen := false, period := 0,
    attempts := 5, prepare := false, holding := Tab.fill 58 none, discarded := 0, malformed := 0, storeFault := storeFault,
    write := none, restart := none, toInbye := none, toOutbye := none }

/-- R27: the Level Unit after power-on, before its levels are formed: the latch set by POWER, and by STORE too when the
store fails its check (R188). -/
def LevelUnit.start (storeFault : Bool) : LevelUnit :=
  let causes := if storeFault then [Cause.power, Cause.store] else [Cause.power]
  { localLevel := 0, ordered := Tab.fill 16 0, received := false, effective := 0, mask := 15, latch := true, causes := causes,
    firstCause := some (.power, 0), accumulated := causes, output := true, hold := 0,
    contacts := Tab.fill 2 { active := false, run := 0 }, force := Tab.fill 2 .follow, drive := Tab.fill 2 false }

/-- R188: the node as power-on leaves it, before its levels are formed and its lists evaluated. The working tables are the
stored ones when the store passes its check, and the factory tables otherwise. -/
def State.poweredOn (store : Store) (pending : List Instr) (freeCount : Nat) : State :=
  let t := if store.good then store.tables else factoryTables
  let on := t.commission.station != 0
  { pending := pending
    powered := true
    working := t
    store := store
    level := .start (!store.good)
    air := t.channels.mapIx fun _ c => .start (on && c.spur.isSome) c.window
    line := .start
    slots := .start
    calls := .start
    blocks := .start
    refuges := t.refuges.mapIx fun _ r => .start (on && r.spur.isSome)
    action := .start t
    spurs := t.spurs.mapIx fun _ c => .start (if on then c.type else .off)
    mgmt := .start (!store.good)
    pins := { inbyeTx := [], outbyeTx := [], spurTx := Tab.fill 8 none }
    freeCount := freeCount }

/-- A new part after power-on: its store holds the factory tables and passes its check (chapter 10, The Settings Store), so
the node is uncommissioned, every level is NORMAL, the latch is set by POWER and the isolation output is asserted. -/
def State.reset : State := State.poweredOn { tables := factoryTables, good := true } [] 0

end Sys2Proof.Machine
end

