-- ==== Sys2Proof/Machine/Operands.lean ====
section
/-! DEFINITION. The layouts of chapter 11: numbers in octets, the check word, line cells, segment cells, neighbour messages,
management cells, spur frames, head messages, order bodies and table entries, read and written. -/

namespace Sys2Proof.Machine

/-! ## Numbers in octets -/

/-- One octet, unsigned. -/
def octet (n : Nat) : Octet := BitVec.ofNat 8 n
/-- Two octets, most significant first. -/
def be16 (n : Nat) : List Octet := [octet (n / 256), octet n]
/-- Three octets, most significant first. -/
def be24 (n : Nat) : List Octet := [octet (n / 65536), octet (n / 256), octet n]
/-- The octet at place `i`, 0 past the end. -/
def octAt (l : List Octet) (i : Nat) : Nat := (l[i]?.getD 0).toNat
/-- The two octets from place `i`, as a number. -/
def num16 (l : List Octet) (i : Nat) : Nat := octAt l i * 256 + octAt l (i + 1)
/-- A flag: 0 clear, 1 set. -/
def flagOctet (b : Bool) : Octet := if b then 1 else 0
/-- A quantity that may be 0 in one octet, all bits one when absent. -/
def opt8 (o : Option Nat) : Octet := octet (o.getD 0xFF)
/-- A quantity that may be 0 in two octets. -/
def opt16 (o : Option Nat) : List Octet := be16 (o.getD 0xFFFF)
/-- A quantity that may be 0 in three octets. -/
def opt24 (o : Option Nat) : List Octet := be24 (o.getD 0xFFFFFF)
/-- An identity that is never 0 when present: its number (index + 1), 0 when absent. -/
def ident {n : Nat} (o : Option (Fin n)) : Octet := octet (match o with | some i => i.val + 1 | none => 0)
/-- The index of an identity octet 1 to n, or none. -/
def identIx (n k : Nat) : Option (Fin n) := if h : 1 ≤ k ∧ k ≤ n then some ⟨k - 1, by omega⟩ else none
/-- A tag list of varying length: a count, then the tags. -/
def tagList (l : List Nat) : List Octet := octet l.length :: l.flatMap be16
/-- `l` cut or filled with 0 to `n` octets. -/
def padTo (n : Nat) (l : List Octet) : List Octet := l.take n ++ List.replicate (n - l.length) 0

/-! ## The check word (R195) -/

/-- One bit through the register: shift, and combine with 0x1021 when the bit shifted out differs from the bit taken. -/
def checkBit (r b : Nat) : Nat :=
  let shifted := (r * 2) % 65536
  if r / 32768 = b then shifted else Nat.xor shifted 0x1021
/-- One octet, bit 7 first. -/
def checkOctet (r : Nat) (o : Octet) : Nat :=
  [7, 6, 5, 4, 3, 2, 1, 0].foldl (fun r k => checkBit r (o.toNat / 2 ^ k % 2)) r
/-- The check word of a string of octets, from a register of all ones. -/
def checkWord (l : List Octet) : Nat := l.foldl checkOctet 0xFFFF
/-- The octets followed by their check word. -/
def withCheck (l : List Octet) : List Octet := l ++ be16 (checkWord l)
/-- The check word of a carrier of `n` octets before it is good. -/
def checkGood (n : Nat) (l : List Octet) : Bool := l.length == n + 2 && num16 l n == checkWord (l.take n)

/-! ## Line cells (R48, R194 to R196) -/

/-- A line cell as sent in `slot`: occupied with a payload, or vacant with every payload octet 0 (R194). -/
def wireCell (slot : Nat) (payload : Option (List Octet)) : List Octet :=
  withCheck (octet ((if payload.isSome then 128 else 0) + slot % 32) :: 0 :: padTo 32 (payload.getD []))
def cellGood (c : List Octet) : Bool := checkGood 34 c
def cellSlot (c : List Octet) : Nat := octAt c 0 % 32
def cellOccupied (c : List Octet) : Bool := 128 ≤ octAt c 0
def cellPayload (c : List Octet) : List Octet := (c.drop 2).take 32

/-! ## Segment cells (R51, R52, R197) -/

/-- R29, R31: a level field holding a value above 4 is taken as EVACUATE. -/
def levelOf (n : Nat) : Level := if h : n < 5 then ⟨n, h⟩ else 4
/-- R197: the 16 levels of a segment cell payload. -/
def segLevels (p : List Octet) : Tab 16 Level :=
  Tab.build 16 fun d => levelOf (if d.val % 2 = 0 then octAt p (3 + d.val / 2) / 16 else octAt p (3 + d.val / 2) % 16)
/-- R197: the 16 levels as 8 octets. -/
def levelOctets (t : Tab 16 Level) : List Octet :=
  (List.finRange 8).map fun k =>
    octet ((t.get ⟨2 * k.val, by omega⟩).val * 16 + (t.get ⟨2 * k.val + 1, by omega⟩).val)
def segFlag (p : List Octet) : Bool := 128 ≤ octAt p 0
def segSender (p : List Octet) : Nat := octAt p 0 % 64
def segCycle (p : List Octet) : Nat := num16 p 1

/-- A tag octet pair of a message: 0 for none. -/
def tagOpt (t : Nat) : Option Nat := if t = 0 then none else some t
def tagNum (o : Option Nat) : Nat := o.getD 0

/-- The neighbour message field, octets 11 to 31 of a segment cell. -/
def nMsgOctets : Option NMsg → List Octet
  | none => padTo 21 []
  | some (.claim b t) => padTo 21 (1 :: octet b :: be16 t)
  | some (.grant b t) => padTo 21 (2 :: octet b :: be16 t)
  | some (.wait b t) => padTo 21 (3 :: octet b :: be16 t)
  | some (.exit b t) => padTo 21 (4 :: octet b :: be16 t)
  | some (.masterState b st d n tags mw fw) =>
      padTo 21 (5 :: octet b :: octet st :: octet d :: octet n ::
        (padTo 8 (tags.flatMap be16) ++ be16 mw ++ be16 fw))
  | some (.farState b r) => padTo 21 [6, octet b, octet r]

/-- The neighbour message of a segment cell payload; a kind that is none of the six is handed to nobody (R196, R119). -/
def segMessage (p : List Octet) : Option NMsg :=
  let b := octAt p 12
  match octAt p 11 with
  | 1 => some (.claim b (num16 p 13))
  | 2 => some (.grant b (num16 p 13))
  | 3 => some (.wait b (num16 p 13))
  | 4 => some (.exit b (num16 p 13))
  | 5 => some (.masterState b (octAt p 13) (octAt p 14) (octAt p 15)
            [num16 p 16, num16 p 18, num16 p 20, num16 p 22] (num16 p 24) (num16 p 26))
  | 6 => some (.farState b (octAt p 13))
  | _ => none

/-- The payload of a segment cell: flag, sender position, octets 1 and 2, levels, message. -/
def segPayload (flag : Bool) (sender cycle : Nat) (levels : Tab 16 Level) (m : Option NMsg) : List Octet :=
  octet ((if flag then 128 else 0) + sender) :: (be16 cycle ++ levelOctets levels ++ nMsgOctets m)

/-! ## Named codes (chapter 11, Value encodings) -/

def statusCode : ChanStatus → Nat
  | .normal => 0 | .alert => 1 | .alarm => 2 | .trip => 3 | .noData => 4 | .warmup => 5 | .fault => 6 | .unused => 7
def kindCode : Kind → Nat
  | .methane => 0 | .carbonMonoxide => 1 | .carbonDioxide => 2 | .oxygen => 3 | .airflow => 4
def spurTypeCode : SpurType → Nat
  | .off => 0 | .gas => 1 | .voice => 2 | .truck => 3 | .refuge => 4
def spurTypeOf : Nat → Option SpurType
  | 0 => some .off | 1 => some .gas | 2 => some .voice | 3 => some .truck | 4 => some .refuge | _ => none
/-- R202: a head type code 0 or above 4 is UNKNOWN. -/
def headTypeOf : Nat → HeadType
  | 1 => .gas | 2 => .voice | 3 => .truck | 4 => .refuge | _ => .unknown
def headTypeCode : Option HeadType → Nat
  | none => 0 | some .gas => 1 | some .voice => 2 | some .truck => 3 | some .refuge => 4 | some .unknown => 5
def headMatches : HeadType → SpurType → Bool
  | .gas, .gas => true | .voice, .voice => true | .truck, .truck => true | .refuge, .refuge => true | _, _ => false
def blockStateCode : BlockState → Nat
  | .closed => 0 | .free => 1 | .held => 2 | .draining => 3 | .closing => 4 | .fault => 5
def blockStateOf : Nat → Option BlockState
  | 0 => some .closed | 1 => some .free | 2 => some .held | 3 => some .draining | 4 => some .closing | 5 => some .fault
  | _ => none
def sideCode : Option Side → Nat
  | none => 0 | some .inbye => 1 | some .outbye => 2
/-- A direction code; the outer none is a code above 2. -/
def sideOf : Nat → Option (Option Side)
  | 0 => some none | 1 => some (some .inbye) | 2 => some (some .outbye) | _ => none
def roleCode : Role → Nat
  | .none => 0 | .trip => 1 | .alert => 2 | .alarm => 3 | .evacuate => 4 | .triggerOnly => 5
def roleOf : Nat → Option Role
  | 0 => some .none | 1 => some .trip | 2 => some .alert | 3 => some .alarm | 4 => some .evacuate | 5 => some .triggerOnly
  | _ => none
/-- Output level codes NONE 0, ALERT 1 to EVACUATE 4: a level's own number, 0 for NONE. -/
def outLevelOf (n : Nat) : Option (Option Level) :=
  if n = 0 then some none else if h : n < 5 then some (some ⟨n, h⟩) else none
def outLevelCode (o : Option Level) : Nat := match o with | none => 0 | some l => l.val
def forceCode : Force → Nat
  | .follow => 0 | .on => 1 | .off => 2
def forceOf : Nat → Option Force
  | 0 => some .follow | 1 => some .on | 2 => some .off | _ => none
def resultCode : Result → Nat
  | .done => 0 | .busy => 1 | .locked => 2 | .notReady => 3 | .invalid => 4 | .full => 5 | .inUse => 6 | .conflict => 7
  | .unknown => 8 | .error => 9
def callStateCode : CallState → Nat
  | .idle => 0 | .collecting => 1 | .requested => 2 | .held => 3 | .alerting => 4 | .ringing => 5 | .connected => 6
  | .cleared => 7
def callRoleCode : Option CallRole → Nat
  | none => 0 | some .origin => 1 | some .destination => 2 | some .localCall => 3
def clearCode : Option ClearCause → Nat
  | none => 0 | some .normal => 1 | some .preempted => 2 | some .lost => 3 | some .timeout => 4 | some .refused => 5
  | some .busy => 6 | some .invalid => 7 | some .congestion => 8
def dialledOctets : Option Dialled → List Octet
  | none => [0, 0, 0] | some .surface => [1, 0, 0] | some (.station n d) => [2, octet n, octet d] | some .emergency => [3, 0, 0]
def refugeStateCode : RefugeState → Nat
  | .standby => 0 | .openDoor => 1 | .occupied => 2 | .distress => 3 | .fault => 4
def doorCode (isOpen : Bool) : Nat := if isOpen then 0 else 1
def spurStateCode : SpurState → Nat
  | .off => 0 | .down => 1 | .starting => 2 | .up => 3 | .mismatch => 4
def listStateCode : ListState → Nat
  | .empty => 0 | .armed => 1 | .fired => 2
def standingCode : Option Standing → Nat
  | none => 0 | some .asked => 1 | some .waiting => 2 | some .granted => 3
def truckReportCode : TruckReport → Nat
  | .loaded => 0 | .empty => 1 | .breakdown => 2 | .emergency => 3
def truckReportOf : Nat → Option TruckReport
  | 0 => some .loaded | 1 => some .empty | 2 => some .breakdown | 3 => some .emergency | _ => none
def lightCode : Light → Nat
  | .dark => 0 | .go => 1 | .stop => 2
def toneCode : Tone → Nat
  | .silent => 0 | .dial => 1 | .ringback => 2 | .busy => 3 | .congestion => 4 | .hold => 5 | .preempt => 6 | .alert => 7
def anomalyOctets : Anomaly → List Octet
  | .order t => 1 :: (be16 t ++ [0])
  | .stray t .master => 2 :: (be16 t ++ [1])
  | .stray t .far => 2 :: (be16 t ++ [2])
  | .overdue t => 3 :: (be16 t ++ [0])
def causeOctets : Option Cause → List Octet
  | none => [0, 0] | some .power => [1, 0] | some (.channelTrip c) => [2, octet (c.val + 1)]
  | some (.channelFault c) => [3, octet (c.val + 1)] | some (.contact i) => [4, octet (i.val + 1)]
  | some .action => [5, 0] | some .store => [6, 0]
/-- A set of channels as two octets, channel 1 in the least significant bit. -/
def chanSet (p : ChanId → Bool) : List Octet :=
  be16 ((List.finRange 16).foldl (fun n c => n + if p c then 2 ^ c.val else 0) 0)
/-- A set of latch causes as 5 octets. -/
def causeSet (l : List Cause) : List Octet :=
  octet ((if Cause.power ∈ l then 1 else 0) + (if Cause.action ∈ l then 2 else 0) + (if Cause.store ∈ l then 4 else 0)
    + (if Cause.contact 0 ∈ l then 8 else 0) + (if Cause.contact 1 ∈ l then 16 else 0))
  :: (chanSet (fun c => Cause.channelTrip c ∈ l) ++ chanSet (fun c => Cause.channelFault c ∈ l))

/-! ## Spur frames (R163, R201, R202) -/

/-- R201: the idle voice pattern. -/
def idleVoice : List Octet := List.replicate 32 0xD5

/-- A message to a head, kind code first. -/
def outMsgOctets : OutMsg → List Octet
  | .ring on => [130, flagOctet on]
  | .tone t => [131, octet (toneCode t)]
  | .lights l => [132, octet (lightCode l)]
  | .stopAll on => [133, flagOctet on]
  | .refugePrepare => [134]
  | .refugeStanddown => [135]
  | .rollQuery => [136]
/-- HELLO ACK with the spur type and the verdict. -/
def helloAckOctets (t : SpurType) (accepted : Bool) : List Octet := [129, octet (spurTypeCode t), if accepted then 0 else 1]

/-- A spur frame as sent: START flag, voice field, message. -/
def wireFrame (start : Bool) (voice msg : List Octet) : List Octet :=
  withCheck ((if start then 128 else 0) :: (padTo 32 voice ++ octet msg.length :: padTo 12 msg))
def frameGood (f : List Octet) : Bool := checkGood 46 f
def frameVoice (f : List Octet) : List Octet := (f.drop 1).take 32

/-- A message from a head (R168), its fields as the numbers its octets carry. -/
inductive HeadMsg where
  | hello (headType : Nat)
  | reading (sub raw quality : Nat)
  | offhook
  | onhook
  | digit (d : Nat)
  | tag (t sense : Nat)
  | truckStatus (t status : Nat)
  | door (v : Nat)
  | checkin (t : Nat)
  | checkout (t : Nat)
  | distress
deriving DecidableEq, Repr

/-- R202: the message in the octets of a message field; none when it cannot be read (unknown kind, or too short). -/
def headMsgOf (m : List Octet) : Option HeadMsg :=
  let n := m.length
  match octAt m 0 with
  | 1 => if 2 ≤ n then some (.hello (octAt m 1)) else none
  | 2 => if 5 ≤ n then some (.reading (octAt m 1) (num16 m 2) (octAt m 4)) else none
  | 3 => some .offhook
  | 4 => some .onhook
  | 5 => if 2 ≤ n then some (.digit (octAt m 1)) else none
  | 6 => if 4 ≤ n then some (.tag (num16 m 1) (octAt m 3)) else none
  | 7 => if 4 ≤ n then some (.truckStatus (num16 m 1) (octAt m 3)) else none
  | 8 => if 2 ≤ n then some (.door (octAt m 1)) else none
  | 9 => if 3 ≤ n then some (.checkin (num16 m 1)) else none
  | 10 => if 3 ≤ n then some (.checkout (num16 m 1)) else none
  | 11 => some .distress
  | _ => none

/-- What a valid frame carries: nothing, a message that cannot be read, or a message. -/
inductive FrameMsg where
  | nothing
  | unreadable
  | msg (m : HeadMsg)
deriving DecidableEq, Repr

/-- R202: octet 33 is the length; above 12 the message cannot be read. -/
def frameMsg (f : List Octet) : FrameMsg :=
  let len := octAt f 33
  if len = 0 then .nothing
  else if 12 < len then .unreadable
  else match headMsgOf ((f.drop 34).take len) with
    | some m => .msg m
    | none => .unreadable

/-! ## Management cells and orders (R174, R199) -/

/-- The header of a management cell. -/
structure MgmtHeader where
  mode   : Nat
  kind   : Nat
  addr   : Nat
  part   : Nat
  length : Nat
  ref    : Octet
deriving DecidableEq, Repr

def mgmtHeader (p : List Octet) : MgmtHeader :=
  { mode := octAt p 0 / 64, kind := octAt p 0 % 64, addr := octAt p 1, part := octAt p 2 / 32, length := octAt p 2 % 32,
    ref := p[3]?.getD 0 }
/-- R174, R199: unknown address mode or part marker, or a body length above 28. -/
def MgmtHeader.malformed (h : MgmtHeader) : Bool := h.mode == 0 || 4 ≤ h.part || 28 < h.length
def mgmtBody (p : List Octet) (h : MgmtHeader) : List Octet := (p.drop 4).take h.length
/-- The payload of a management cell. -/
def mgmtPayload (mode kind addr part : Nat) (ref : Octet) (body : List Octet) : List Octet :=
  octet (mode * 64 + kind) :: octet addr :: octet (part * 32 + body.length) :: ref :: padTo 28 body

/-- A complete order as its body reads. -/
inductive Order where
  | enquire
  | statusPoll
  | tableRead (table first count : Nat)
  | tableLoad (table first count : Nat) (entries : List Octet)
  | historyRead (channel start count : Nat)
  | commit
  | restart
  | unlock (code : Nat)
  | lock
  | callAssignOrigin (index callNo slot far : Nat)
  | callAssignDestination (spur priority slot far : Nat)
  | callConnect (index callNo : Nat)
  | callRelease (index callNo : Nat)
  | callRefuse (index callNo reason : Nat)
  | tripPrepare
  | tripReset
  | blockOpen (block clear : Nat)
  | blockClose (block : Nat)
  | arm (a0 a1 a2 c0 c1 c2 c3 : Nat)
  | levelClear
  | truckClear
  | outputSet (output force : Nat)
  /-- A kind the node does not know. -/
  | unknown (kind : Nat)
  /-- A known kind whose body does not have the length and form of its kind. -/
  | badForm (kind : Nat)
deriving DecidableEq, Repr

/-- The order kind codes of chapter 11. -/
def Order.code : Order → Nat
  | .enquire => 1 | .statusPoll => 2 | .tableRead .. => 3 | .tableLoad .. => 4 | .historyRead .. => 5 | .commit => 6
  | .restart => 7 | .unlock _ => 8 | .lock => 9 | .callAssignOrigin .. => 10 | .callAssignDestination .. => 11
  | .callConnect .. => 12 | .callRelease .. => 13 | .callRefuse .. => 14 | .tripPrepare => 15 | .tripReset => 16
  | .blockOpen .. => 17 | .blockClose _ => 18 | .arm .. => 19 | .levelClear => 20 | .truckClear => 21 | .outputSet .. => 22
  | .unknown k => k | .badForm k => k

/-- R180: the orders that need engineering access, by kind code: TABLE LOAD, COMMIT, RESTART, TRIP PREPARE, TRIP RESET,
BLOCK OPEN, ARM, LEVEL CLEAR, TRUCK CLEAR, OUTPUT SET. -/
def kindNeedsAccess (k : Nat) : Bool := [4, 6, 7, 15, 16, 17, 19, 20, 21, 22].contains k

/-- R199: the order of a kind and an assembled body. The clear-list option of BLOCK OPEN is 0 or 1 (log entry 21). -/
def orderOf (kind : Nat) (b : List Octet) : Order :=
  let n := b.length
  let o := octAt b
  let plain (x : Order) : Order := if n = 0 then x else .badForm kind
  let sized (k : Nat) (x : Order) : Order := if n = k then x else .badForm kind
  match kind with
  | 1 => plain .enquire
  | 2 => plain .statusPoll
  | 3 => sized 3 (.tableRead (o 0) (o 1) (o 2))
  | 4 => if 3 ≤ n then .tableLoad (o 0) (o 1) (o 2) (b.drop 3) else .badForm kind
  | 5 => sized 3 (.historyRead (o 0) (o 1) (o 2))
  | 6 => plain .commit
  | 7 => plain .restart
  | 8 => sized 2 (.unlock (num16 b 0))
  | 9 => plain .lock
  | 10 => sized 4 (.callAssignOrigin (o 0) (o 1) (o 2) (o 3))
  | 11 => sized 4 (.callAssignDestination (o 0) (o 1) (o 2) (o 3))
  | 12 => sized 2 (.callConnect (o 0) (o 1))
  | 13 => sized 2 (.callRelease (o 0) (o 1))
  | 14 => sized 3 (.callRefuse (o 0) (o 1) (o 2))
  | 15 => plain .tripPrepare
  | 16 => plain .tripReset
  | 17 => sized 2 (if o 1 ≤ 1 then .blockOpen (o 0) (o 1) else .badForm kind)
  | 18 => sized 1 (.blockClose (o 0))
  | 19 => sized 7 (.arm (o 0) (o 1) (o 2) (o 3) (o 4) (o 5) (o 6))
  | 20 => plain .levelClear
  | 21 => plain .truckClear
  | 22 => sized 2 (.outputSet (o 0) (o 1))
  | k => .unknown k

/-! ## Actions and conditions -/

/-- R147: an action from its kind and two field octets; none when a code or a field is out of range. -/
def actionOf (k x y : Nat) : Option Action :=
  match k with
  | 1 => match identIx 2 x, forceOf y with
    | some o, some f => some (.setOutput o f)
    | _, _ => none
  | 2 => some .soundHandsets
  | 3 => if 1 ≤ x then some (.closeBlock x) else none
  | 4 => if h : 1 ≤ x ∧ x < 5 then some (.raiseLevel ⟨x, h.2⟩) else none
  | 5 => some .setTrip
  | 6 => if x ≤ 15 then some (.clearCallsAbove x) else none
  | 7 => (identIx 2 x).map .refugePrepare
  | 8 => some .stopTrucks
  | 9 => some (.sendNote x)
  | _ => none
def actionOctets : Action → List Octet
  | .setOutput o f => [1, octet (o.val + 1), octet (forceCode f)]
  | .soundHandsets => [2, 0, 0]
  | .closeBlock b => [3, octet b, 0]
  | .raiseLevel l => [4, octet l.val, 0]
  | .setTrip => [5, 0, 0]
  | .clearCallsAbove p => [6, octet p, 0]
  | .refugePrepare r => [7, octet (r.val + 1), 0]
  | .stopTrucks => [8, 0, 0]
  | .sendNote c => [9, octet c, 0]
/-- R150: a trigger condition; the outer none is a code or field out of range, the inner none the kind NONE. -/
def triggerOf (k x y : Nat) : Option (Option TriggerCond) :=
  match k with
  | 0 => some none
  | 1 => if h : 1 ≤ x ∧ x < 5 then some (some (.levelAtLeast ⟨x, h.2⟩)) else none
  | 2 => match identIx 16 x with
    | some c => if 1 ≤ y ∧ y ≤ 3 then some (some (.channelAtLeast c y)) else none
    | none => none
  | 3 => (identIx 2 x).map fun i => some (.contactActive i)
  | 4 => (identIx 2 x).map fun r => some (.refugeOccupied r)
  | 5 => if 1 ≤ x then some (some (.blockFault x)) else none
  | _ => none
def triggerOctets : Option TriggerCond → List Octet
  | none => [0, 0, 0]
  | some (.levelAtLeast l) => [1, octet l.val, 0]
  | some (.channelAtLeast c b) => [2, octet (c.val + 1), octet b]
  | some (.contactActive i) => [3, octet (i.val + 1), 0]
  | some (.refugeOccupied r) => [4, octet (r.val + 1), 0]
  | some (.blockFault b) => [5, octet b, 0]
/-- R155: a queue condition from its kind and three field octets. -/
def queueCondOf (k x y z : Nat) : Option QueueCond :=
  match k with
  | 1 => match identIx 8 x with
    | some p => if 1 ≤ y * 256 + z ∧ y * 256 + z ≤ 4095 then some (.tagSeen p (y * 256 + z)) else none
    | none => none
  | 2 => if 1 ≤ x * 256 + y ∧ x * 256 + y ≤ 3600 then some (.delay (x * 256 + y)) else none
  | 3 => match identIx 16 x with
    | some c => if y ≤ 2 then some (.channelAtMost c y) else none
    | none => none
  | 4 => if h : x < 5 then (if x ≤ 3 then some (.levelAtMost ⟨x, h⟩) else none) else none
  | 5 => if 1 ≤ x then some (.blockFree x) else none
  | _ => none
def queueCondOctets : QueueCond → List Octet
  | .tagSeen p t => 1 :: octet (p.val + 1) :: be16 t
  | .delay d => 2 :: (be16 d ++ [0])
  | .channelAtMost c b => [3, octet (c.val + 1), octet b, 0]
  | .levelAtMost l => [4, octet l.val, 0, 0]
  | .blockFree b => [5, octet b, 0, 0]

/-! ## Table entries (R200, Table entries) -/

/-- R2: the greatest engineering value of a kind; the least is 0 for every kind. -/
def kindMax : Kind → Nat
  | .methane => 10000 | .carbonMonoxide => 2000 | .carbonDioxide => 1000 | .oxygen => 2500 | .airflow => 2000
/-- R2: on a rising kind a greater value is more dangerous. -/
def kindRising : Kind → Bool
  | .methane => true | .carbonMonoxide => true | .carbonDioxide => true | .oxygen => false | .airflow => false
def kindOf : Nat → Option Kind
  | 0 => some .methane | 1 => some .carbonMonoxide | 2 => some .carbonDioxide | 3 => some .oxygen | 4 => some .airflow
  | _ => none
/-- An identity octet that may be absent: outer none out of range, inner none absent. -/
def identOpt (n k : Nat) : Option (Option (Fin n)) := if k = 0 then some none else (identIx n k).map some
def flagOf : Nat → Option Bool
  | 0 => some false | 1 => some true | _ => none

/-- R186: a COMMISSION entry in its ranges. -/
def commissionOf (b : List Octet) : Option Commission :=
  let o := octAt b
  match roleOf (o 6), roleOf (o 7), outLevelOf (o 8), outLevelOf (o 9) with
  | some r1, some r2, some l1, some l2 =>
    if h : o 1 < 16 then
      if o 0 ≤ 239 ∧ 1 ≤ o 4 ∧ o 4 ≤ 250 ∧ 1 ≤ o 5 then
        some { station := o 0, district := ⟨o 1, h⟩, code := num16 b 2, spacing := o 4, threshold := o 5,
               roles := #v[r1, r2], outLevels := #v[l1, l2] }
      else none
    else none
  | _, _, _, _ => none
def commissionOctets (c : Commission) : List Octet :=
  octet c.station :: octet c.district.val :: (be16 c.code ++
    [octet c.spacing, octet c.threshold, octet (roleCode (c.roles.get 0)), octet (roleCode (c.roles.get 1)),
     octet (outLevelCode (c.outLevels.get 0)), octet (outLevelCode (c.outLevels.get 1))])

/-- R162: a SPURS entry. -/
def spurCfgOf (b : List Octet) : Option SpurCfg :=
  match spurTypeOf (octAt b 0), flagOf (octAt b 1) with
  | some t, some r => if octAt b 2 ≤ 15 ∧ (r → t = .voice) then some { type := t, refuge := r, priority := octAt b 2 } else none
  | _, _ => none
def spurCfgOctets (c : SpurCfg) : List Octet := [octet (spurTypeCode c.type), flagOctet c.refuge, octet c.priority]

/-- R4: the thresholds are in order for the kind. -/
def thresholdsOk (k : Kind) (l1 l2 l3 : Nat) : Bool :=
  if kindRising k then l1 ≤ l2 && l2 ≤ l3 && l3 ≤ kindMax k else l1 ≤ kindMax k && l2 ≤ l1 && l3 ≤ l2
/-- R1, R4: a CHANNELS entry in its ranges with its thresholds in order. -/
def chanCfgOf (b : List Octet) : Option ChanCfg :=
  let o := octAt b
  match identOpt 8 (o 0), kindOf (o 2) with
  | some sp, some k =>
    let c : ChanCfg :=
      { spur := sp, sub := o 1, kind := k, zero := num16 b 3, span := num16 b 5, shift := o 7, l1 := num16 b 8,
        l2 := num16 b 10, l3 := num16 b 12, hyst := num16 b 14, confirm := o 16, tripOn := 128 ≤ o 17,
        faultTrips := o 17 / 64 % 2 = 1, staleLimit := o 18, window := o 19, decimation := o 20 }
    if c.sub ≤ 1 ∧ c.zero ≤ 4095 ∧ 1 ≤ c.span ∧ c.shift ≤ 4 ∧ c.hyst ≤ 1000 ∧ 1 ≤ c.confirm ∧ c.confirm ≤ 8 ∧
       1 ≤ c.staleLimit ∧ c.staleLimit ≤ 30 ∧ c.window ∈ [8, 16, 32, 64] ∧ 1 ≤ c.decimation ∧ c.decimation ≤ 60 ∧
       thresholdsOk k c.l1 c.l2 c.l3 = true
    then some c else none
  | _, _ => none
def chanCfgOctets (c : ChanCfg) : List Octet :=
  ident c.spur :: octet c.sub :: octet (kindCode c.kind) :: (be16 c.zero ++ be16 c.span ++ [octet c.shift] ++ be16 c.l1 ++
    be16 c.l2 ++ be16 c.l3 ++ be16 c.hyst ++ [octet c.confirm, octet ((if c.tripOn then 128 else 0) +
    (if c.faultTrips then 64 else 0)), octet c.staleLimit, octet c.window, octet c.decimation])

/-- R103, R104: a BLOCKS entry in its ranges, the truck spur absent exactly when the block id is 0. -/
def blockCfgOf (b : List Octet) : Option BlockCfg :=
  let o := octAt b
  match identOpt 8 (o 2) with
  | some sp =>
    if o 1 ≤ 1 ∧ 1 ≤ o 3 ∧ o 3 ≤ 4 ∧ 10 ≤ num16 b 4 ∧ num16 b 4 ≤ 1800 ∧ (o 0 = 0 ↔ sp = none) then
      some { id := o 0, role := if o 1 = 0 then .master else .far, spur := sp, convoy := o 3, transit := num16 b 4 }
    else none
  | none => none
def blockCfgOctets (c : BlockCfg) : List Octet :=
  octet c.id :: (match c.role with | .master => 0 | .far => 1) :: ident c.spur :: octet c.convoy :: be16 c.transit

/-- R131, R132: a REFUGES entry in its ranges, the chamber channels not equal when both are present. -/
def refugeCfgOf (b : List Octet) : Option RefugeCfg :=
  match identOpt 8 (octAt b 0), identOpt 16 (octAt b 1), identOpt 16 (octAt b 2) with
  | some sp, some c1, some c2 => if c1.isSome ∧ c1 = c2 then none else some { spur := sp, chan1 := c1, chan2 := c2 }
  | _, _, _ => none
def refugeCfgOctets (c : RefugeCfg) : List Octet := [ident c.spur, ident c.chan1, ident c.chan2]

/-- The actions of the first `k` positions; none when one is out of range. -/
def actionsOf (b : List Octet) : Nat → Nat → Option (List Action)
  | 0, _ => some []
  | k + 1, at0 =>
    match actionOf (octAt b at0) (octAt b (at0 + 1)) (octAt b (at0 + 2)), actionsOf b k (at0 + 3) with
    | some a, some l => some (a :: l)
    | _, _ => none
/-- R153: a TRIGGER LISTS entry. -/
def triggerCfgOf (b : List Octet) : Option TriggerCfg :=
  let n := octAt b 3
  match triggerOf (octAt b 0) (octAt b 1) (octAt b 2) with
  | none => none
  | some cond =>
    if n ≤ 4 ∧ (cond = none ↔ n = 0) then (actionsOf b n 4).map fun l => { cond := cond, actions := l } else none
def triggerCfgOctets (c : TriggerCfg) : List Octet :=
  triggerOctets c.cond ++ (octet c.actions.length :: padTo 12 (c.actions.flatMap actionOctets))

end Sys2Proof.Machine
end

