-- ==== Sys2Proof/Machine/Flags.lean ====
section
/-! DEFINITION. What the state says at a moment: the conditions, statuses and numbers that the rules read, each a function of
the state alone. Nothing here changes the state. -/

namespace Sys2Proof.Machine

/-! ## Commissioning and spurs -/

/-- R190: commissioned while the working station number is not 0. -/
def State.commissioned (s : State) : Bool := s.working.commission.station != 0
/-- R161: the in-force type is the configured type while commissioned, and OFF otherwise. -/
def State.spurType (s : State) (p : SpurId) : SpurType := if s.commissioned then (s.working.spurs.get p).type else .off
def State.spurUp (s : State) (p : SpurId) : Bool := (s.spurs.get p).state == .up
/-- UP with the given in-force type. -/
def State.spurUpAs (s : State) (t : SpurType) (p : SpurId) : Bool := s.spurUp p && s.spurType p == t

/-! ## Air channels -/

/-- R1: in use when the bound spur is present and the node is commissioned. -/
def State.chanUsed (s : State) (c : ChanId) : Bool := s.commissioned && (s.working.channels.get c).spur.isSome
/-- The band statuses are numbered 0 to 3 (R3). -/
def bandOf : ChanStatus → Option Nat
  | .normal => some 0 | .alert => some 1 | .alarm => some 2 | .trip => some 3 | _ => none
/-- The band status with a number; 3 and above is TRIP. -/
def bandStatus : Nat → ChanStatus
  | 0 => .normal | 1 => .alert | 2 => .alarm | _ => .trip
/-- R18: the level contribution of a status. -/
def contribution : ChanStatus → Level
  | .normal => 0 | .alert => 1 | .alarm => 2 | .trip => 3 | .noData => 1 | .warmup => 1 | .fault => 1 | .unused => 0
/-- R9, R11: V at or past a threshold in the hazard direction. -/
def atThreshold (k : Kind) (v l : Nat) : Bool := if kindRising k then l ≤ v else v ≤ l
/-- R11: V within hysteresis `h` of a threshold. -/
def withinHyst (k : Kind) (h v l : Nat) : Bool := if kindRising k then l ≤ v + h else v ≤ l + h
/-- Threshold L1, L2 or L3. -/
def threshold (c : ChanCfg) : Nat → Nat
  | 1 => c.l1 | 2 => c.l2 | _ => c.l3
/-- R20: clear of TRIP. -/
def clearOfTrip (c : ChanCfg) (x : Channel) : Bool :=
  (x.status == .normal || x.status == .alert || x.status == .alarm) &&
    (match x.v with | some v => !withinHyst c.kind c.hyst v c.l3 | none => false)
/-- R40: an in-use entry with trip enabled that is not clear of TRIP. -/
def State.blocksReset (s : State) (c : ChanId) : Bool :=
  s.chanUsed c && (s.working.channels.get c).tripOn && !clearOfTrip (s.working.channels.get c) (s.air.get c)

/-! ## Levels -/

/-- R43: the role in force of a contact input is NONE while uncommissioned. -/
def State.roleInForce (s : State) (i : PairIx) : Role := if s.commissioned then s.working.commission.roles.get i else .none
/-- R28: the contribution of a contact input. -/
def contactLevel (active : Bool) : Role → Level
  | .alert => if active then 1 else 0
  | .alarm => if active then 2 else 0
  | .evacuate => if active then 4 else 0
  | _ => 0
/-- R28: the contribution of a refuge state. -/
def refugeLevel : RefugeState → Level
  | .standby => 0 | .openDoor => 1 | .occupied => 2 | .distress => 4 | .fault => 1
/-- R131: configured while its spur is present and the node is commissioned. -/
def State.refugeOn (s : State) (r : PairIx) : Bool := s.commissioned && (s.working.refuges.get r).spur.isSome
/-- The greater of two levels. -/
def maxLevel (a b : Level) : Level := if a.val ≤ b.val then b else a
/-- R28: the local level as its contributions stand; NORMAL while uncommissioned. -/
def State.localOf (s : State) : Level :=
  if s.commissioned then
    let chans := (List.finRange 16).foldl (fun l c => maxLevel l (contribution (s.air.get c).status)) 0
    let refs := (List.finRange 2).foldl
      (fun l r => maxLevel l (if s.refugeOn r then refugeLevel (s.refuges.get r).state else 0)) chans
    let cons := (List.finRange 2).foldl
      (fun l i => maxLevel l (contactLevel (s.level.contacts.get i).active (s.roleInForce i))) refs
    let latch := if s.level.latch then maxLevel cons 3 else cons
    let truck := if s.blocks.truckAlarm.isSome then maxLevel latch 2 else latch
    maxLevel truck s.level.hold
  else 0
/-- R29: the node's ordered level, NORMAL while uncommissioned. -/
def State.orderedLevel (s : State) : Level :=
  if s.commissioned then s.level.ordered.get s.working.commission.district else 0
/-- R32: the greater of the local and the ordered level; NORMAL while uncommissioned. -/
def State.effectiveOf (s : State) : Level := if s.commissioned then maxLevel s.level.localLevel s.orderedLevel else 0
/-- R33: the Level Map entry of the effective level; the factory entry for NORMAL while uncommissioned. -/
def State.maskOf (s : State) : Nat := if s.commissioned then s.working.levelMap.get s.level.effective else 15
/-- R37: asserted while the latch is set or the ordered level is TRIP or higher. -/
def State.outputOf (s : State) : Bool := s.level.latch || (3 ≤ s.orderedLevel.val)
/-- R44: the drive of a general output. -/
def State.driveOf (s : State) (o : PairIx) : Bool :=
  match s.level.force.get o with
  | .on => true
  | .off => false
  | .follow => match s.working.commission.outLevels.get o with
    | some l => l.val ≤ s.level.effective.val
    | none => false
/-- "At least TRIP". -/
def State.atTrip (s : State) : Bool := 3 ≤ s.level.effective.val

/-! ## The isolation contactor -/

/-- Signal summary: the contactor is held closed only while the output is driven not asserted, so a node without supply
leaves the district isolated. -/
def State.isolated (s : State) : Bool := !s.powered || s.level.output

/-! ## Slots and calls -/

/-- R66: the mode follows from the owners. -/
inductive SlotMode where
  | pass | dropOnly | addOnly | dropAdd
deriving DecidableEq, Repr
def SlotEntry.mode (e : SlotEntry) : SlotMode :=
  match e.drop, e.add with
  | none, none => .pass | some _, none => .dropOnly | none, some _ => .addOnly | some _, some _ => .dropAdd
/-- R78: the Slot Map index of a slot's entry for a direction of travel. -/
def slotIx (dir : Side) (sl : Slot) : SlotIx :=
  match dir with
  | .inbye => ⟨sl.val, by omega⟩
  | .outbye => ⟨30 + sl.val, by omega⟩
/-- The direction of travel away from a side. -/
def otherSide : Side → Side
  | .inbye => .outbye | .outbye => .inbye
/-- R67: a record adds in the far-side direction and drops in the other. -/
def addIx (far : Side) (sl : Slot) : SlotIx := slotIx far sl
def dropIx (far : Side) (sl : Slot) : SlotIx := slotIx (otherSide far) sl

/-- R79: in use in any state other than IDLE and CLEARED. -/
def CallRec.inUse (r : CallRec) : Bool := r.state != .idle && r.state != .cleared
/-- R79: live while ALERTING, RINGING or CONNECTED. -/
def CallRec.live (r : CallRec) : Bool := r.state == .alerting || r.state == .ringing || r.state == .connected
/-- R90: the four admitted states. -/
def CallRec.admitted (r : CallRec) : Bool := r.state == .requested || r.live
/-- R80: busy while off hook, or while an in-use record names the spur as its origin or destination. -/
def State.handsetBusy (s : State) (p : SpurId) : Bool :=
  s.calls.hooks.get p || s.calls.recs.anyIx fun _ r => r.inUse && (r.origin == some p || r.dest == some p)
/-- R88, R89: the destination of record `r` is busy for the local ring step. The record itself, and a LOCAL record that has
not rung it, do not make it busy: two LOCAL calls held for one destination are rung in order (log entry 14). -/
def State.ringBusy (s : State) (r : RecId) (p : SpurId) : Bool :=
  s.calls.hooks.get p || s.calls.recs.anyIx fun i x => i != r && x.inUse &&
    (x.origin == some p || (x.dest == some p && (x.state == .ringing || x.state == .connected)))
/-- R85, R86, R101: the limit of a record's state timer in its present state, in cycles. -/
def timerLimit (r : CallRec) : Nat :=
  match r.state with
  | .collecting => if r.digits = [0] then 500 else if r.refuge && r.digits.isEmpty then 1250 else 2500
  | .requested => 1250
  | .alerting => 22500
  | .ringing => 15000
  | _ => 30000
/-- R100: an EMERGENCY record waiting in REQUESTED does not run its timer while the node is autonomous. -/
def State.timerRuns (s : State) (r : CallRec) : Bool :=
  r.inUse && !(s.line.autonomous && r.state == .requested && r.dialled == some .emergency)

/-! ## Blocks -/

/-- R103: configured while the block id is not 0 and the node is commissioned. -/
def State.blockOn (s : State) (i : BlockIx) : Bool := s.commissioned && (s.working.blocks.get i).id != 0
def State.isMaster (s : State) (i : BlockIx) : Bool := s.blockOn i && (s.working.blocks.get i).role == .master
def State.isFar (s : State) (i : BlockIx) : Bool := s.blockOn i && (s.working.blocks.get i).role == .far
def State.master (s : State) (i : BlockIx) : Master := (s.blocks.entries.get i).master
def State.farEnd (s : State) (i : BlockIx) : FarEnd := (s.blocks.entries.get i).far
def State.masterOf (s : State) (id : Nat) : Option BlockIx :=
  s.working.blocks.firstIx fun i c => id != 0 && c.id == id && s.isMaster i
def State.farOf (s : State) (id : Nat) : Option BlockIx :=
  s.working.blocks.firstIx fun i c => id != 0 && c.id == id && s.isFar i
/-- R107: the shown state is FAULT while the local fault is set, and the mirror state otherwise. -/
def FarEnd.shown (f : FarEnd) : BlockState := if f.localFault then .fault else f.mirror.state
/-- The state of a configured entry as other blocks read it (R150, R155). -/
def State.blockState (s : State) (i : BlockIx) : BlockState :=
  match (s.working.blocks.get i).role with
  | .master => (s.master i).state
  | .far => (s.farEnd i).shown
/-- Some configured entry with the id stands in the state. -/
def State.blockStands (s : State) (id : Nat) (st : BlockState) : Bool :=
  s.working.blocks.anyIx fun i c => s.blockOn i && c.id == id && s.blockState i == st
def listTags (l : List Truck) : List Nat := l.map (·.tag)
/-- R105: an opposing wait stands; a master-end wait opposes only below TRIP. -/
def Master.opposed (m : Master) (atTrip : Bool) : Bool :=
  (m.state == .held || m.state == .draining) &&
    (match m.dir with
     | some .inbye => m.fWait.isSome
     | some .outbye => m.mWait.isSome && !atTrip
     | none => false)
/-- R117: the far end is ready while commissioned with its truck spur UP and its outbye port UP. -/
def State.farReadyNow (s : State) (i : BlockIx) : Bool :=
  s.commissioned && s.line.outPort.up && (match (s.working.blocks.get i).spur with | some p => s.spurUpAs .truck p | none => false)
/-- R121: the far entry's truck spur or outbye port is not UP. -/
def State.farFaultNow (s : State) (i : BlockIx) : Bool :=
  !(s.line.outPort.up && (match (s.working.blocks.get i).spur with | some p => s.spurUpAs .truck p | none => false))
def BlockState.engaged (b : BlockState) : Bool := b == .held || b == .draining || b == .closing
/-- R125: the light of an entry. One that is not configured shows DARK (DESIGN CHOICE, log entry 17). -/
def State.entryLight (s : State) (i : BlockIx) : Light :=
  if !s.blockOn i then .dark else
  match (s.working.blocks.get i).role with
  | .master =>
    let m := s.master i
    let listed := match m.goTag with | some t => (listTags m.list).contains t | none => false
    if listed && m.dir == some .inbye && m.state.engaged && !s.atTrip then .go else .stop
  | .far =>
    let f := s.farEnd i
    match f.claim with
    | some (t, .granted) =>
      if f.mirror.tags.contains t && f.mirror.dir == some .outbye && f.mirror.state.engaged && !f.localFault then .go else .stop
    | _ => .stop
/-- R125: the light of a TRUCK spur: its configured entry's, or DARK. -/
def State.lightOf (s : State) (p : SpurId) : Light :=
  match s.working.blocks.firstIx (fun i c => s.blockOn i && c.spur == some p) with
  | some i => s.entryLight i
  | none => .dark
/-- R126: the STOP ALL value. -/
def State.stopAllOf (s : State) : Bool := s.atTrip || s.action.stopTrucks != 0

/-! ## Refuges -/

/-- R133: the length of the muster list plus the overflow count. -/
def Refuge.occupancy (r : Refuge) : Nat := r.muster.length + r.overflow
/-- R134: a chamber channel that makes an occupied chamber DISTRESS. -/
def State.chamberAlarm (s : State) (c : Option ChanId) : Bool :=
  match c with
  | none => false
  | some c => let st := (s.air.get c).status; st == .alarm || st == .trip || st == .fault
/-- R134: the state of a record as its fields stand; STANDBY while unconfigured (R131). -/
def State.refugeStateOf (s : State) (r : PairIx) : RefugeState :=
  let c := s.working.refuges.get r
  let x := s.refuges.get r
  if !s.refugeOn r then .standby
  else if !(match c.spur with | some p => s.spurUpAs .refuge p | none => false) then .fault
  else if x.occupancy ≠ 0 ∧ (x.distress || s.chamberAlarm c.chan1 || s.chamberAlarm c.chan2) then .distress
  else if x.occupancy ≠ 0 then .occupied
  else if x.door then .openDoor
  else .standby
/-- The configured record served by a spur. -/
def State.refugeOfSpur (s : State) (p : SpurId) : Option PairIx :=
  s.working.refuges.firstIx fun r c => s.refugeOn r && c.spur == some p

/-! ## The Action Unit's conditions -/

/-- R150: a trigger condition, read against the state as it stands. -/
def State.triggerTrue (s : State) : TriggerCond → Bool
  | .levelAtLeast l => l.val ≤ s.level.effective.val
  | .channelAtLeast c b => s.chanUsed c && (b ≤ (contribution (s.air.get c).status).val)
  | .contactActive i => s.roleInForce i != .none && (s.level.contacts.get i).active
  | .refugeOccupied r => s.refugeOn r && (s.refuges.get r).occupancy != 0
  | .blockFault id => s.blockStands id .fault
/-- R155: a queue condition other than TAG SEEN, which only its message meets. -/
def State.queueTrue (s : State) : QueueCond → Bool
  | .tagSeen _ _ => false
  | .delay d => d * 250 ≤ s.action.headDelay
  | .channelAtMost c b => s.chanUsed c &&
      (match bandOf (s.air.get c).status with | some n => n ≤ b | none => false)
  | .levelAtMost l => s.level.effective.val ≤ l.val
  | .blockFree id => s.blockStands id .free
/-- R151: a trigger condition reads the state whose change is handed over. -/
def triggerReads : TriggerCond → Notice → Bool
  | .levelAtLeast _, .level => true
  | .channelAtLeast c _, .channel c' => c == c'
  | .contactActive i, .contact i' => i == i'
  | .refugeOccupied r, .refuge r' => r == r'
  | .blockFault b, .block b' => b == b'
  | _, _ => false
/-- R156: a queue condition is met or read by the change handed over. -/
def queueReads : QueueCond → Notice → Bool
  | .channelAtMost c _, .channel c' => c == c'
  | .levelAtMost _, .level => true
  | .blockFree b, .block b' => b == b'
  | .tagSeen p t, .tag p' t' => p == p' && t == t'
  | _, _ => false

/-! ## The Management Engine -/

/-- R180: an order is judged with access when the state is OPEN or the working authority code is 0. -/
def State.access (s : State) : Bool := s.mgmt.accessOpen || s.working.commission.code == 0
/-- R177: the reply queue is full when its made replies and its reservations number 4. -/
def State.repliesFull (s : State) : Bool := 4 ≤ s.mgmt.replies.length + s.mgmt.reserved
/-- R174: the source address, mode code and address: the station while commissioned, else the position when present. -/
def State.sourceAddr (s : State) : Option (Nat × Nat) :=
  if s.commissioned then some (1, s.working.commission.station) else s.line.position.map fun p => (2, p)
/-- R174: an occupied inbye cell with this header matches the node. -/
def State.matchesCell (s : State) (h : MgmtHeader) : Bool :=
  match h.mode with
  | 1 => s.commissioned && h.addr == s.working.commission.station
  | 2 => s.line.position == some h.addr
  | 3 => s.commissioned
  | _ => false

/-- R181: the report sources. -/
inductive Source where
  | isolation
  | level
  | refuge (r : PairIx)
  | channel (c : ChanId)
  | block (i : BlockIx)
  | truck (p : SpurId)
  | call (r : RecId)
  | action
  | spur (p : SpurId)
  | line
deriving DecidableEq, Repr
/-- R181: the holding places in class order, and within a class by index. -/
def Source.ix : Source → Fin 58
  | .isolation => 0
  | .level => 1
  | .refuge r => ⟨2 + r.val, by omega⟩
  | .channel c => ⟨4 + c.val, by omega⟩
  | .block i => ⟨20 + i.val, by omega⟩
  | .truck p => ⟨24 + p.val, by omega⟩
  | .call r => ⟨32 + r.val, by omega⟩
  | .action => 48
  | .spur p => ⟨49 + p.val, by omega⟩
  | .line => 57
/-- The source of a holding place. -/
def sourceAt (k : Fin 58) : Source :=
  if k.val = 0 then .isolation
  else if k.val = 1 then .level
  else if h : k.val < 4 then .refuge ⟨k.val - 2, by omega⟩
  else if h : k.val < 20 then .channel ⟨k.val - 4, by omega⟩
  else if h : k.val < 24 then .block ⟨k.val - 20, by omega⟩
  else if h : k.val < 32 then .truck ⟨k.val - 24, by omega⟩
  else if h : k.val < 48 then .call ⟨k.val - 32, by omega⟩
  else if k.val = 48 then .action
  else if h : k.val < 57 then .spur ⟨k.val - 49, by omega⟩
  else .line
/-- The holding place of a source: none when not pending, otherwise its superseded count. -/
def State.held (s : State) (x : Source) : Option Nat := s.mgmt.holding.get x.ix
/-- R181: the pending source of the earliest class and the lowest index. -/
def State.nextSource (s : State) : Option Source :=
  (s.mgmt.holding.firstIx fun _ h => h.isSome).map sourceAt

end Sys2Proof.Machine
end

