-- ==== Sys2Proof/Machine/Ops.lean ====
section
/-! DEFINITION. The shared operations: writing one record, saturating counters, marking a report source, handing a change to
the Action Unit, offering a message to a spur and posting a neighbour message. -/

namespace Sys2Proof.Machine

/-- A counter saturates at its stated maximum (scope file, Counters). -/
def bump (limit n : Nat) : Nat := if n < limit then n + 1 else n
def bump16 (n : Nat) : Nat := bump 65535 n

/-! ## Writing one record -/

def State.setChan (s : State) (c : ChanId) (x : Channel) : State := { s with air := s.air.put c x }
def State.setSpur (s : State) (p : SpurId) (x : Spur) : State := { s with spurs := s.spurs.put p x }
def State.setRefuge (s : State) (r : PairIx) (x : Refuge) : State := { s with refuges := s.refuges.put r x }
def State.setCall (s : State) (r : RecId) (x : CallRec) : State := { s with calls := { s.calls with recs := s.calls.recs.put r x } }
def State.setHook (s : State) (p : SpurId) (off : Bool) : State :=
  { s with calls := { s.calls with hooks := s.calls.hooks.put p off } }
def State.setSlot (s : State) (e : SlotIx) (x : SlotEntry) : State := { s with slots := { s.slots with map := s.slots.map.put e x } }
def State.setMaster (s : State) (i : BlockIx) (m : Master) : State :=
  { s with blocks := { s.blocks with entries := s.blocks.entries.put i { s.blocks.entries.get i with master := m } } }
def State.setFar (s : State) (i : BlockIx) (f : FarEnd) : State :=
  { s with blocks := { s.blocks with entries := s.blocks.entries.put i { s.blocks.entries.get i with far := f } } }
def State.port (s : State) : Side → LinePort
  | .inbye => s.line.inPort | .outbye => s.line.outPort
def State.setPort (s : State) (d : Side) (x : LinePort) : State :=
  match d with
  | .inbye => { s with line := { s.line with inPort := x } }
  | .outbye => { s with line := { s.line with outPort := x } }
def State.setMgmt (s : State) (m : Mgmt) : State := { s with mgmt := m }
def State.setLevel (s : State) (l : LevelUnit) : State := { s with level := l }
def State.setLine (s : State) (l : Line) : State := { s with line := l }
def State.setAction (s : State) (a : ActionUnit) : State := { s with action := a }
def State.setBlocks (s : State) (b : Blocks) : State := { s with blocks := b }
def State.setCalls (s : State) (c : Calls) : State := { s with calls := c }
def State.setSlots (s : State) (x : SlotSwitch) : State := { s with slots := x }
def State.setWorking (s : State) (t : Tables) : State := { s with working := t }

/-! ## Marks and notices -/

/-- R181: a mark makes a source pending with its superseded count at 0, or raises the count of a pending one, up to 15. -/
def markHeld (h : Option Nat) : Option Nat :=
  match h with | none => some 0 | some n => some (bump 15 n)
def State.mark (s : State) (x : Source) : State :=
  s.setMgmt { s.mgmt with holding := s.mgmt.holding.put x.ix (markHeld (s.held x)) }
/-- R181: a withdrawn source is not pending. -/
def State.withdraw (s : State) (x : Source) : State := s.setMgmt { s.mgmt with holding := s.mgmt.holding.put x.ix none }
/-- A mark made only when a condition holds. -/
def State.markIf (s : State) (b : Bool) (x : Source) : State := if b then s.mark x else s
/-- R146, R151: a change is handed to the Action Unit, which takes it once what it is running is finished. -/
def State.notify (s : State) (n : Notice) : State := s.setAction { s.action with notices := s.action.notices ++ [n] }

/-! ## Messages to heads (R169, R171) -/

/-- R170: the in-force type a message fits. -/
def OutMsg.fits : OutMsg → SpurType → Bool
  | .ring _, .voice => true | .tone _, .voice => true
  | .lights _, .truck => true | .stopAll _, .truck => true
  | .refugePrepare, .refuge => true | .refugeStanddown, .refuge => true | .rollQuery, .refuge => true
  | _, _ => false
/-- R171: two state-type messages of one kind. -/
def OutMsg.sameStateKind : OutMsg → OutMsg → Bool
  | .ring _, .ring _ => true | .tone _, .tone _ => true | .lights _, .lights _ => true | .stopAll _, .stopAll _ => true
  | _, _ => false
/-- R169: the queue and the outbound discard count of an UP spur after an offer. -/
def offerTo (t : SpurType) (m : OutMsg) (x : Spur) : Spur :=
  if !m.fits t then { x with outDiscard := bump16 x.outDiscard }
  else if x.queue.any (·.sameStateKind m) then { x with queue := x.queue.map fun q => if q.sameStateKind m then m else q }
  else if x.queue.length < 4 then { x with queue := x.queue ++ [m] }
  else { x with outDiscard := bump16 x.outDiscard }
/-- R169: an owner block offers a message to a spur; an offer to a spur that is not UP is not queued and not counted. -/
def offer (p : SpurId) (m : OutMsg) (s : State) : State :=
  if s.spurUp p then s.setSpur p (offerTo (s.spurType p) m (s.spurs.get p)) else s

/-! ## Neighbour messages (R62) -/

/-- R62: a message joins the queue of an UP port that holds fewer than 8; otherwise it is discarded and counted. -/
def post (d : Side) (m : NMsg) (s : State) : State :=
  if (s.port d).up && (s.port d).queue.length < 8 then s.setPort d { s.port d with queue := (s.port d).queue ++ [m] }
  else s.setLine { s.line with discarded := bump16 s.line.discarded }

/-! ## Running a command -/

/-- A command acts on a node that has its supply; a node without supply is stopped (R187) and nothing but power-on acts. -/
def whenPowered (f : State → State) (s : State) : Host.Outcome State Fault Refusal :=
  .next (if s.powered then f s else s)

end Sys2Proof.Machine
end

