-- ==== Sys2Proof/Machine/Blocks.lean ====
section
/-! DEFINITION. The Block Controller (chapter 6): claims, waits, exits, the far end, the neighbour protocol, faults, opening
and closing, lights and STOP ALL. The truck alarm record is in Trucks.lean. -/

namespace Sys2Proof.Machine

/-! ## Lights and STOP ALL (R125, R126) -/

/-- R125: the light of one spur formed again; a changed light is sent to a TRUCK spur. -/
def reformLight (p : SpurId) (s : State) : State :=
  let l := if s.spurType p = .truck then s.lightOf p else .dark
  if l = s.blocks.lights.get p then s
  else offer p (.lights l) (s.setBlocks { s.blocks with lights := s.blocks.lights.put p l })
def reformLights (s : State) : State := forEach 8 reformLight s
/-- R126: STOP ALL goes to every UP TRUCK spur on each change of its value. -/
def sendStopAll (s : State) : State :=
  forEach 8 (fun p s => if s.spurUpAs .truck p then offer p (.stopAll s.blocks.stopAll) s else s) s
def reformStopAll (s : State) : State :=
  if s.stopAllOf = s.blocks.stopAll then s else sendStopAll (s.setBlocks { s.blocks with stopAll := s.stopAllOf })

/-! ## The master -/

def BlockEnd.dir : BlockEnd → Side
  | .master => .inbye | .far => .outbye
def Master.waitAt (m : Master) : BlockEnd → Option Nat
  | .master => m.mWait | .far => m.fWait
def Master.setWait (m : Master) (e : BlockEnd) (t : Option Nat) : Master :=
  match e with | .master => { m with mWait := t } | .far => { m with fWait := t }
def State.blockId (s : State) (i : BlockIx) : Nat := (s.working.blocks.get i).id
/-- R116: the STATE a master posts; in FAULT the listed tags and direction are those of the fault list. -/
def State.stateMsg (s : State) (i : BlockIx) : NMsg :=
  let m := s.master i
  let l := if m.state = .fault then listTags m.faults else listTags m.list
  let d := if m.state = .fault then m.faultDir else m.dir
  .masterState (s.blockId i) (blockStateCode m.state) (sideCode d) l.length l (tagNum m.mWait) (tagNum m.fWait)
def postState (i : BlockIx) (s : State) : State := post .inbye (s.stateMsg i) s
/-- R116: the fields whose change posts a STATE. -/
def Master.shownFields (m : Master) :
    BlockState × Option Side × List Nat × List Nat × Option Nat × Option Nat :=
  (m.state, m.dir, listTags m.list, listTags m.faults, m.mWait, m.fWait)
/-- R116: one event posts one STATE after what it posts itself; a new state is handed to the Action Unit, and the lights are
formed again. -/
def masterEvent (i : BlockIx) (f : State → State) (s : State) : State :=
  let m0 := s.master i
  let s := f s
  let s := if (s.master i).shownFields = m0.shownFields then s else postState i s
  let s := if (s.master i).state = m0.state then s else s.notify (.block (s.blockId i))
  reformLights s

/-- R112: an anomaly joins the tail; a fifth is counted as dropped. -/
def addAnomaly (a : Anomaly) (m : Master) : Master :=
  if m.anomalies.length < 4 then { m with anomalies := m.anomalies ++ [a] } else { m with dropped := bump 255 m.dropped }
/-- R112: the recent-exit memory, last 4 tags without duplicates. -/
def remember (t : Nat) (l : List Nat) : List Nat :=
  let l := l.filter (· ≠ t) ++ [t]
  if 4 < l.length then l.drop 1 else l

/-- R109: "permitted". -/
def State.permitted (s : State) (e : BlockEnd) : Bool := e == .far || !s.atTrip
def State.convoyRoom (s : State) (i : BlockIx) : Bool := (s.master i).list.length < (s.working.blocks.get i).convoy
/-- R109: a grant. -/
def grantClaim (i : BlockIx) (e : BlockEnd) (t : Nat) (s : State) : State :=
  let m := s.master i
  let m := if m.waitAt e = some t then m.setWait e none else m
  let s := s.setMaster i { m with
    list := m.list ++ [{ tag := t, cycle := s.line.cycle, age := 0, overdue := false }]
    dir := some e.dir
    state := if m.state = .free then .held else m.state
    goTag := if e = .master then some t else m.goTag }
  let s := if e = .far then post .inbye (.grant (s.blockId i) t) s else s
  s.mark (.block i)
/-- R109: a wait; in HELD an opposing one makes the block DRAINING. -/
def waitClaim (i : BlockIx) (e : BlockEnd) (t : Nat) (s : State) : State :=
  let m := (s.master i).setWait e (some t)
  let m := if e = .master then { m with goTag := none } else m
  let m := if m.state = .held ∧ m.opposed s.atTrip = true then { m with state := .draining } else m
  let s := s.setMaster i m
  let s := if e = .far then post .inbye (.wait (s.blockId i) t) s else s
  s.mark (.block i)
/-- R109: the table. -/
def decideClaim (i : BlockIx) (e : BlockEnd) (t : Nat) (s : State) : State :=
  let m := s.master i
  let grants := match m.state with
    | .free => s.permitted e
    | .held => m.dir == some e.dir && s.permitted e && s.convoyRoom i && !m.opposed s.atTrip
    | _ => false
  if grants then grantClaim i e t s else waitClaim i e t s
/-- R108: the tag stands in the truck list, the fault list or either wait. -/
def Master.knows (m : Master) (t : Nat) : Bool :=
  (listTags m.list).contains t || (listTags m.faults).contains t || m.mWait == some t || m.fWait == some t
/-- R108: a duplicate is answered as the tag's place already gives, and changes no field. -/
def answerDuplicate (i : BlockIx) (e : BlockEnd) (t : Nat) (s : State) : State :=
  let m := s.master i
  match e with
  | .master => match (s.working.blocks.get i).spur with
    | some p => offer p (.lights (s.entryLight i)) s
    | none => s
  | .far =>
    if (listTags m.list).contains t && m.dir == some .outbye then post .inbye (.grant (s.blockId i) t) s
    else post .inbye (.wait (s.blockId i) t) s
/-- R108, R109: a claim reaches the master. -/
def takeClaim (i : BlockIx) (e : BlockEnd) (t : Nat) (s : State) : State :=
  if (s.master i).knows t then answerDuplicate i e t s else masterEvent i (decideClaim i e t) s

/-- R110: the end whose wait is decided first in FREE. -/
def serveOrder : Option Side → List BlockEnd
  | some .inbye => [.far, .master] | _ => [.master, .far]
/-- R110: the end where a direction enters. -/
def entryEnd : Side → BlockEnd
  | .inbye => .master | .outbye => .far
/-- R110: the master serves its waits. -/
def serveWaits (i : BlockIx) (s : State) : State :=
  let m := s.master i
  match m.state with
  | .free => (serveOrder m.dir).foldl
      (fun s e => match (s.master i).waitAt e with | some t => decideClaim i e t s | none => s) s
  | .held =>
    if m.opposed s.atTrip then (s.setMaster i { m with state := .draining }).mark (.block i)
    else match m.dir with
      | some d => match m.waitAt (entryEnd d) with
        | some t => if s.permitted (entryEnd d) && s.convoyRoom i then grantClaim i (entryEnd d) t s else s
        | none => s
      | none => s
  | _ => s

/-- R111: the oldest entry is another tag. -/
def notOldest (t : Nat) (l : List Truck) : Bool := match l.head? with | some x => x.tag != t | none => false
/-- R111: a removal from the truck list. -/
def exitListed (i : BlockIx) (t : Nat) (s : State) : State :=
  let m := s.master i
  let odd := notOldest t m.list
  let l := m.list.filter (·.tag ≠ t)
  let m1 : Master := { m with
    list := l
    memory := remember t m.memory
    goTag := if m.goTag = some t then none else m.goTag
    state := if l.isEmpty then (if m.state = .closing then .closed else .free) else m.state }
  let s := (s.setMaster i (if odd then addAnomaly (.order t) m1 else m1)).mark (.block i)
  let s := s.markIf odd (.block i)
  serveWaits i s
/-- R111: a removal from the fault list; the state stays FAULT. -/
def exitFaulted (i : BlockIx) (t : Nat) (s : State) : State :=
  let m := s.master i
  let odd := notOldest t m.faults
  let m1 : Master := { m with faults := m.faults.filter (·.tag ≠ t), memory := remember t m.memory }
  let s := (s.setMaster i (if odd then addAnomaly (.order t) m1 else m1)).mark (.block i)
  s.markIf odd (.block i)
/-- R111: an exit reaches the master. -/
def takeExit (i : BlockIx) (e : BlockEnd) (t : Nat) (s : State) : State :=
  let m := s.master i
  if (listTags m.list).contains t then masterEvent i (exitListed i t) s
  else if (listTags m.faults).contains t then masterEvent i (exitFaulted i t) s
  else if m.memory.contains t then s
  else (s.setMaster i (addAnomaly (.stray t e) m)).mark (.block i)

/-- R120: entering FAULT; a master already in FAULT changes nothing. -/
def masterFault (i : BlockIx) (s : State) : State :=
  let m := s.master i
  if m.state = .fault then s
  else masterEvent i (fun s => (s.setMaster i
    { m with state := .fault, faults := m.list, faultDir := m.dir, list := [], dir := none, goTag := none }).mark (.block i)) s
/-- R117: far ready turning clear puts the block into FAULT. -/
def setFarReady (i : BlockIx) (ready : Bool) (s : State) : State :=
  let m := s.master i
  let s := s.setMaster i { m with farReady := ready }
  if m.farReady && !ready then masterFault i s else s

/-- R122: an opening of a block whose tests have passed. Every opening that leaves FAULT makes the fault direction absent (DESIGN
CHOICE, log entry 46). -/
def openBlock (i : BlockIx) (clear : Bool) (s : State) : State :=
  let m := s.master i
  let go (m' : Master) : State := masterEvent i (fun s => serveWaits i ((s.setMaster i m').mark (.block i))) s
  match m.state with
  | .closed => go { m with state := .free }
  | .fault =>
    if clear || m.faults.isEmpty then go { m with state := .free, faults := [], faultDir := none }
    else go { m with state := .held, list := m.faults, dir := m.faultDir, faults := [], faultDir := none }
  | .closing =>
    if clear then go { m with state := .free, list := [], goTag := none } else go { m with state := .held }
  | _ => s
/-- R122: the tests that answer NOT READY. -/
def State.openNotReady (s : State) (i : BlockIx) (clear : Bool) : Bool :=
  let m := s.master i
  let spurUp := match (s.working.blocks.get i).spur with | some p => s.spurUpAs .truck p | none => false
  !spurUp || !s.line.inPort.up || !m.farReady ||
    (m.state == .fault && m.faultDir == some .inbye && !m.faults.isEmpty && !clear && s.atTrip)
/-- R123: BLOCK CLOSE and CLOSE BLOCK. -/
def closeBlock (i : BlockIx) (s : State) : State :=
  let m := s.master i
  let go (st : BlockState) : State := masterEvent i (fun s => (s.setMaster i { m with state := st }).mark (.block i)) s
  match m.state with
  | .held => go .closing
  | .draining => go .closing
  | .free => go .closed
  | _ => s

/-! ## The far end -/

/-- R107, R125: a change of the shown state is handed to the Action Unit, and the lights are formed again. -/
def farEvent (i : BlockIx) (f : State → State) (s : State) : State :=
  let f0 := s.farEnd i
  let s := f s
  let s := if (s.farEnd i).shown = f0.shown then s else s.notify (.block (s.blockId i))
  reformLights s
/-- R114: the far end's claim in hand changes. -/
def setClaim (i : BlockIx) (c : Option (Nat × Standing)) (s : State) : State :=
  if (s.farEnd i).claim = c then s else (s.setFar i { s.farEnd i with claim := c }).mark (.block i)
/-- R115: the pending exits change. -/
def setExits (i : BlockIx) (l : List Nat) (s : State) : State :=
  if (s.farEnd i).exits = l then s else (s.setFar i { s.farEnd i with exits := l }).mark (.block i)
/-- R114: a TAG ARRIVING at the far end. -/
def farArriving (i : BlockIx) (t : Nat) (s : State) : State :=
  farEvent i (fun s =>
    let held := match (s.farEnd i).claim with | some (t', _) => t' == t | none => false
    let s := if held then s else setClaim i (some (t, .asked)) s
    post .outbye (.claim (s.blockId i) t) s) s
/-- R115: a tag joins the pending exits; when they hold 4 the oldest is dropped. -/
def joinExits (t : Nat) (l : List Nat) : List Nat :=
  if l.contains t then l else (if 4 ≤ l.length then l.drop 1 else l) ++ [t]
/-- R115: a TAG LEAVING at the far end. -/
def farLeaving (i : BlockIx) (t : Nat) (s : State) : State :=
  farEvent i (fun s => setExits i (joinExits t (s.farEnd i).exits) (post .outbye (.exit (s.blockId i) t) s)) s
/-- R114: a GRANT or WAIT naming the claim in hand sets its standing. -/
def farAnswer (i : BlockIx) (t : Nat) (st : Standing) (s : State) : State :=
  match (s.farEnd i).claim with
  | some (t', _) => if t' = t then farEvent i (setClaim i (some (t, st))) s else s
  | none => s
/-- R116: what a new mirror makes of the claim in hand. -/
def claimAfter (m : Mirror) : Option (Nat × Standing) → Option (Nat × Standing)
  | some (t, st) =>
    if m.tags.contains t then some (t, .granted)
    else if m.fWait = some t then some (t, .waiting)
    else if st = .granted then none
    else some (t, st)
  | none => none
/-- R198: the mirror of a master STATE's octets; none when it is discarded. -/
def mirrorOf (st dir count : Nat) (tags : List Nat) (mw fw : Nat) : Option Mirror :=
  match blockStateOf st, sideOf dir with
  | some b, some d =>
    let l := (List.range count).map fun k => tags[k]?.getD 0
    if count ≤ 4 ∧ ¬ l.contains 0 then
      some { state := b, dir := d, count := count, tags := l, mWait := tagOpt mw, fWait := tagOpt fw }
    else none
  | _, _ => none
/-- R116: a far entry takes a STATE. -/
def farTakeState (i : BlockIx) (m : Mirror) (s : State) : State :=
  farEvent i (fun s =>
    let f := s.farEnd i
    let changed := f.mirror.state != m.state || f.mirror.dir != m.dir || f.mirror.tags != m.tags
    let s := (s.setFar i { f with mirror := m }).markIf changed (.block i)
    let s := setClaim i (claimAfter m f.claim) s
    setExits i (f.exits.filter fun t => m.tags.contains t) s) s
/-- R117: a far-end STATE with the present readiness is posted, and recorded as the readiness sent, whether or not the port's queue
takes it (DESIGN CHOICE, log entry 51). -/
def postReadiness (i : BlockIx) (s : State) : State :=
  let r := s.farReadyNow i
  post .outbye (.farState (s.blockId i) (if r then 1 else 0)) (s.setFar i { s.farEnd i with readySent := r })
/-- R117, R121: after a change of a spur or port, each far entry's local fault follows, and a changed readiness is sent.
`s0` is the state before the change. -/
def recheckFar (s0 : State) (s : State) : State :=
  forEach 4 (fun i s =>
    if s.isFar i then
      let s := farEvent i (fun s =>
        if s.farFaultNow i = (s.farEnd i).localFault then s
        else (s.setFar i { s.farEnd i with localFault := s.farFaultNow i }).mark (.block i)) s
      if s.farReadyNow i = s0.farReadyNow i then s else postReadiness i s
    else s) s

/-! ## Events of spurs, ports and the level -/

/-- The configured entry bound to a spur. -/
def State.blockOfSpur (s : State) (p : SpurId) : Option BlockIx :=
  s.working.blocks.firstIx fun i c => s.blockOn i && c.spur == some p
/-- R120, R121: a TRUCK spur has left UP; `s0` is the state before. -/
def blocksSpurLost (p : SpurId) (s0 : State) (s : State) : State :=
  let s := forEach 4 (fun i s =>
    if s.isMaster i ∧ (s.working.blocks.get i).spur = some p then masterFault i s else s) s
  recheckFar s0 s
/-- R125, R126: a TRUCK spur has entered UP: its light and STOP ALL are sent. -/
def blocksSpurUp (p : SpurId) (s0 : State) (s : State) : State :=
  let s := recheckFar s0 s
  let s := reformLights s
  offer p (.stopAll s.blocks.stopAll) (offer p (.lights (s.blocks.lights.get p)) s)
/-- R117, R120, R121: a line port has become LOST; `s0` is the state before. -/
def blocksPortLost (d : Side) (s0 : State) (s : State) : State :=
  match d with
  | .inbye => forEach 4 (fun i s =>
      if s.isMaster i then masterFault i (s.setMaster i { s.master i with farReady := false }) else s) s
  | .outbye =>
    let s := forEach 4 (fun i s =>
      if s.isFar i then
        farEvent i (fun s =>
          let f := s.farEnd i
          (s.setFar i { f with mirror := { f.mirror with state := .fault } }).markIf (f.mirror.state != .fault) (.block i)) s
      else s) s
    recheckFar s0 s
/-- R121: the outbye port has become UP. -/
def blocksPortUp (d : Side) (s0 : State) (s : State) : State :=
  match d with | .inbye => s | .outbye => recheckFar s0 s
/-- R124: a change of the effective level; `wasTrip` is whether it stood at TRIP or above before. -/
def blocksAtLevel (wasTrip : Bool) (s : State) : State :=
  let s := if wasTrip && !s.atTrip then
      forEach 4 (fun i s =>
        if s.isMaster i ∧ ((s.master i).state = .free ∨ (s.master i).state = .held) then masterEvent i (serveWaits i) s else s) s
    else s
  reformStopAll (reformLights s)

/-! ## Messages (R119) -/

/-- R119, R202: a TAG from a TRUCK spur. Tag 0 and a tag above 4095 are discarded (log entry 18). -/
def blockTag (p : SpurId) (t sense : Nat) (s : State) : State :=
  if t = 0 ∨ 4095 < t ∨ 1 < sense then s
  else match s.blockOfSpur p with
    | none => s
    | some i =>
      match (s.working.blocks.get i).role, sense with
      | .master, 0 => takeClaim i .master t s
      | .master, _ => takeExit i .master t s
      | .far, 0 => farArriving i t s
      | .far, _ => farLeaving i t s
/-- R119: a CLAIM or EXIT for a master comes in at the inbye port and is discarded when no entry matches or it names tag 0. -/
def neighbourClaim (id t : Nat) (s : State) : State :=
  match s.masterOf id with | some i => if t = 0 then s else takeClaim i .far t s | none => s
def neighbourExit (id t : Nat) (s : State) : State :=
  match s.masterOf id with | some i => if t = 0 then s else takeExit i .far t s | none => s
/-- R198: a readiness octet other than 1 is NOT READY. -/
def neighbourFarState (id r : Nat) (s : State) : State :=
  match s.masterOf id with | some i => setFarReady i (r == 1) s | none => s
def neighbourGrant (id t : Nat) (s : State) : State :=
  match s.farOf id with | some i => if t = 0 then s else farAnswer i t .granted s | none => s
def neighbourWait (id t : Nat) (s : State) : State :=
  match s.farOf id with | some i => if t = 0 then s else farAnswer i t .waiting s | none => s
def neighbourState (id st dir count : Nat) (tags : List Nat) (mw fw : Nat) (s : State) : State :=
  match s.farOf id, mirrorOf st dir count tags mw fw with | some i, some m => farTakeState i m s | _, _ => s
/-- R64, R119: a neighbour message taken at a port is handed over when the port is UP and its kind fits the port. -/
def takeNeighbour (d : Side) (m : NMsg) (s : State) : State :=
  if (s.port d).up then
    match d, m with
    | .inbye, .claim b t => neighbourClaim b t s
    | .inbye, .exit b t => neighbourExit b t s
    | .inbye, .farState b r => neighbourFarState b r s
    | .outbye, .grant b t => neighbourGrant b t s
    | .outbye, .wait b t => neighbourWait b t s
    | .outbye, .masterState b st dir n tags mw fw => neighbourState b st dir n tags mw fw s
    | _, _ => s
  else s

/-! ## Turns and ages (R113, R118) -/

/-- R118: a far entry's turn. -/
def farTurn (i : BlockIx) (s : State) : State :=
  let s := postReadiness i s
  let f := s.farEnd i
  let s := match f.claim with
    | some (t, st) =>
      if st ≠ .granted ∧ ¬ f.mirror.tags.contains t ∧ f.mirror.fWait ≠ some t then post .outbye (.claim (s.blockId i) t) s else s
    | none => s
  let keep := f.exits.filter fun t => f.mirror.tags.contains t
  keep.foldl (fun s t => post .outbye (.exit (s.blockId i) t) s) (setExits i keep s)
/-- R118: the turn of an entry. -/
def blockTurn (i : BlockIx) (s : State) : State :=
  if s.isMaster i then postState i s else if s.isFar i then farTurn i s else s
/-- R113: the age count of a listed truck after a cycle, which stops at the transit limit. -/
def ageTruck (limit : Nat) (t : Truck) : Truck := { t with age := bump limit t.age }
def ageMaster (limit : Nat) (m : Master) : Master :=
  { m with list := m.list.map (ageTruck limit), faults := m.faults.map (ageTruck limit) }
/-- R113: a truck of the list or the fault list whose age count has reached the limit and that is not yet marked. -/
def overdueNow (limit t : Nat) (l : List Truck) : Bool := l.any fun x => x.tag == t && limit ≤ x.age && !x.overdue
def markOverdue (t : Nat) (l : List Truck) : List Truck := l.map fun x => if x.tag = t then { x with overdue := true } else x
def takeOverdue (i : BlockIx) (t : Nat) (s : State) : State :=
  let m := s.master i
  let limit := (s.working.blocks.get i).transit * 250
  if s.isMaster i && (overdueNow limit t m.list || overdueNow limit t m.faults) then
    (s.setMaster i (addAnomaly (.overdue t) { m with list := markOverdue t m.list, faults := markOverdue t m.faults })).mark (.block i)
  else s

end Sys2Proof.Machine
end

