-- ==== Sys2Proof/Machine/Slots.lean ====
section
/-! DEFINITION. The Slot Switch (chapter 4): owners, forwarding, slot collisions, continuity and the local bridge. -/

namespace Sys2Proof.Machine

/-- R67: the pair of entries of a slot and far side is free. -/
def State.pairFree (s : State) (far : Side) (sl : Slot) : Bool :=
  (s.slots.map.get (addIx far sl)).add.isNone && (s.slots.map.get (dropIx far sl)).drop.isNone
/-- R67: both owners of the pair are written, and the drop entry's continuity count is set to 0. -/
def installPair (r : RecId) (far : Side) (sl : Slot) (s : State) : State :=
  let s := s.setSlot (addIx far sl) { s.slots.map.get (addIx far sl) with add := some r }
  s.setSlot (dropIx far sl) { s.slots.map.get (dropIx far sl) with drop := some r, continuity := 0 }
/-- R67: both owners of the pair become absent; an entry's other owner is untouched. -/
def removePair (far : Side) (sl : Slot) (s : State) : State :=
  let s := s.setSlot (addIx far sl) { s.slots.map.get (addIx far sl) with add := none }
  s.setSlot (dropIx far sl) { s.slots.map.get (dropIx far sl) with drop := none, continuity := 0 }
/-- R73: the drop side's continuity count starts at 0 when the record becomes CONNECTED. -/
def startContinuity (far : Side) (sl : Slot) (s : State) : State :=
  s.setSlot (dropIx far sl) { s.slots.map.get (dropIx far sl) with continuity := 0 }

/-- R49: how a cell is handed to the owner of its slot; an occupied one carries its payload. -/
inductive Arrival where
  | occupied (payload : List Octet)
  | vacant
  | errored
deriving DecidableEq, Repr

/-- R70: the add owner's voice cell: its handset's voice while CONNECTED, otherwise the idle pattern. -/
def State.addVoice (s : State) (r : RecId) : SlotOut :=
  let x := s.calls.recs.get r
  if x.state == .connected then
    match x.origin with
    | some p => .voice p
    | none => .cell idleVoice
  else .cell idleVoice
/-- R70: what an entry's cell carries when it is sent, none for a vacant cell: a spur's latest voice field, or the idle pattern
when no valid frame has arrived on it since the previous cycle. -/
def State.outPayload (s : State) : Option SlotOut → Option (List Octet)
  | some (.cell p) => some p
  | some (.voice p) => some ((s.spurs.get p).voice.getD idleVoice)
  | _ => none
/-- R69: the payload goes to the drop owner's handset when it arrived VALID OCCUPIED and the owner is CONNECTED; otherwise
the idle pattern goes. -/
def deliverVoice (r : RecId) (a : Arrival) (s : State) : State :=
  let x := s.calls.recs.get r
  match x.origin with
  | some p =>
    let v := match a with | .occupied pl => if x.state == .connected then pl else idleVoice | _ => idleVoice
    s.setSpur p { s.spurs.get p with dropVoice := some v }
  | none => s
/-- R73: the continuity count of an entry with a drop owner after a cell; at 125 the loss has been handed over, and the count
stays until the removal. -/
def continuityAfter (connected : Bool) (a : Arrival) (n : Nat) : Nat :=
  if connected then (if n = 125 then 125 else match a with | .occupied _ => 0 | _ => bump 125 n) else 0
/-- R69, R73: what the drop side of an entry does with a cell. -/
def dropCell (e : SlotIx) (r : RecId) (a : Arrival) (s : State) : State :=
  let s := deliverVoice r a s
  let x := s.slots.map.get e
  s.setSlot e { x with continuity := continuityAfter ((s.calls.recs.get r).state == .connected) a x.continuity }
/-- R72: an occupied arrival discarded by an ADD entry is a slot collision. -/
def collide (s : State) : State :=
  (s.setSlots { s.slots with collisions := bump16 s.slots.collisions }).mark .line
/-- R68 to R71: an entry handles the cell of a cycle and decides what is sent in its place in the node's next cycle. -/
def switchCell (e : SlotIx) (a : Arrival) (s : State) : State :=
  let x := s.slots.map.get e
  let sends (o : SlotOut) (s : State) : State := s.setSlot e { s.slots.map.get e with out := some o }
  match x.drop, x.add with
  | none, none => sends (match a with | .occupied p => .cell p | _ => .vacant) s
  | some r, none => sends .vacant (dropCell e r a s)
  | none, some r =>
    let s := match a with | .occupied _ => collide s | _ => s
    sends (s.addVoice r) s
  | some rd, some ra =>
    let s := dropCell e rd a s
    sends (s.addVoice ra) s

/-- R75: the spur joined to a spur by the bridge. -/
def bridgedTo (b : List (SpurId × SpurId)) (p : SpurId) : Option SpurId :=
  match b.find? (fun q => q.1 == p || q.2 == p) with
  | some q => some (if q.1 == p then q.2 else q.1)
  | none => none
/-- R163: the voice field of the next frame on a spur: the bridged handset's voice, or what was dropped for it, or idle. -/
def State.voiceFor (s : State) (p : SpurId) : List Octet :=
  if s.spurUpAs .voice p then
    match bridgedTo s.slots.bridge p with
    | some q => ((s.spurs.get q).voice).getD idleVoice
    | none => ((s.spurs.get p).dropVoice).getD idleVoice
  else idleVoice

end Sys2Proof.Machine
end

