-- ==== Sys2Proof/Machine/Calls.lean ====
section
/-! DEFINITION. The Call Controller (chapter 5): the call record's states, dialling, admission, holding, preemption, clearing,
reclamation and autonomy. The orders' own meanings are in Orders.lean. -/

namespace Sys2Proof.Machine

def tone (p : SpurId) (t : Tone) (s : State) : State := offer p (.tone t) s
def toneOpt (p : Option SpurId) (t : Tone) (s : State) : State := match p with | some p => tone p t s | none => s
def ringOpt (p : Option SpurId) (on : Bool) (s : State) : State := match p with | some p => offer p (.ring on) s | none => s
def State.call (s : State) (r : RecId) : CallRec := s.calls.recs.get r

/-- R89: the HELD records in the order in which they entered HELD. -/
def reorderHeld (r : RecId) (st : CallState) (l : List RecId) : List RecId :=
  if st = .held then l.filter (· ≠ r) ++ [r] else l.filter (· ≠ r)
/-- R79, R98, R101: a change of state stamps the state entry cycle, returns the timer to 0 and marks CALL. `f` gives the
fields that change with it. R79 shows the digits collected in COLLECTING and does not say when they go: they stay with the record
until it is IDLE (DESIGN CHOICE, log entry 39). -/
def enterCall (r : RecId) (st : CallState) (f : CallRec → CallRec) (s : State) : State :=
  let x := { f (s.call r) with state := st, entry := some s.line.cycle, timer := some 0 }
  let s := s.setCall r x
  (s.setCalls { s.calls with heldOrder := reorderHeld r st s.calls.heldOrder }).mark (.call r)

/-! ## Clearing (R97) -/

def clearTone : ClearCause → Tone
  | .normal => .busy | .busy => .busy | .preempted => .preempt | _ => .congestion
/-- R81, R83: the handsets of a call: its origin, and the destination of a LOCAL record in whatever state (log entry 15). -/
def handsetsOf (x : CallRec) : List SpurId :=
  x.origin.toList ++ (if x.role = some .localCall ∧ x.dest ≠ x.origin then x.dest.toList else [])
/-- The handset a RINGING record rings. -/
def rungSpur (x : CallRec) : Option SpurId := if x.role = some .localCall then x.dest else x.origin
/-- The tone of the cause to each handset of the call that is off hook. -/
def clearTones (c : ClearCause) (l : List SpurId) (s : State) : State :=
  l.foldl (fun s p => if s.calls.hooks.get p then tone p (clearTone c) s else s) s
/-- The pair of Slot Map entries of a live record goes. -/
def dropPair (x : CallRec) (s : State) : State :=
  match x.far, x.slot with
  | some far, some sl => if x.live then removePair far sl s else s
  | _, _ => s
/-- The pair of a LOCAL record in CONNECTED leaves the bridge. -/
def dropBridge (x : CallRec) (s : State) : State :=
  if x.role = some .localCall ∧ x.state = .connected then
    s.setSlots { s.slots with bridge := s.slots.bridge.filter fun q => !(some q.1 == x.origin && some q.2 == x.dest) }
  else s
/-- R97: clearing an in-use record; a record already CLEARED or IDLE is left as it is. -/
def clearCall (r : RecId) (c : ClearCause) (s : State) : State :=
  let x := s.call r
  if x.inUse then
    let s := enterCall r .cleared (fun y => { y with cause := some c }) s
    let s := s.setCalls { s.calls with clearing := s.calls.clearing ++ [r] }
    let s := dropBridge x (dropPair x s)
    let s := if x.state = .ringing then ringOpt (rungSpur x) false s else s
    clearTones c (handsetsOf x) s
  else s
/-- The records that meet a test when their turn comes are cleared, and join the clearing order, in index order, which R90 states for
PREEMPTED by the mask and the model takes for every such event (DESIGN CHOICE, log entry 50). -/
def clearWhere (p : CallRec → Bool) (c : ClearCause) (s : State) : State :=
  forEach 16 (fun r s => if p (s.call r) then clearCall r c s else s) s

/-! ## Taking a record (R82, R93, R99) -/

def State.idleRec (s : State) : Option RecId := s.calls.recs.firstIx fun _ x => x.state == .idle
/-- R98, R99: a CLEARED record becomes IDLE and leaves the clearing order. This change of state marks no CALL source (DESIGN CHOICE,
log entry 63). -/
def freeCall (r : RecId) (s : State) : State :=
  let s := s.setCall r .idle
  s.setCalls { s.calls with clearing := s.calls.clearing.filter (· ≠ r) }
/-- The record that is taken: the lowest IDLE one, or else the oldest CLEARED one. -/
def State.recToTake (s : State) : Option RecId :=
  match s.idleRec with
  | some r => some r
  | none => s.calls.clearing.head?
/-- R99: a CLEARED record taken is reclaimed first, its pending CALL report withdrawn. -/
def reclaim (r : RecId) (s : State) : State :=
  if (s.call r).state = .cleared then freeCall r (s.withdraw (.call r)) else s
/-- R79: a record leaving IDLE takes the counter's value, and the counter advances, wrapping from 255 to 1. -/
def numberCall (r : RecId) (s : State) : State :=
  let s := s.setCall r { s.call r with callNo := some s.calls.counter }
  s.setCalls { s.calls with counter := if s.calls.counter = 255 then 1 else s.calls.counter + 1 }
/-- R82: the count of calls refused for table full. -/
def countRefused (s : State) : State := s.setCalls { s.calls with refused := bump16 s.calls.refused }

/-! ## Admission (R87, R88) -/

/-- R88: the local ring step. -/
def ringStep (r : RecId) (s : State) : State :=
  let x := s.call r
  match x.dest with
  | none => s
  | some d =>
    if x.origin = some d then clearCall r .busy s
    else if !s.spurUpAs .voice d then clearCall r .congestion s
    else if s.ringBusy r d then clearCall r .busy s
    else toneOpt x.origin .ringback (offer d (.ring true) (enterCall r .ringing id s))
/-- R87: REQUESTED, with TONE NONE to the origin. -/
def requestCall (r : RecId) (s : State) : State := toneOpt (s.call r).origin .silent (enterCall r .requested id s)
/-- R87: an admitted record proceeds by its destination. -/
def proceedCall (r : RecId) (s : State) : State :=
  let x := s.call r
  if x.role = some .localCall then ringStep r s
  else if s.line.autonomous && x.dialled != some .emergency then clearCall r .congestion s
  else requestCall r s
/-- R87: the admission test of a completed number. -/
def admitCall (r : RecId) (s : State) : State :=
  let x := s.call r
  if s.level.mask < x.priority.getD 0 then toneOpt x.origin .hold (enterCall r .held id s) else proceedCall r s

/-! ## Dialling (R84 to R86) -/

/-- The outcome of the digits taken so far. -/
inductive DialOutcome where
  | wait
  | bad
  | emergency
  | station (number spurDigit : Nat)
deriving DecidableEq, Repr
/-- R84: the table, its first matching line deciding. -/
def dialOutcome : List Nat → DialOutcome
  | [d] => if d = 0 ∨ d = 9 ∨ d = 1 ∨ d = 2 then .wait else .bad
  | [a, b] => if a = 9 then (if b = 9 then .emergency else .bad) else if a ≤ 2 then .wait else .bad
  | [a, b, c] => let n := a * 100 + b * 10 + c; if 1 ≤ n ∧ n ≤ 239 then .wait else .bad
  | [a, b, c, d] => if 1 ≤ d ∧ d ≤ 8 then .station (a * 100 + b * 10 + c) d else .bad
  | _ => .bad
/-- A completed number is recorded and takes the admission test. -/
def completeCall (r : RecId) (d : Dialled) (priority : Option Nat) (s : State) : State :=
  let x := s.call r
  admitCall r (s.setCall r { x with dialled := some d, priority := if priority.isSome then priority else x.priority })
/-- R84: a STATION destination at this node makes the record LOCAL; its spur must be of type VOICE. A number that is INVALID for its
spur leaves the dialled destination absent, the role LOCAL and the destination spur standing (DESIGN CHOICE, log entry 62). -/
def completeStation (r : RecId) (n d : Nat) (s : State) : State :=
  if n = s.working.commission.station then
    match identIx 8 d with
    | none => clearCall r .invalid s
    | some q =>
      let s := s.setCall r { s.call r with role := some .localCall, dest := some q }
      if (s.working.spurs.get q).type = .voice then completeCall r (.station n d) none s else clearCall r .invalid s
  else completeCall r (.station n d) none s
/-- The record in COLLECTING whose origin is the spur. -/
def State.collectingAt (s : State) (p : SpurId) : Option RecId :=
  s.calls.recs.firstIx fun _ x => x.state == .collecting && x.origin == some p
/-- R84, R202: one digit; above 9, or with no COLLECTING record, it is discarded. -/
def takeDigit (p : SpurId) (d : Nat) (s : State) : State :=
  match (if d ≤ 9 then s.collectingAt p else none) with
  | none => s
  | some r =>
    let x := s.call r
    let s := if x.digits.isEmpty then tone p .silent s else s
    let digits := x.digits ++ [d]
    let s := s.setCall r { x with digits := digits, timer := some 0 }
    match dialOutcome digits with
    | .wait => s
    | .bad => clearCall r .invalid s
    | .emergency => completeCall r .emergency (some 0) s
    | .station n k => completeStation r n k s

/-! ## Handset signals (R82, R83) -/

/-- R82: a DESTINATION handset answers. -/
def answerDestination (r : RecId) (p : SpurId) (s : State) : State :=
  let x := s.call r
  let s := enterCall r .connected id s
  let s := match x.far, x.slot with | some far, some sl => startContinuity far sl s | _, _ => s
  tone p .silent (offer p (.ring false) s)
/-- R82: a LOCAL destination handset answers, and the pair joins the bridge. -/
def answerLocal (r : RecId) (p : SpurId) (s : State) : State :=
  let x := s.call r
  let s := enterCall r .connected id s
  let s := tone p .silent (toneOpt x.origin .silent (offer p (.ring false) s))
  match x.origin with
  | some o => s.setSlots { s.slots with bridge := s.slots.bridge ++ [(o, p)] }
  | none => s
/-- R82, R85: a record is taken for a lifted handset; a refuge handset's priority is 0. -/
def startCall (p : SpurId) (s : State) : State :=
  match s.recToTake with
  | none => countRefused (tone p .congestion s)
  | some r =>
    let cfg := s.working.spurs.get p
    let s := numberCall r (reclaim r s)
    let s := enterCall r .collecting
      (fun x => { x with role := some .origin, origin := some p, refuge := cfg.refuge,
                         priority := some (if cfg.refuge then 0 else cfg.priority), digits := [] }) s
    tone p .dial s
def State.ringingDestination (s : State) (p : SpurId) : Option RecId :=
  s.calls.recs.firstIx fun _ x => x.state == .ringing && x.role == some .destination && x.origin == some p
def State.ringingLocal (s : State) (p : SpurId) : Option RecId :=
  s.calls.recs.firstIx fun _ x => x.state == .ringing && x.role == some .localCall && x.dest == some p
/-- R82: what a handset that has gone off hook does. -/
def liftHandset (p : SpurId) (s : State) : State :=
  match s.ringingDestination p with
  | some r => answerDestination r p s
  | none =>
    match s.ringingLocal p with
    | some r => answerLocal r p s
    | none => startCall p s
/-- R80, R82: an OFFHOOK; one taken while already OFF HOOK changes nothing. -/
def takeOffhook (p : SpurId) (s : State) : State :=
  if s.calls.hooks.get p then s else liftHandset p (s.setHook p true)
/-- R83: an in-use record with the spur as origin, or a CONNECTED LOCAL record with it as destination. -/
def endsWith (p : SpurId) (x : CallRec) : Bool :=
  x.inUse && (x.origin == some p || (x.role == some .localCall && x.state == .connected && x.dest == some p))
/-- R80, R83: an ONHOOK; one taken while already ON HOOK changes nothing. -/
def takeOnhook (p : SpurId) (s : State) : State :=
  if s.calls.hooks.get p then clearWhere (endsWith p) .normal (tone p .silent (s.setHook p false)) else s

/-! ## Mask, spur loss and autonomy (R81, R89 to R91, R100) -/

/-- R90: a mask fall preempts every admitted record above the new mask, in index order. -/
def preempt (mask : Nat) (s : State) : State := clearWhere (fun x => x.admitted && mask < x.priority.getD 0) .preempted s
/-- R89: the HELD records within the mask, in order of priority number and then of entry. -/
def State.retestOrder (s : State) (mask : Nat) : List RecId :=
  (List.range 16).flatMap fun k => s.calls.heldOrder.filter fun r => (s.call r).priority.getD 0 = k ∧ k ≤ mask
/-- R89: on a mask rise each completes its step before the next is taken. -/
def retest (mask : Nat) (s : State) : State :=
  (s.retestOrder mask).foldl (fun s r => if (s.call r).state = .held then proceedCall r s else s) s
/-- R33: a change of the mask is handed to the Call Controller. -/
def callsAtMask (old new : Nat) (s : State) : State := if new < old then preempt new s else retest new s
/-- R91: CLEAR CALLS ABOVE. -/
def clearCallsAbove (priority : Nat) (s : State) : State :=
  clearWhere (fun x => x.inUse && priority < x.priority.getD 0) .preempted s
/-- R81: a VOICE spur has left UP. -/
def callsSpurLost (p : SpurId) (s : State) : State :=
  clearWhere (fun x => x.inUse && (x.origin == some p || x.dest == some p)) .lost (s.setHook p false)
/-- R80: a VOICE spur has entered UP. -/
def callsSpurUp (p : SpurId) (s : State) : State := s.setHook p false
/-- R100: the timers of the REQUESTED records start again from 0. -/
def resetRequested (s : State) : State :=
  forEach 16 (fun r s => if (s.call r).state = .requested then s.setCall r { s.call r with timer := some 0 } else s) s
/-- R100: on entering autonomy the REQUESTED records that are not EMERGENCY are cleared CONGESTION. -/
def callsAutonomous (s : State) : State :=
  resetRequested (clearWhere (fun x => x.state == .requested && x.dialled != some .emergency) .congestion s)
/-- R100: on leaving autonomy. -/
def callsReached (s : State) : State := resetRequested s

/-! ## Timers (R86, R101) -/

/-- R79, R101: one cycle of a record's state timer, which stands at its limit once it has reached it. -/
def State.tickCall (s : State) (x : CallRec) : CallRec := if s.timerRuns x then { x with timer := x.timer.map (bump (timerLimit x)) } else x
/-- A record in the state whose timer has reached its limit. -/
def expired (st : CallState) (x : CallRec) : Bool := x.state == st && timerLimit x ≤ x.timer.getD 0
/-- The record is cleared TIMEOUT when its limit in the state has been reached. -/
def timeoutCall (st : CallState) (r : RecId) (s : State) : State := if expired st (s.call r) then clearCall r .timeout s else s

/-! ## The commands -/

/-- SURFACE_COMPLETION_TIMEOUT (R86): digits exactly "0" whose timer has reached 500 cycles complete as SURFACE. -/
def execSurfaceCompletionTimeout (r : RecId) (s : State) : Host.Outcome State Fault Refusal :=
  whenPowered (fun s => if expired .collecting (s.call r) ∧ (s.call r).digits = [0] then completeCall r .surface none s else s) s
/-- REFUGE_EMERGENCY_COMPLETION (R85): a refuge call with no digits whose timer has reached 1250 cycles. -/
def execRefugeEmergencyCompletion (r : RecId) (s : State) : Host.Outcome State Fault Refusal :=
  whenPowered (fun s => if expired .collecting (s.call r) ∧ (s.call r).refuge = true ∧ (s.call r).digits = []
    then completeCall r .emergency (some 0) s else s) s
/-- COLLECTING_TIMEOUT (R86): any other digits, or none, when the timer has reached 2500 cycles. -/
def execCollectingTimeout (r : RecId) (s : State) : Host.Outcome State Fault Refusal :=
  whenPowered (fun s => if timerLimit (s.call r) = 2500 then timeoutCall .collecting r s else s) s
/-- REQUESTED_TIMEOUT (R101). -/
def execRequestedTimeout (r : RecId) (s : State) : Host.Outcome State Fault Refusal := whenPowered (timeoutCall .requested r) s
/-- HELD_TIMEOUT (R89). -/
def execHeldTimeout (r : RecId) (s : State) : Host.Outcome State Fault Refusal := whenPowered (timeoutCall .held r) s
/-- ALERTING_TIMEOUT (R101). -/
def execAlertingTimeout (r : RecId) (s : State) : Host.Outcome State Fault Refusal := whenPowered (timeoutCall .alerting r) s
/-- RINGING_TIMEOUT (R101). -/
def execRingingTimeout (r : RecId) (s : State) : Host.Outcome State Fault Refusal := whenPowered (timeoutCall .ringing r) s
/-- CONTINUITY_LOSS (R73): the entry's count has reached 125 and its drop owner is CONNECTED; the record is cleared LOST. -/
def execContinuityLoss (e : SlotIx) (s : State) : Host.Outcome State Fault Refusal :=
  whenPowered (fun s =>
    let x := s.slots.map.get e
    match x.drop with
    | some r => if x.continuity = 125 ∧ (s.call r).state = .connected then clearCall r .lost s else s
    | none => s) s

end Sys2Proof.Machine
end

