-- ==== Sys2Proof/Machine/Levels.lean ====
section
/-! DEFINITION. The Level Unit (chapter 2): forming the levels, the mask, the output and the drives, taking a latch cause,
contact inputs, and the hand-over of a changed effective level to the blocks that act on it (R32), the panels' part of it
included (R140, R141). -/

namespace Sys2Proof.Machine

/-! ## Commands to a panel that the level gives (R140, R141) -/

def refugeSpurOffer (r : PairIx) (m : OutMsg) (s : State) : State :=
  match (s.working.refuges.get r).spur with | some p => offer p m s | none => s
/-- R140: the PREPARE commanded flag is set with REFUGE PREPARE sent. -/
def sendPrepare (r : PairIx) (s : State) : State :=
  let s := refugeSpurOffer r .refugePrepare s
  let x := s.refuges.get r
  (s.setRefuge r { x with prepared := true }).markIf (!x.prepared) (.refuge r)
/-- R141: the standdown test, made when the level falls from EVACUATE and when occupancy falls to 0. It finds occupancy 0 also between
a restart and the panel's answer to ROLL QUERY, and a fall of the level then stands the chamber down (DESIGN CHOICE, log entry 58). -/
def standdownTest (r : PairIx) (s : State) : State :=
  let x := s.refuges.get r
  if s.refugeOn r && x.prepared && x.occupancy == 0 && s.level.effective.val < 4 then
    ((refugeSpurOffer r .refugeStanddown s).setRefuge r { x with prepared := false }).mark (.refuge r)
  else s
/-- R140, R141: the effective level has changed from `old`. A record that `stay` names is not stood down by the fall. It names none
but at a restart, which says there whom the emptied rolls spare (R144, `State.restartStays`, log entry 19). -/
def refugesAtLevelBut (stay : PairIx → Bool) (old : Level) (s : State) : State :=
  if old.val < 4 ∧ s.level.effective.val = 4 then
    forEach 2 (fun r s => if s.refugeOn r && !(s.refuges.get r).prepared then sendPrepare r s else s) s
  else if old.val = 4 ∧ s.level.effective.val < 4 then forEach 2 (fun r s => if stay r then s else standdownTest r s) s
  else s

/-! ## Forming what follows (R28, R32, R33, R37, R44) -/

/-- R44: one drive formed again; a change marks LEVEL. -/
def reformDrive (o : PairIx) (s : State) : State :=
  if s.driveOf o = s.level.drive.get o then s
  else (s.setLevel { s.level with drive := s.level.drive.put o (s.driveOf o) }).mark .level
def reformDrives (s : State) : State := forEach 2 reformDrive s
/-- R33: the mask formed again; a change marks LEVEL and is handed to the Call Controller. -/
def reformMask (s : State) : State :=
  let old := s.level.mask
  let new := s.maskOf
  if new = old then s else callsAtMask old new ((s.setLevel { s.level with mask := new }).mark .level)
/-- R37: the isolation output formed again; a change marks ISOLATION. -/
def reformOutput (s : State) : State :=
  if s.outputOf = s.level.output then s else (s.setLevel { s.level with output := s.outputOf }).mark .isolation
/-- R32: the effective level formed again; a change marks LEVEL, re-forms the mask and the drives, and is handed to the Call
Controller, the Block Controller, the Refuge Monitor and the Action Unit. -/
def reformEffectiveBut (stay : PairIx → Bool) (s : State) : State :=
  let old := s.level.effective
  let new := s.effectiveOf
  if new = old then s
  else
    let wasTrip := s.atTrip
    let s := (s.setLevel { s.level with effective := new }).mark .level
    let s := reformDrives (reformMask s)
    (refugesAtLevelBut stay old (blocksAtLevel wasTrip s)).notify .level
def reformEffective (s : State) : State := reformEffectiveBut (fun _ => false) s
/-- R28: the local level formed again; a change marks LEVEL and re-forms the effective level. -/
def reformLocalBut (stay : PairIx → Bool) (s : State) : State :=
  let new := s.localOf
  if new = s.level.localLevel then s
  else reformEffectiveBut stay ((s.setLevel { s.level with localLevel := new }).mark .level)
def reformLocal (s : State) : State := reformLocalBut (fun _ => false) s

/-! ## The latch (R36) -/

/-- A set without repeats takes an element. -/
def insertCause (c : Cause) (l : List Cause) : List Cause := if l.contains c then l else l ++ [c]
/-- R36: what taking a cause does to the Level Unit's own state. -/
def LevelUnit.withCause (l : LevelUnit) (c : Cause) (cycle : Nat) : LevelUnit :=
  { l with latch := true, causes := insertCause c l.causes, accumulated := insertCause c l.accumulated
           firstCause := if l.latch then l.firstCause else some (c, cycle) }
/-- R36: the latch takes a cause: it is set, PREPARE is cleared, ISOLATION is marked; the level and the output follow. -/
def takeCauseBut (stay : PairIx → Bool) (c : Cause) (s : State) : State :=
  let s := s.setLevel (s.level.withCause c s.line.cycle)
  let s := (s.setMgmt { s.mgmt with prepare := false }).mark .isolation
  reformLocalBut stay (reformOutput s)
def takeCause (c : Cause) (s : State) : State := takeCauseBut (fun _ => false) c s

/-! ## Contact inputs (R41 to R43) -/

/-- R41: one sample of an input whose role in force is not NONE. A run count at 3 stands, whatever is sampled, until the change
it makes is taken (log entry 6). -/
def sampleContact (closed : Bool) (c : Contact) : Contact :=
  if c.run = 3 then c
  else if closed = c.active then { c with run := 0 } else { c with run := bump 3 c.run }
/-- R42: a change of an input's active state marks LEVEL and is handed to the Action Unit, then acts by the role. -/
def contactChanged (i : PairIx) (active : Bool) (s : State) : State :=
  let s := (s.setLevel { s.level with contacts := s.level.contacts.put i { active := active, run := 0 } }).mark .level
  let s := s.notify (.contact i)
  if active ∧ s.roleInForce i = .trip then takeCause (.contact i) s else reformLocal s
/-- R43: an input whose role has become NONE is inactive with run count 0; a change of its active state is handed on as R42
states. -/
def contactNone (i : PairIx) (s : State) : State :=
  let was := (s.level.contacts.get i).active
  let s := s.setLevel { s.level with contacts := s.level.contacts.put i { active := false, run := 0 } }
  if was then (s.mark .level).notify (.contact i) else s
/-- R43: the roles in force have changed from `old` to what they are now, and the contributions follow. Where two active inputs
become TRIP at once, input 1 gives its cause first (DESIGN CHOICE, log entry 40). -/
def contactRolesBut (stay : PairIx → Bool) (old : PairIx → Role) (s : State) : State :=
  let s := forEach 2 (fun i s => if s.roleInForce i = .none ∧ old i ≠ .none then contactNone i s else s) s
  let s := forEach 2 (fun i s =>
    if s.roleInForce i = .trip ∧ old i ≠ .trip ∧ (s.level.contacts.get i).active = true then takeCauseBut stay (.contact i) s else s) s
  reformLocalBut stay s

/-! ## The general outputs and the hold (R44, R46) -/

def setForce (o : PairIx) (f : Force) (s : State) : State :=
  reformDrive o (s.setLevel { s.level with force := s.level.force.put o f })
/-- R46: the hold becomes the greater of the hold and the level. -/
def raiseLevel (l : Level) (s : State) : State := reformLocal (s.setLevel { s.level with hold := maxLevel s.level.hold l })

/-! ## Ordered levels (R29) -/

/-- R29: a segment cell with SURFACE PRESENT set, taken by a node that is not autonomous, replaces the ordered levels. -/
def takeOrdered (t : Tab 16 Level) (s : State) : State :=
  reformOutput (reformEffective (s.setLevel { s.level with ordered := t, received := true }))
/-- R28, R29, R37: what depends on the district or on commissioning is formed again. -/
def reformAllBut (stay : PairIx → Bool) (s : State) : State :=
  reformDrives (reformMask (reformOutput (reformEffectiveBut stay (reformLocalBut stay s))))
def reformAll (s : State) : State := reformAllBut (fun _ => false) s

end Sys2Proof.Machine
end

