-- ==== Sys2Proof/Machine/Refuges.lean ====
section
/-! DEFINITION. The Refuge Monitor (chapter 7): the state of a chamber, the muster list, distress, panel start-up and loss.
Commands the level gives are in Levels.lean. -/

namespace Sys2Proof.Machine

/-- R134: the state formed again; a change marks REFUGE and its contribution goes to the Level Unit. -/
def reformRefuge (r : PairIx) (s : State) : State :=
  let st := s.refugeStateOf r
  if st = (s.refuges.get r).state then s
  else reformLocal ((s.setRefuge r { s.refuges.get r with state := st }).mark (.refuge r))
/-- R134: a change of occupancy between 0 and above 0 is handed to the Action Unit. -/
def notifyOccupied (r : PairIx) (before : Nat) (s : State) : State :=
  if (before == 0) = ((s.refuges.get r).occupancy == 0) then s else s.notify (.refuge r)

/-- R135: a CHECKIN's effect on the list and the count. -/
def Refuge.checkin (x : Refuge) (t : Nat) : Refuge :=
  if t = 0 ∨ x.muster.contains t = true then x
  else if x.muster.length < 32 then { x with muster := x.muster ++ [t] }
  else { x with overflow := bump 255 x.overflow }
/-- R136: a CHECKOUT's effect on the list and the count. -/
def Refuge.checkout (x : Refuge) (t : Nat) : Refuge :=
  if t = 0 then x
  else if x.muster.contains t then { x with muster := x.muster.filter (· ≠ t) }
  else { x with overflow := x.overflow - 1 }
/-- R135, R136: the record with its list or count changed: REFUGE is marked and the state formed again. The change of occupancy is
handed to the Action Unit before the new contribution is handed to the Level Unit (DESIGN CHOICE for the order, log entry 12). -/
def changeRoll (r : PairIx) (y : Refuge) (s : State) : State :=
  let x := s.refuges.get r
  if y = x then s
  else reformRefuge r (notifyOccupied r x.occupancy ((s.setRefuge r y).mark (.refuge r)))
def refugeCheckin (r : PairIx) (t : Nat) (s : State) : State := changeRoll r ((s.refuges.get r).checkin t) s
/-- R136: when occupancy falls to 0 the distress flag is cleared and the standdown rule is applied. -/
def refugeCheckout (r : PairIx) (t : Nat) (s : State) : State :=
  let x := s.refuges.get r
  let y := x.checkout t
  let emptied := x.occupancy != 0 && y.occupancy == 0
  let s := changeRoll r (if emptied then { y with distress := false } else y) s
  let s := s.markIf (emptied && x.distress) (.refuge r)
  if emptied then standdownTest r s else s
/-- R137: DOOR; any value but 0 is SHUT (R202). -/
def refugeDoor (r : PairIx) (v : Nat) (s : State) : State :=
  let x := s.refuges.get r
  if (v == 0) = x.door then s else reformRefuge r ((s.setRefuge r { x with door := v == 0 }).mark (.refuge r))
def setDistress (r : PairIx) (b : Bool) (s : State) : State :=
  let x := s.refuges.get r
  if x.distress = b then s else (s.setRefuge r { x with distress := b }).mark (.refuge r)
/-- R138: a press prepares the chamber if it is not yet prepared, and then sets the distress flag. -/
def refugeDistress (r : PairIx) (s : State) : State :=
  let s := if (s.refuges.get r).prepared then s else sendPrepare r s
  reformRefuge r (setDistress r true s)
/-- R140: the REFUGE PREPARE action on a configured record. -/
def prepareAction (r : PairIx) (s : State) : State := reformRefuge r (setDistress r false (sendPrepare r s))
/-- R142: the panel is told what the node holds. -/
def panelStartUp (r : PairIx) (s : State) : State :=
  let s := refugeSpurOffer r (if (s.refuges.get r).prepared then .refugePrepare else .refugeStanddown) s
  refugeSpurOffer r .rollQuery s
/-- R142: the spur of a configured record has entered UP. -/
def refugeSpurUp (p : SpurId) (s : State) : State :=
  match s.refugeOfSpur p with | some r => panelStartUp r (reformRefuge r s) | none => s
/-- R142: the spur of a configured record has left UP. -/
def refugeSpurLost (p : SpurId) (s : State) : State :=
  match s.refugeOfSpur p with | some r => reformRefuge r s | none => s
/-- R139: a chamber channel's status has changed. -/
def refugesAtChannel (c : ChanId) (s : State) : State :=
  forEach 2 (fun r s =>
    let cfg := s.working.refuges.get r
    if s.refugeOn r && (cfg.chan1 == some c || cfg.chan2 == some c) then reformRefuge r s else s) s

end Sys2Proof.Machine
end

