-- ==== Sys2Proof/Machine/Air.lean ====
section
/-! DEFINITION. The Air Monitor (chapter 1): conversion, filter, bands, confirmation, history, the non-GOOD statuses, the
hand-over of a changed status, and what a reload does to an entry's state. -/

namespace Sys2Proof.Machine

/-! ## A GOOD reading's stages, as functions of the entry alone (R7 to R13) -/

/-- `p / d` to the nearest whole number, halves away from zero (R7, R8). -/
def roundDiv (p : Int) (d : Nat) : Int :=
  if 0 ≤ p then (2 * p + d) / (2 * d) else -((2 * (-p) + d) / (2 * d))
/-- R7: the unclamped engineering value E′ of a raw value. -/
def convertRaw (c : ChanCfg) (raw : Nat) : Int := roundDiv (((raw : Int) - c.zero) * c.span) 4096
/-- R7: OVER. -/
def overRange (c : ChanCfg) (e : Int) : Bool := (kindMax c.kind : Int) < e
/-- R7: UNDER goes by E′ alone, so a negative D whose E′ rounds to 0 leaves it clear (DESIGN CHOICE, log entry 67). -/
def underRange (e : Int) : Bool := e < 0
/-- R7: E′ clamped to the range of the kind. -/
def clampRange (c : ChanCfg) (e : Int) : Nat := min e.toNat (kindMax c.kind)
/-- R8: the step of the filter, forced to ±1 when it rounds to 0 and the difference is not 0. -/
def filterStep (shift : Nat) (delta : Int) : Int :=
  let step := roundDiv delta (2 ^ shift)
  if step = 0 then (if 0 < delta then 1 else if delta < 0 then -1 else 0) else step
/-- R8: F after a value `e` for a present F. -/
def filterNext (shift f e : Nat) : Nat := ((f : Int) + filterStep shift (16 * (e : Int) - f)).toNat
/-- R8: V of F. -/
def valueOf (f : Nat) : Nat := (f + 8) / 16
/-- R9: the raw band of V. -/
def rawBand (c : ChanCfg) (v : Nat) : Nat :=
  if atThreshold c.kind v c.l3 then 3 else if atThreshold c.kind v c.l2 then 2 else if atThreshold c.kind v c.l1 then 1 else 0
/-- R9: the fail-safe override of a reading with value E′. -/
def failSafe (c : ChanCfg) (e : Int) : Bool := if kindRising c.kind then overRange c e else underRange e
/-- R11: the highest band from `s − 1` down to 1 whose threshold V is within hysteresis of, or 0. -/
def fallTo (c : ChanCfg) (v : Nat) : Nat → Nat
  | 0 => 0
  | j + 1 => if withinHyst c.kind c.hyst v (threshold c (j + 1)) then j + 1 else fallTo c v j
/-- R11: the band a reading with b0 ≤ s leaves: `s` while V is within hysteresis of L_s. -/
def heldBand (c : ChanCfg) (v s : Nat) : Nat := fallTo c v s
/-- R10 to R12: the status, N and m after a GOOD reading, from the status, N and m before it. -/
def statusUpdate (c : ChanCfg) (override : Bool) (b0 v : Nat) (x : Channel) : Channel :=
  match bandOf x.status with
  | none => { x with status := bandStatus b0, n := 0, m := none }
  | some s =>
    if override then { x with status := .trip, n := 0, m := none }
    else if s < b0 then
      let m := match x.m with | some m => if x.n = 0 then b0 else min m b0 | none => b0
      if c.confirm ≤ x.n + 1 then { x with status := bandStatus m, n := 0, m := none }
      else { x with n := x.n + 1, m := some m }
    else { x with status := bandStatus (heldBand c v s), n := 0, m := none }
/-- R13: the reading count rises, and a sample is written when it reaches d. -/
def historyStep (c : ChanCfg) (v : Nat) (x : Channel) : Channel :=
  if c.decimation ≤ x.readings + 1 then
    { x with ring := x.ring.set x.wpos (some v), wpos := (x.wpos + 1) % c.window, valid := min (x.valid + 1) c.window, readings := 0 }
  else { x with readings := x.readings + 1 }
/-- R8, R12: F after a GOOD reading of value `e`: it restarts from a status outside the bands, and where it is absent. -/
def filterOf (c : ChanCfg) (x : Channel) (e : Nat) : Nat :=
  match bandOf x.status, x.f with
  | some _, some f => filterNext c.shift f e
  | _, _ => 16 * e
/-- R7 to R13: a GOOD reading. -/
def goodReading (c : ChanCfg) (raw : Nat) (x : Channel) : Channel :=
  let e' := convertRaw c raw
  let f := filterOf c x (clampRange c e')
  let v := valueOf f
  let b0 := if failSafe c e' then 3 else rawBand c v
  let x := { x with stale := 0, f := some f, v := some v, overSet := overRange c e', underSet := underRange e' }
  historyStep c v (statusUpdate c (failSafe c e') b0 v x)
/-- R14 to R17: a status outside the bands is entered; nothing changes when FAULT is entered from FAULT. -/
def enterStatus (st : ChanStatus) (x : Channel) : Channel :=
  if st = .fault ∧ x.status = .fault then x else { x with status := st, n := 0, m := none }

/-! ## What a changed status does (R18, R19, R21) -/

/-- R21: a changed status makes the source pending when it differs from the last reported one, and raises the superseded
count of a source already pending. -/
def markChannel (c : ChanId) (s : State) : State :=
  let x := s.air.get c
  s.markIf ((s.held (.channel c)).isSome || x.status != x.lastReported) (.channel c)
/-- R19: the cause an entry's status gives the latch. -/
def State.chanCause (s : State) (c : ChanId) : Option Cause :=
  let cfg := s.working.channels.get c
  match (s.air.get c).status with
  | .trip => if s.chanUsed c && cfg.tripOn then some (.channelTrip c) else none
  | .fault => if s.chanUsed c && cfg.faultTrips then some (.channelFault c) else none
  | _ => none
def takeCauseOpt (c : Option Cause) (s : State) : State := match c with | some c => takeCause c s | none => s
/-- R18, R19, R21: what follows a change of an entry's status from `old`. -/
def statusChanged (c : ChanId) (old : ChanStatus) (s : State) : State :=
  if (s.air.get c).status = old then s
  else
    let s := (markChannel c s).notify (.channel c)
    reformLocal (refugesAtChannel c (takeCauseOpt (s.chanCause c) s))
/-- An entry's state is replaced and its changed status, if any, is handed over. -/
def changeChan (c : ChanId) (x : Channel) (s : State) : State := statusChanged c (s.air.get c).status (s.setChan c x)

/-! ## Readings and faults (R6, R14 to R17) -/

/-- R6: the in-use entry bound to a spur and a sub-channel. -/
def State.chanFor (s : State) (p : SpurId) (sub : Nat) : Option ChanId :=
  s.working.channels.firstIx fun c cfg => s.chanUsed c && cfg.spur == some p && cfg.sub == sub
/-- R6, R202: a READING. Quality 0 is GOOD, 1 WARMUP, 2 FAULT; a raw value above 4095 or a quality above 2 makes it a FAULT
reading. -/
def readingOf (c : ChanCfg) (raw quality : Nat) (x : Channel) : Channel :=
  if 4095 < raw then enterStatus .fault { x with stale := 0 }
  else match quality with
    | 0 => goodReading c raw x
    | 1 => enterStatus .warmup { x with stale := 0 }
    | _ => enterStatus .fault { x with stale := 0 }
def takeReading (p : SpurId) (sub raw quality : Nat) (s : State) : State :=
  match (if s.spurUpAs .gas p then s.chanFor p sub else none) with
  | none => s
  | some c => changeChan c (readingOf (s.working.channels.get c) raw quality (s.air.get c)) s
/-- R16: the stale count of an in-use entry has reached its limit. -/
def State.staleDue (s : State) (c : ChanId) : Bool :=
  s.chanUsed c && (s.working.channels.get c).staleLimit * 250 ≤ (s.air.get c).stale
def chanFault (c : ChanId) (s : State) : State := changeChan c (enterStatus .fault (s.air.get c)) s
/-- R16: one cycle of the stale count, which stops at its limit. -/
def tickStale (used : Bool) (c : ChanCfg) (x : Channel) : Channel :=
  if used then { x with stale := bump (c.staleLimit * 250) x.stale } else x

/-! ## Reloading (R24, R25, R26) -/

/-- R24: the state of an in-use entry replaced by an in-use one. -/
def reloadUsed (old new : ChanCfg) (x : Channel) : Channel :=
  let x := { x with n := 0, m := none, f := none, v := x.v.map (min · (kindMax new.kind)), stale := 0, readings := 0 }
  if old.window = new.window then x else { x with ring := List.replicate new.window none, wpos := 0, valid := 0 }
/-- R25: the state of an entry that becomes unused. -/
def becomeUnused (new : ChanCfg) (x : Channel) : Channel :=
  { x with status := .unused, f := none, v := none, m := none, n := 0, overSet := false, underSet := false
           ring := List.replicate new.window none, wpos := 0, valid := 0 }
/-- R25, R26: the state of an entry brought into use: the power-on values, its last reported status UNUSED, also where the entry
was made unused and that has not been reported yet (DESIGN CHOICE, log entry 44). -/
def becomeUsed (new : ChanCfg) : Channel := { Channel.start true new.window with lastReported := .unused }
/-- R24, R25, R26: the working entry has been replaced, or commissioning has changed; `was` says whether it was in use. -/
def reloadChan (c : ChanId) (was : Bool) (old : ChanCfg) (s : State) : State :=
  let new := s.working.channels.get c
  match was, s.chanUsed c with
  | true, true =>
    let s := s.setChan c (reloadUsed old new (s.air.get c))
    takeCauseOpt (s.chanCause c) s
  | true, false => changeChan c (becomeUnused new (s.air.get c)) s
  | false, true => changeChan c (becomeUsed new) s
  | false, false => s

/-- R16: the entry's stale count has reached its limit, and it enters FAULT. -/
def staleExpire (c : ChanId) (s : State) : State := if s.staleDue c then chanFault c s else s

end Sys2Proof.Machine
end

