-- ==== Sys2Proof/Machine/Trucks.lean ====
section
/-! DEFINITION. Truck status messages and the truck alarm record (R127, R128). -/

namespace Sys2Proof.Machine

/-- R127: the truck alarm record after a status of a truck. -/
def alarmAfter (t : Nat) (r : TruckReport) (alarm : Option Nat) : Option Nat :=
  if r = .emergency then some t else if alarm = some t then none else alarm
/-- R127: the record takes a value; a change is handed to the Level Unit. -/
def setTruckAlarm (a : Option Nat) (s : State) : State := reformLocal (s.setBlocks { s.blocks with truckAlarm := a })
/-- R127: a TRUCK STATUS is recorded with the cycle at which it was taken, and TRUCK is marked; a change of the alarm record
marks it again. Tag 0, a tag above 4095 and a status above 3 are discarded (log entry 18). -/
def takeTruckStatus (p : SpurId) (t status : Nat) (s : State) : State :=
  match (if t = 0 ∨ 4095 < t then none else truckReportOf status) with
  | none => s
  | some r =>
    let s := (s.setBlocks { s.blocks with truckLast := s.blocks.truckLast.put p (some (t, r, s.line.cycle)) }).mark (.truck p)
    let a := alarmAfter t r s.blocks.truckAlarm
    if a = s.blocks.truckAlarm then s else (setTruckAlarm a s).mark (.truck p)
/-- R128: the record is set to none; the TRUCK source of each TRUCK spur whose last status names the tag is marked. -/
def clearTruckAlarm (s : State) : State :=
  match s.blocks.truckAlarm with
  | none => s
  | some t =>
    forEach 8 (fun p s =>
      match s.blocks.truckLast.get p with
      | some (t', _, _) => s.markIf (s.spurType p == .truck && t' == t) (.truck p)
      | none => s) (setTruckAlarm none s)

end Sys2Proof.Machine
end

