-- ==== Sys2Proof/Machine/Actions.lean ====
section
/-! DEFINITION. The Action Unit (chapter 8): running actions and lists, the Armed Queue, and the changes handed to it, which
it takes one at a time once what it is running is finished (R146). -/

namespace Sys2Proof.Machine

/-! ## Actions (R147 to R149, R159) -/

/-- R149: idle: UP, ON HOOK and named by no in-use record. -/
def State.handsetIdle (s : State) (p : SpurId) : Bool := s.spurUpAs .voice p && !s.handsetBusy p
/-- R149: SOUND HANDSETS. -/
def soundHandsets (s : State) : State := forEach 8 (fun p s => if s.handsetIdle p then tone p .alert s else s) s
/-- R148: the STOP TRUCKS count takes a value, and STOP ALL is formed again. -/
def setStopTrucks (n : Nat) (s : State) : State := reformStopAll (s.setAction { s.action with stopTrucks := n })
/-- R159: SEND NOTE. -/
def addNote (code : Nat) (a : ActionUnit) : ActionUnit :=
  if a.notes.length < 4 then { a with notes := a.notes ++ [code] } else { a with notesDropped := bump 255 a.notesDropped }
/-- R147: an action run by its owner: the state it leaves, and whether it is done. -/
def runAction (a : Action) (s : State) : State × Bool :=
  match a with
  | .setOutput o f => (setForce o f s, true)
  | .soundHandsets => (soundHandsets s, true)
  | .closeBlock id => match s.masterOf id with | some i => (closeBlock i s, true) | none => (s, false)
  | .raiseLevel l => (raiseLevel l s, true)
  | .setTrip => (takeCause .action s, true)
  | .clearCallsAbove n => (clearCallsAbove n s, true)
  | .refugePrepare r => if s.refugeOn r then (prepareAction r s, true) else (s, false)
  | .stopTrucks => (setStopTrucks 15000 s, true)
  | .sendNote c => ((s.setAction (addNote c s.action)).mark .action, true)

/-! ## Lists (R151, R152) -/

/-- R152: a list whose action failed is emptied. Its condition last value is false from then on (DESIGN CHOICE, log entry 56). -/
def emptyList (x : PairIx) (s : State) : State :=
  let s := s.setWorking { s.working with triggers := s.working.triggers.put x { cond := none, actions := [] } }
  s.setAction { s.action with lists := s.action.lists.put x .empty, last := s.action.last.put x false }
/-- R152: the actions from a position on, in order; a failure skips the rest and empties the list. -/
def runFrom (x : PairIx) (pos : Nat) : List Action → State → State
  | [], s => s.mark .action
  | a :: rest, s =>
    match runAction a s with
    | (s, true) => runFrom x (pos + 1) rest s
    | (s, false) =>
      (emptyList x (s.setAction { s.action with failure := some { source := .list x, position := pos, action := a } })).mark .action
/-- R151: a list that is not EMPTY is evaluated. -/
def evalList (x : PairIx) (s : State) : State :=
  let cfg := s.working.triggers.get x
  match cfg.cond with
  | none => s
  | some c =>
    let now := s.triggerTrue c
    let last := s.action.last.get x
    let a := { s.action with last := s.action.last.put x now }
    if now && !last then runFrom x 0 cfg.actions (s.setAction { a with lists := a.lists.put x .fired })
    else if !now && last then s.setAction { a with lists := a.lists.put x .armed }
    else s

/-! ## The Armed Queue (R154 to R157) -/

/-- R157: every entry is discarded and counted. -/
def flushQueue (s : State) : State :=
  (s.setAction { s.action with queue := [], headDelay := 0, flushed := min 255 (s.action.flushed + s.action.queue.length) }).mark .action
/-- R156: the head's action runs and the entry leaves, the head delay count being 0 from then on, also while the queue is empty
(DESIGN CHOICE, log entry 52); a failure flushes what stands behind it, and the place of the entry as head is recorded as position 0
(DESIGN CHOICE, log entry 57). -/
def runHead (s : State) : State :=
  match s.action.queue with
  | [] => s
  | (a, _) :: rest =>
    let leave (s : State) : State := (s.setAction { s.action with queue := rest, headDelay := 0 }).mark .action
    match runAction a s with
    | (s, true) => leave s
    | (s, false) =>
      let s := leave s
      flushQueue (s.setAction { s.action with failure := some { source := .queue, position := 0, action := a } })
/-- R156: the head is examined, and after a run the next one at once; `n` bounds the entries that can run. -/
def examineHead : Nat → State → State
  | 0, s => s
  | n + 1, s =>
    match s.action.queue with
    | [] => s
    | (_, c) :: _ => if s.queueTrue c then examineHead n (runHead s) else s
/-- R156: the Action Unit is handed a change that the head's condition may read; a TAG message meets TAG SEEN itself. -/
def headAt (n : Notice) (s : State) : State :=
  match s.action.queue with
  | [] => s
  | (_, c) :: _ =>
    if queueReads c n then
      match c with
      | .tagSeen _ _ => examineHead 8 (runHead s)
      | _ => examineHead 8 s
    else s
/-- R154: an entry joins the tail; one that joins an empty queue becomes head and is examined. -/
def armEntry (a : Action) (c : QueueCond) (s : State) : State :=
  let first := s.action.queue.isEmpty
  let s := s.setAction { s.action with queue := s.action.queue ++ [(a, c)], headDelay := if first then 0 else s.action.headDelay }
  if first then examineHead 8 s else s

/-! ## Taking the changes handed over (R146, R151, R156) -/

/-- R151: a list whose condition reads the change is evaluated. -/
def listAt (n : Notice) (x : PairIx) (s : State) : State :=
  match (s.working.triggers.get x).cond with
  | some c => if triggerReads c n then evalList x s else s
  | none => s
/-- R151, R156: list A, then list B, then the head. While uncommissioned nothing is evaluated (R145). -/
def takeNotice (n : Notice) (s : State) : State :=
  if s.commissioned then headAt n (listAt n 1 (listAt n 0 s)) else s
/-- The changes handed over are taken in the order in which they were handed; the number bounds how many, and none is left. -/
def settleN : Nat → State → State
  | 0, s => s.setAction { s.action with notices := [] }
  | k + 1, s =>
    match s.action.notices with
    | [] => s
    | n :: rest => settleN k (takeNotice n (s.setAction { s.action with notices := rest }))
/-- The bound on the changes one event can hand over: every list and queue entry can run its few actions and no more, so it
is never reached (log entry 9). -/
def settleBound : Nat := 1000
/-- R146: what the Action Unit does after an event. -/
def settle (s : State) : State := settleN settleBound s
/-- R145, R160: each list that is not EMPTY is evaluated at once. -/
def evalLists (s : State) : State := if s.commissioned then settle (evalList 1 (evalList 0 s)) else s
/-- R145: the node becomes uncommissioned. The head delay count of the emptied queue is 0 (DESIGN CHOICE, log entry 53). -/
def actionUncommissioned (s : State) : State :=
  setStopTrucks 0 (s.setAction
    { s.action with
      lists := s.working.triggers.mapIx fun _ l => if l.cond.isNone then .empty else .armed
      last := Tab.fill 2 false, queue := [], headDelay := 0 })
/-- R153: a loaded entry has replaced the working list. -/
def triggerLoaded (x : PairIx) (s : State) : State :=
  let s := flushQueue s
  let st : ListState := if (s.working.triggers.get x).cond.isNone then .empty else .armed
  let s := (s.setAction { s.action with lists := s.action.lists.put x st, last := s.action.last.put x false }).mark .action
  if s.commissioned then evalList x s else s

/-- A command on a powered node, after which the Action Unit takes what was handed to it. -/
def settled (f : State → State) (s : State) : Host.Outcome State Fault Refusal := whenPowered (fun s => settle (f s)) s

/-! ## The commands -/

/-- STOP_TRUCKS_END (R148): the count has reached 0 and the force ends. -/
def execStopTrucksEnd (s : State) : Host.Outcome State Fault Refusal :=
  settled (fun s => if s.action.stopTrucks = 0 then reformStopAll s else s) s
/-- R156: the head waits for a DELAY whose limit the count has reached. -/
def State.delayDue (s : State) : Bool :=
  match s.action.queue with
  | (_, .delay d) :: _ => s.queueTrue (.delay d)
  | _ => false
/-- HEAD_DELAY_EXPIRY (R156). -/
def execHeadDelayExpiry (s : State) : Host.Outcome State Fault Refusal :=
  settled (fun s => if s.commissioned && s.delayDue then examineHead 8 s else s) s
/-- STALE_EXPIRY (R16). -/
def execStaleExpiry (c : ChanId) (s : State) : Host.Outcome State Fault Refusal := settled (staleExpire c) s
/-- CONTACT_CHANGE (R42): three samples in a row have differed from the active state, in a role in force that is not NONE. -/
def execContactChange (i : PairIx) (s : State) : Host.Outcome State Fault Refusal :=
  settled (fun s => if s.roleInForce i ≠ .none ∧ (s.level.contacts.get i).run = 3
    then contactChanged i (!(s.level.contacts.get i).active) s else s) s
/-- OVERDUE (R113): a listed truck's age count has reached the transit limit. -/
def execOverdue (i : BlockIx) (t : Nat) (s : State) : Host.Outcome State Fault Refusal := settled (takeOverdue i t) s
/-- BLOCK_TURN (R118): on the cycle in which the block period count is the entry's turn. -/
def State.turnDue (s : State) (i : BlockIx) : Bool :=
  s.blocks.turnOpen && (s.blocks.period == i.val * 50)
def execBlockTurn (i : BlockIx) (s : State) : Host.Outcome State Fault Refusal :=
  settled (fun s => if s.turnDue i then
    blockTurn i (s.setBlocks { s.blocks with turnOpen := false }) else s) s

end Sys2Proof.Machine
end

