-- ==== Sys2Proof/Machine/Spurs.lean ====
section
/-! DEFINITION. The Spur Controller (chapter 9): validity of frames, start-up, supervision, delivery of messages from heads,
and what a load of the SPURS table or a change of commissioning does to a spur. A command that names a message from a head
is the arrival of a valid frame that carries it (log entry 5). -/

namespace Sys2Proof.Machine

/-! ## Leaving and entering UP (R166) -/

/-- R17: the bound spur has left UP. Its entries enter FAULT in index order, so the lowest one with fault trips set gives a clear
latch its first cause (DESIGN CHOICE, log entry 43), and the Action Unit takes what one entry's change hands over before the next
entry changes (R32, R146, R151, R156). -/
def airSpurLost (p : SpurId) (s : State) : State :=
  forEach 16 (fun c s => if s.chanUsed c && (s.working.channels.get c).spur == some p then settle (chanFault c s) else s) s
/-- R166: the owner of type `t` is told that the spur has left UP; `s0` is the state before. -/
def ownerLost (t : SpurType) (p : SpurId) (s0 s : State) : State :=
  match t with
  | .off => s
  | .gas => airSpurLost p s
  | .voice => callsSpurLost p s
  | .truck => blocksSpurLost p s0 s
  | .refuge => refugeSpurLost p s
/-- R166: the owner of type `t` is told that the spur has entered UP; `s0` is the state before. -/
def ownerUp (t : SpurType) (p : SpurId) (s0 s : State) : State :=
  match t with
  | .off => s
  | .gas => s
  | .voice => callsSpurUp p s
  | .truck => blocksSpurUp p s0 s
  | .refuge => refugeSpurUp p s
/-- R166: what leaving UP empties, before the owner is told. A payload already dropped for the handset goes too (DESIGN CHOICE, log
entry 69). -/
def Spur.leave (x : Spur) (st : SpurState) : Spur := { x with state := st, queue := [], voice := none, dropVoice := none }
/-- R166: an UP spur of in-force type `t` takes another state. -/
def leaveUp (t : SpurType) (p : SpurId) (st : SpurState) (s : State) : State :=
  ownerLost t p s ((s.setSpur p ((s.spurs.get p).leave st)).mark (.spur p))
/-- R165, R166: a spur enters UP with HELLO ACK pending ACCEPTED, and then the owner is told. -/
def enterUp (p : SpurId) (s : State) : State :=
  ownerUp (s.spurType p) p s ((s.setSpur p { s.spurs.get p with state := .up, ack := some true }).mark (.spur p))
/-- R166: a change of state among those that no owner is told of. -/
def enterSpur (p : SpurId) (st : SpurState) (s : State) : State := (s.setSpur p { s.spurs.get p with state := st }).mark (.spur p)

/-! ## HELLO (R165) -/

/-- R165: a HELLO judged in STARTING or MISMATCH. -/
def judgeHello (p : SpurId) (h : HeadType) (s : State) : State :=
  if headMatches h (s.spurType p) then enterUp p s
  else
    let s := s.setSpur p { s.spurs.get p with ack := some false }
    if (s.spurs.get p).state = .mismatch then s else enterSpur p .mismatch s
/-- R165: a HELLO taken; one taken in UP takes the spur out of UP first, and the Action Unit takes what its owner hands over
(R146) before the HELLO is judged. -/
def takeHello (p : SpurId) (h : HeadType) (s : State) : State :=
  let s := s.setSpur p { s.spurs.get p with offered := some h }
  judgeHello p h (if s.spurUp p then settle (leaveUp (s.spurType p) p .starting s) else s)

/-! ## Delivery (R168) -/

/-- R164, R168: a discarded message raises the inbound discard count. -/
def discardMsg (p : SpurId) (s : State) : State :=
  s.setSpur p { s.spurs.get p with inDiscard := bump16 (s.spurs.get p).inDiscard }
/-- R168, R202: a TAG goes to the Block Controller and then to the Action Unit, which discards an unknown sense. The Action Unit
takes the block's change before the TAG, so the TAG meets a TAG SEEN entry that the block's change has made head (DESIGN CHOICE, log
entry 70). -/
def deliverTag (p : SpurId) (t sense : Nat) (s : State) : State :=
  let s := blockTag p t sense s
  if sense ≤ 1 then s.notify (.tag p t) else s
/-- R168: a REFUGE panel's message goes to the configured record its spur serves. -/
def deliverRefuge (p : SpurId) (f : PairIx → State → State) (s : State) : State :=
  match s.refugeOfSpur p with | some r => f r s | none => s
/-- R168: the type a message fits. -/
def HeadMsg.fits : HeadMsg → SpurType → Bool
  | .hello _, _ => true
  | .reading .., .gas => true
  | .offhook, .voice => true | .onhook, .voice => true | .digit _, .voice => true
  | .tag .., .truck => true | .truckStatus .., .truck => true
  | .door _, .refuge => true | .checkin _, .refuge => true | .checkout _, .refuge => true | .distress, .refuge => true
  | _, _ => false
/-- R168: a message delivered to the block it is for. -/
def deliver (p : SpurId) (m : HeadMsg) (s : State) : State :=
  match m with
  | .hello h => takeHello p (headTypeOf h) s
  | .reading sub raw q => takeReading p sub raw q s
  | .offhook => takeOffhook p s
  | .onhook => takeOnhook p s
  | .digit d => takeDigit p d s
  | .tag t sense => deliverTag p t sense s
  | .truckStatus t st => takeTruckStatus p t st s
  | .door v => deliverRefuge p (fun r => refugeDoor r v) s
  | .checkin t => deliverRefuge p (fun r => refugeCheckin r t) s
  | .checkout t => deliverRefuge p (fun r => refugeCheckout r t) s
  | .distress => deliverRefuge p refugeDistress s
def HeadMsg.isHello : HeadMsg → Bool
  | .hello _ => true | _ => false
/-- R165, R168: a message of a valid frame, by the spur's state and type. -/
def takeMsg (p : SpurId) (m : HeadMsg) (s : State) : State :=
  if m.isHello || (s.spurUp p && m.fits (s.spurType p)) then deliver p m s else discardMsg p s

/-! ## Frames (R164) -/

/-- R164, R165: a valid frame on a spur that is not OFF. -/
def validFrame (p : SpurId) (s : State) : State :=
  let s := s.setSpur p { s.spurs.get p with silence := 0, heard := true }
  if (s.spurs.get p).state = .down then enterSpur p .starting s else s
/-- R164: the latest voice field, kept on an UP VOICE spur. -/
def keepVoice (p : SpurId) (v : List Octet) (s : State) : State :=
  if s.spurUpAs .voice p then s.setSpur p { s.spurs.get p with voice := some v } else s
/-- R164: a frame that arrives. -/
def takeFrame (p : SpurId) (f : List Octet) (s : State) : State :=
  if (s.spurs.get p).state = .off then s
  else if frameGood f then
    let s := keepVoice p (frameVoice f) (validFrame p s)
    match frameMsg f with
    | .nothing => s
    | .unreadable => discardMsg p s
    | .msg m => takeMsg p m s
  else s.setSpur p { s.spurs.get p with errored := bump16 (s.spurs.get p).errored }
/-- A valid frame that carries the message arrives (log entry 5); on an OFF spur it is ignored. -/
def headMessage (p : SpurId) (m : HeadMsg) (s : State) : State :=
  if (s.spurs.get p).state = .off then s else takeMsg p m (validFrame p s)
/-- R165: the silence count stands at 500, or will at the end of the present cycle, in which no valid frame has arrived; it counts
in STARTING, UP and MISMATCH. -/
def Spur.silenceDue (x : Spur) : Bool :=
  x.state != .off && x.state != .down && (500 ≤ x.silence || (x.silence == 499 && !x.heard))
/-- R165: 500 cycles without a valid frame: the spur becomes DOWN with the cycle that ends the run, so that the frame of the next
cycle has START set (log entry 6). -/
def silenceTimeout (p : SpurId) (s : State) : State :=
  if (s.spurs.get p).silenceDue then
    let s := s.setSpur p { s.spurs.get p with silence := 500 }
    if s.spurUp p then leaveUp (s.spurType p) p .down s else enterSpur p .down s
  else s

/-! ## Loads and commissioning (R162, R173) -/

/-- R162, R173: what a change of the in-force type empties. The last offered head type is kept (DESIGN CHOICE, log entry 64), and the
silence count is 0 also where the new state is OFF (DESIGN CHOICE, log entry 65). A payload already dropped for the handset goes
(DESIGN CHOICE, log entry 69). -/
def Spur.reset (x : Spur) (st : SpurState) : Spur :=
  { x with state := st, silence := 0, queue := [], ack := none, voice := none, dropVoice := none }
/-- R162: the state that the spur takes when its type becomes `t`. -/
def freshState (t : SpurType) : SpurState := if t = .off then .off else .down
/-- R162: the type of a commissioned node's spur changes from `old` to `t`; SPUR is marked. -/
def retypeSpur (old t : SpurType) (p : SpurId) (s : State) : State :=
  let st := freshState t
  let s := if s.spurUp p then leaveUp old p st s else s.mark (.spur p)
  s.setSpur p ((s.spurs.get p).reset st)
/-- R162: an applied SPURS entry. -/
def loadSpur (p : SpurId) (c : SpurCfg) (s : State) : State :=
  let old := (s.working.spurs.get p).type
  let write (s : State) : State := s.setWorking { s.working with spurs := s.working.spurs.put p c }
  if old = c.type then write s
  else if s.commissioned then reformLights (write (retypeSpur old c.type p s))
  else (write s).mark (.spur p)
/-- R173: every in-force type has become OFF with the node's commissioning: each spur is OFF, and then the owners of those that
were UP are told; `t` are the tables before. -/
def spursUncommissioned (t : Tables) (s : State) : State :=
  let s0 := s
  let s := forEach 8 (fun p s =>
    if (s.spurs.get p).state = .off then s else (s.setSpur p ((s.spurs.get p).reset .off)).mark (.spur p)) s
  forEach 8 (fun p s => if s0.spurUp p then ownerLost (t.spurs.get p).type p s0 s else s) s
/-- R173: the node has become commissioned. -/
def spurCommissioned (p : SpurId) (s : State) : State :=
  if s.spurType p = .off then s else retypeSpur .off (s.spurType p) p s

/-! ## The commands -/

/-- SPUR_FRAME (R164). -/
def execSpurFrame (p : SpurId) (f : List Octet) (s : State) : Host.Outcome State Fault Refusal := settled (takeFrame p f) s
/-- HELLO (R165). -/
def execHello (p : SpurId) (headType : Nat) (s : State) : Host.Outcome State Fault Refusal :=
  settled (headMessage p (.hello headType)) s
/-- SPUR_SILENCE_TIMEOUT (R165). -/
def execSpurSilenceTimeout (p : SpurId) (s : State) : Host.Outcome State Fault Refusal := settled (silenceTimeout p) s
/-- READING (R6 to R15). -/
def execReading (p : SpurId) (sub raw quality : Nat) (s : State) : Host.Outcome State Fault Refusal :=
  settled (headMessage p (.reading sub raw quality)) s
/-- OFFHOOK (R82). -/
def execOffhook (p : SpurId) (s : State) : Host.Outcome State Fault Refusal := settled (headMessage p .offhook) s
/-- ONHOOK (R83). -/
def execOnhook (p : SpurId) (s : State) : Host.Outcome State Fault Refusal := settled (headMessage p .onhook) s
/-- DIGIT (R84). -/
def execDigit (p : SpurId) (d : Nat) (s : State) : Host.Outcome State Fault Refusal := settled (headMessage p (.digit d)) s
/-- TAG (R109, R111, R114, R115). -/
def execTag (p : SpurId) (t sense : Nat) (s : State) : Host.Outcome State Fault Refusal := settled (headMessage p (.tag t sense)) s
/-- TRUCK_STATUS (R127). -/
def execTruckStatus (p : SpurId) (t status : Nat) (s : State) : Host.Outcome State Fault Refusal :=
  settled (headMessage p (.truckStatus t status)) s
/-- CHECKIN (R135). -/
def execCheckin (p : SpurId) (t : Nat) (s : State) : Host.Outcome State Fault Refusal := settled (headMessage p (.checkin t)) s
/-- CHECKOUT (R136). -/
def execCheckout (p : SpurId) (t : Nat) (s : State) : Host.Outcome State Fault Refusal := settled (headMessage p (.checkout t)) s
/-- DOOR (R137). -/
def execDoor (p : SpurId) (v : Nat) (s : State) : Host.Outcome State Fault Refusal := settled (headMessage p (.door v)) s
/-- DISTRESS (R138). -/
def execDistress (p : SpurId) (s : State) : Host.Outcome State Fault Refusal := settled (headMessage p .distress) s

end Sys2Proof.Machine
end

