-- ==== Sys2Proof/Machine/Line.lean ====
section
/-! DEFINITION. The line ports (chapter 3): framing, cells handed over, segment cells, position, autonomy and end of line,
port supervision, errored-cell windows, neighbour messages taken, and what the node sends in a cycle. -/

namespace Sys2Proof.Machine

/-! ## Arrival of a cell (R48, R49) -/

/-- R48: an errored cell at a FRAMED port. -/
def LinePort.erroredCell (x : LinePort) : LinePort :=
  { x with errRun := bump 32 x.errRun, total := bump16 x.total, window := bump 8000 x.window }
/-- R48, R196: what a cell at a FRAMED port is, by its check word and then its slot number. -/
def judgeCell (slot : Nat) (c : List Octet) : Arrival :=
  if cellGood c && cellSlot c == slot then (if cellOccupied c then .occupied (cellPayload c) else .vacant) else .errored
/-- R48: the expected slot of the cell that arrives in a place of the cycle. The slot number of the cell that fixed the frame
was taken as its place, and the slots follow in order from it. -/
def LinePort.expected (x : LinePort) (place : Nat) : Nat := (place + x.shift) % 32
/-- R48: 32 errored cells in a row have arrived at a FRAMED port, and its return to HUNT is due. -/
def LinePort.framingDue (x : LinePort) : Bool := x.framed && x.errRun == 32
/-- R48: the port returns to HUNT, where it has no knowledge of where the cycle starts. -/
def LinePort.unframe (x : LinePort) : LinePort := { x with framed := false, shift := 0 }
/-- R48: the port as a cell finds it: a return to HUNT that is due comes before the cell (log entry 6). -/
def LinePort.atCell (x : LinePort) : LinePort := if x.framingDue then x.unframe else x
/-- R48: the port after a cell in a place; in HUNT the first good cell fixes the frame. -/
def LinePort.arrive (x : LinePort) (place : Nat) (c : List Octet) : LinePort :=
  if x.framed then
    match judgeCell (x.expected place) c with
    | .errored => x.erroredCell
    | _ => { x with errRun := 0 }
  else if cellGood c then { x with framed := true, errRun := 0, shift := (cellSlot c + 32 - place % 32) % 32 } else x
/-- R48, R49: how the cell is handed over by its framing state: a cell that arrives in HUNT is handed over as VACANT. -/
def LinePort.handed (x : LinePort) (place : Nat) (c : List Octet) : Arrival :=
  if x.framed then judgeCell (x.expected place) c else .vacant
/-- R49: a LOST port hands over every cell as VACANT. -/
def LinePort.maskLost (x : LinePort) (a : Arrival) : Arrival := if x.up then a else .vacant

/-! ## Autonomy (R59 to R61) -/

/-- R175: a partial order is discarded and counted. -/
def dropPartial (s : State) : State :=
  if s.mgmt.asm.isSome then s.setMgmt { s.mgmt with asm := none, malformed := bump16 s.mgmt.malformed } else s
/-- R179: a message part-sent is abandoned, to be sent again from its first cell. -/
def rewindProgress (m : Mgmt) : Mgmt :=
  { m with progress := m.progress.map fun p => { p with sent := 0, addr := none } }
/-- R61: a change of the autonomous condition: LINE is marked, and the Level Unit (R29), the Call Controller (R100) and the
Management Engine (R179) act. -/
def setAutonomous (b : Bool) (s : State) : State :=
  if s.line.autonomous = b then s
  else
    let s := (s.setLine { s.line with autonomous := b }).mark .line
    if b then
      callsAutonomous ((s.setLevel { s.level with received := false }).setMgmt (rewindProgress s.mgmt))
    else callsReached s

/-! ## Segment cells taken at an UP port (R50 to R54, R60, R64) -/

/-- R54: the position that a sender position gives. -/
def positionFrom (sender : Nat) : Option Nat := if 62 ≤ sender then none else some (sender + 1)
def setPosition (p : Option Nat) (s : State) : State :=
  if s.line.position = p then s else (s.setLine { s.line with position := p }).mark .line
/-- R64: the cell's neighbour message is handed over, the Action Unit having taken what the cell's fields handed over (R146, log
entry 9). -/
def takeMessage (d : Side) (m : Option NMsg) (s : State) : State :=
  match m with | some m => takeNeighbour d m (settle s) | none => s
/-- R51: a valid inbye-travelling segment cell taken at the UP outbye port. -/
def takeInbyeCell (pl : List Octet) (s : State) : State :=
  let s := s.setLine { s.line with cycle := segCycle pl, cycleTaken := true, rxSurface := segFlag pl, rxOrdered := segLevels pl }
  let s := setPosition (positionFrom (segSender pl)) s
  let s := setAutonomous (!segFlag pl) s
  let s := if segFlag pl then takeOrdered (segLevels pl) s else s
  takeMessage .outbye (segMessage pl) s
/-- R52, R58: the recorded inbye neighbour's fields; a change marks LINE. -/
def setInbyeNeighbour (p : Option Nat) (e : Option Bool) (s : State) : State :=
  if s.line.inbyePos = p ∧ s.line.inbyeEol = e then s
  else (s.setLine { s.line with inbyePos := p, inbyeEol := e }).mark .line
/-- R52: a valid outbye-travelling segment cell taken at the UP inbye port. -/
def takeOutbyeCell (pl : List Octet) (s : State) : State :=
  let s := s.setLine { s.line with rxMerged := segLevels pl }
  takeMessage .inbye (segMessage pl) (setInbyeNeighbour (some (segSender pl)) (some (segFlag pl)) s)
def takeSegment (d : Side) (pl : List Octet) (s : State) : State :=
  match d with | .outbye => takeInbyeCell pl s | .inbye => takeOutbyeCell pl s
/-- R55: a valid segment cell at a port: UP takes its fields, LOST counts it toward the good run. The second one of a cycle finds
the cycle counted; at a LOST port it is left as it is. -/
def goodSegment (d : Side) (pl : List Octet) (s : State) : State :=
  let x := s.port d
  if x.up then takeSegment d pl (s.setPort d { x with miss := 0, segSeen := true })
  else if x.segSeen then s
  else s.setPort d { x with good := bump 16 x.good, segSeen := true, heldCell := pl }
/-- The cell of slot 1 is handed to the line port; a LOST port too counts it (R49). -/
def segmentHanded (d : Side) (a : Arrival) (s : State) : State :=
  match a with | .occupied pl => goodSegment d pl s | _ => s

/-! ## Port supervision (R55, R56, R58, R62) -/

/-- R55: the end of a cycle at a port: one without a valid segment cell is a miss. The eighth miss in a row and the sixteenth good
cycle have made their change before it (`changesDue`), so the counts stay below 8 and 16. -/
def LinePort.missCycle (x : LinePort) : LinePort :=
  if x.segSeen then { x with segSeen := false }
  else if x.up then { x with miss := bump 8 x.miss } else { x with good := 0 }
/-- R58: the end-of-line condition changes with the inbye port's state, and LINE is marked. -/
def setEndOfLine (b : Bool) (s : State) : State :=
  if s.line.endOfLine = b then s else (s.setLine { s.line with endOfLine := b }).mark .line
/-- R62: the queue of a port that becomes LOST is discarded and counted. -/
def discardQueue (n : Nat) (s : State) : State :=
  s.setLine { s.line with discarded := min 65535 (s.line.discarded + n) }
/-- R55, R56: a port becomes LOST. -/
def portLost (d : Side) (s : State) : State :=
  let s0 := s
  let x := s.port d
  let s := (s.setPort d { x with up := false, miss := 0, good := 0, queue := [] }).mark .line
  let s := blocksPortLost d s0 (discardQueue x.queue.length s)
  match d with
  | .outbye => setAutonomous true (dropPartial s)
  | .inbye => setInbyeNeighbour none none (setEndOfLine true s)
/-- R55, R56: a port becomes UP, and the cell that completed the run is taken, the Action Unit having taken what the far entries'
local faults handed over (R146, R151, log entry 9). -/
def portUp (d : Side) (s : State) : State :=
  let s0 := s
  let x := s.port d
  let s := (s.setPort d { x with up := true, miss := 0, good := 0, heldCell := [] }).mark .line
  let s := settle (blocksPortUp d s0 s)
  let s := match d with | .inbye => setEndOfLine false s | .outbye => s
  takeSegment d x.heldCell s
/-- R55: the port's eighth miss in a row: it stands counted, or the present cycle, in which no valid segment cell has been handed
over, is the eighth. -/
def LinePort.lostDue (x : LinePort) : Bool := x.up && (8 ≤ x.miss || (x.miss == 7 && !x.segSeen))
/-- R55: the port's sixteenth good cycle in a row. -/
def LinePort.upDue (x : LinePort) : Bool := !x.up && x.good == 16
/-- R57: a port's window ends. -/
def closeWindow (d : Side) (s : State) : State :=
  let x := s.port d
  let deg : Bool := s.working.commission.threshold < x.window
  (s.setPort d { x with degraded := deg, window := 0 }).markIf (deg != x.degraded) .line
/-- R57: the end of a window, both ports. -/
def windowEnd (s : State) : State :=
  if s.line.windowDue then closeWindow .outbye (closeWindow .inbye (s.setLine { s.line with windowDue := false })) else s

/-! ## Sending (R30, R31, R47, R51, R52, R58, R59, R63, R163) -/

/-- R51, R52: the node's own position as sender. -/
def State.sender (s : State) : Nat := s.line.position.getD 63
/-- R50: the number of the cycle in which the cells are sent, the one after the cycle now ending (DEDUCED from the worked
break: the cells sent in cycles 30000 to 30007 carry those numbers; log entry 8). -/
def State.sendCycle (s : State) : Nat := (s.line.cycle + 1) % 65536
/-- R30: the ordered levels sent on: those received, or those held when the node originates the cell. -/
def State.sentOrdered (s : State) : Tab 16 Level := if s.line.outPort.up then s.line.rxOrdered else s.level.ordered
/-- R31: the merged levels. -/
def State.merged (s : State) : Tab 16 Level :=
  let rx := if s.line.endOfLine then Tab.fill 16 0 else s.line.rxMerged
  let d := s.working.commission.district
  if s.commissioned then rx.put d (maxLevel (rx.get d) s.level.localLevel) else rx
/-- R51, R59: the payload of the inbye-travelling segment cell. -/
def State.inbyeSegment (s : State) : List Octet :=
  segPayload (s.line.outPort.up && s.line.rxSurface) s.sender s.sendCycle s.sentOrdered s.line.inPort.queue.head?
/-- R52, R58: the payload of the outbye-travelling segment cell, octets 1 and 2 being 0. -/
def State.outbyeSegment (s : State) : List Octet :=
  segPayload s.line.endOfLine s.sender 0 s.merged s.line.outPort.queue.head?
/-- The 30 traffic cells of a direction as their entries decided them. -/
def State.trafficCells (s : State) (dir : Side) : List (List Octet) :=
  (List.finRange 30).map fun sl => wireCell (sl.val + 2) (s.outPayload (s.slots.map.get (slotIx dir sl)).out)
/-- R47: the 32 cells sent on the inbye port. -/
def State.inbyeCells (s : State) : List (List Octet) :=
  wireCell 0 s.mgmt.toInbye :: wireCell 1 (some s.inbyeSegment) :: s.trafficCells .inbye
/-- R47: the 32 cells sent on the outbye port. -/
def State.outbyeCells (s : State) : List (List Octet) :=
  wireCell 0 s.mgmt.toOutbye :: wireCell 1 (some s.outbyeSegment) :: s.trafficCells .outbye
/-- R163: the message field of the frame sent on a spur. -/
def State.frameMessage (s : State) (p : SpurId) : List Octet :=
  let x := s.spurs.get p
  match x.ack with
  | some b => helloAckOctets (s.spurType p) b
  | none => match x.queue with
    | m :: _ => outMsgOctets m
    | [] => []
/-- R163: the frame sent on a spur, none on an OFF spur. -/
def State.spurFrameOut (s : State) (p : SpurId) : Option (List Octet) :=
  let x := s.spurs.get p
  if x.state = .off then none
  else some (wireFrame (x.state == .down || x.state == .starting) (s.voiceFor p) (s.frameMessage p))
/-- R163: what sending a frame takes from the spur's record. -/
def Spur.sentFrame (x : Spur) : Spur :=
  if x.state = .off then { x with dropVoice := none }
  else { x with ack := none, queue := if x.ack.isSome then x.queue else x.queue.drop 1, dropVoice := none }
/-- R47: the cells and frames of the next cycle are sent, and what they carried leaves its place. -/
def sendCycle (s : State) : State :=
  { s with
    pins := { inbyeTx := s.inbyeCells, outbyeTx := s.outbyeCells, spurTx := Tab.build 8 s.spurFrameOut }
    line := { s.line with
      inPort := { s.line.inPort with queue := s.line.inPort.queue.drop 1 }
      outPort := { s.line.outPort with queue := s.line.outPort.queue.drop 1 } }
    slots := { s.slots with map := s.slots.map.mapIx fun _ e => { e with out := none } }
    spurs := s.spurs.mapIx fun _ x => x.sentFrame
    mgmt := { s.mgmt with toInbye := none, toOutbye := none } }

/-! ## The cycle (R47) -/

/-- R164: the end of a cycle at a spur: one with no valid frame on a spur that is not OFF raises the silence count. That of an OFF
spur is not raised (DESIGN CHOICE, log entry 65). -/
def Spur.endCycle (x : Spur) : Spur :=
  if x.state = .off then { x with heard := false }
  else if x.heard then { x with heard := false }
  else { x with voice := none, silence := bump 500 x.silence }
/-- R49: every traffic slot in which no cell arrived is handled as VALID VACANT. -/
def fillMissing (s : State) : State :=
  forEach 60 (fun e s => if (s.slots.map.get e).out.isNone then switchCell e .vacant s else s) s
/-- R50: a cycle in which no segment cell gave the number adds 1 to it, at its end, so that a stamp made in the cycle is still one
below the number of the cell sent in it (DESIGN CHOICE, log entry 49). -/
def cycleAfter (l : Line) : Nat := if l.cycleTaken then l.cycle else (l.cycle + 1) % 65536
/-- R50, R55, R57: the line's own counts at the end of a cycle. -/
def tickLine (l : Line) : Line :=
  { l with inPort := l.inPort.missCycle, outPort := l.outPort.missCycle, cycle := cycleAfter l, cycleTaken := false
           windowPos := (l.windowPos + 1) % 250, windowDue := l.windowDue || l.windowPos == 249 }
/-- R41: the contact samples of the cycle. -/
def State.tickContacts (s : State) (closed : PairIx → Bool) : Tab 2 Contact :=
  s.level.contacts.mapIx fun i c => if s.roleInForce i = .none then c else sampleContact (closed i) c
/-- R113: a cycle of the age counts of a configured master. -/
def State.tickBlock (s : State) (i : BlockIx) (b : BlockRec) : BlockRec :=
  if s.isMaster i then { b with master := ageMaster ((s.working.blocks.get i).transit * 250) b.master } else b
/-- R113, R118: the Block Controller's counts. -/
def State.tickBlocks (s : State) : Blocks :=
  { s.blocks with entries := s.blocks.entries.mapIx s.tickBlock, period := (s.blocks.period + 1) % 250, turnOpen := true }
/-- R156: the limit of the head delay count: a DELAY head's own, 900000 cycles otherwise. -/
def headLimit : QueueCond → Nat
  | .delay d => d * 250 | _ => 900000
/-- R148, R156: the Action Unit's counts. -/
def tickAction (a : ActionUnit) : ActionUnit :=
  { a with
    headDelay := match a.queue with | (_, c) :: _ => bump (headLimit c) a.headDelay | [] => a.headDelay
    stopTrucks := a.stopTrucks - 1 }
/-- R178, R180, R187: the Management Engine's counts; the spacing count stands at P until the credit is counted. -/
def tickMgmt (p : Nat) (m : Mgmt) : Mgmt :=
  { m with
    spacing := bump p m.spacing
    period := if m.accessOpen then m.period - 1 else m.period
    write := m.write.map fun w => { w with elapsed := bump 125 w.elapsed } }
/-- Every count that a cycle moves. -/
def tick (closed : PairIx → Bool) (s : State) : State :=
  { s with
    line := tickLine s.line
    level := { s.level with contacts := s.tickContacts closed }
    air := s.air.mapIx fun c x => tickStale (s.chanUsed c) (s.working.channels.get c) x
    calls := { s.calls with recs := s.calls.recs.mapIx fun _ x => s.tickCall x }
    blocks := s.tickBlocks
    action := tickAction s.action
    spurs := s.spurs.mapIx fun _ x => x.endCycle
    mgmt := tickMgmt s.working.commission.spacing s.mgmt }
/-- R55: the change of a port that the end of the cycle completes: its eighth miss or its sixteenth good cycle; the Action Unit then
takes what it hands over. -/
def portChangeDue (d : Side) (s : State) : State :=
  if (s.port d).lostDue then settle (portLost d s) else if (s.port d).upDue then settle (portUp d s) else s
/-- R165: the change of a spur that the end of the cycle completes: its 500th cycle of silence. -/
def spurChangeDue (p : SpurId) (s : State) : State :=
  if (s.spurs.get p).silenceDue then settle (silenceTimeout p s) else s
/-- R55, R58, R59, R165: the changes that the end of the cycle completes come before the next cycle is sent: the outbye port's, the
inbye port's, and then those of spurs 1 to 8 (DESIGN CHOICE for the order, log entry 6). One taken by its own row is not due any
more. -/
def changesDue (s : State) : State := forEach 8 spurChangeDue (portChangeDue .inbye (portChangeDue .outbye s))
/-- R47: a cycle the node keeps: the changes that its end completes, its counts, the slots without a cell, and then the next cycle
is sent. A cell of slot 0 or 2 to 31 that arrived VALID in the cycle whose end makes its port LOST is still sent on in that next
cycle (R47), and so is an outbye management cell that this node filled in that cycle (R178); the vacant cells that R58 and R59
originate begin with the one after (DESIGN CHOICE, log entry 54). -/
def lineCycle (closed : PairIx → Bool) (s : State) : State := sendCycle (fillMissing (tick closed (changesDue s)))

/-! ## The commands -/

/-- LINE_CYCLE (R47). -/
def execLineCycle (closed1 closed2 : Bool) (s : State) : Host.Outcome State Fault Refusal :=
  settled (lineCycle fun i => if i = 0 then closed1 else closed2) s
/-- ERRORED_SEGMENT_CELL (R48): a slot 1 cell that arrives errored; one that arrives in HUNT is counted nowhere. -/
def execErroredSegmentCell (port : Side) (s : State) : Host.Outcome State Fault Refusal :=
  settled (fun s =>
    let x := (s.port port).atCell
    s.setPort port (if x.framed then x.erroredCell else x)) s
/-- FRAMING_LOST (R48): 32 errored cells in a row at a FRAMED port. -/
def execFramingLost (port : Side) (s : State) : Host.Outcome State Fault Refusal :=
  settled (fun s => s.setPort port (s.port port).atCell) s
/-- PORT_LOST (R55): 8 misses in a row at an UP port. -/
def execPortLost (port : Side) (s : State) : Host.Outcome State Fault Refusal := 
  settled (fun s => if (s.port port).lostDue then portLost port s else s) s
/-- PORT_UP (R55): 16 good cycles in a row at a LOST port. -/
def execPortUp (port : Side) (s : State) : Host.Outcome State Fault Refusal := 
  settled (fun s => if (s.port port).upDue then portUp port s else s) s
/-- WINDOW_END (R57). -/
def execWindowEnd (s : State) : Host.Outcome State Fault Refusal := settled windowEnd s
/-- CLAIM (R109): a neighbour message of a valid segment cell taken at the inbye port. -/
def execClaim (block t : Nat) (s : State) : Host.Outcome State Fault Refusal := settled (takeNeighbour .inbye (.claim block t)) s
/-- EXIT (R111). -/
def execExit (block t : Nat) (s : State) : Host.Outcome State Fault Refusal := settled (takeNeighbour .inbye (.exit block t)) s
/-- FAR_END_STATE (R117). -/
def execFarEndState (block readiness : Nat) (s : State) : Host.Outcome State Fault Refusal :=
  settled (takeNeighbour .inbye (.farState block readiness)) s
/-- GRANT (R114): a neighbour message of a valid segment cell taken at the outbye port. -/
def execGrant (block t : Nat) (s : State) : Host.Outcome State Fault Refusal := settled (takeNeighbour .outbye (.grant block t)) s
/-- WAIT (R114). -/
def execWait (block t : Nat) (s : State) : Host.Outcome State Fault Refusal := settled (takeNeighbour .outbye (.wait block t)) s
/-- STATE (R116). -/
def execState (block st dir count : Nat) (tags : List Nat) (mWait fWait : Nat) (s : State) : Host.Outcome State Fault Refusal :=
  settled (takeNeighbour .outbye (.masterState block st dir count tags mWait fWait)) s

end Sys2Proof.Machine
end

