-- ==== Sys2Proof/Machine/Reports.lean ====
section
/-! DEFINITION. What the surface reads: the snapshots of the ten report classes, what sending a report does to its owner, the
STATUS and ENQUIRE bodies, and the entries a TABLE READ returns. A field that octets 1 and 2 of a report already carry (its
index, its superseded count) is not repeated; lengths and absent codes that the manual leaves to the value encodings are in
log entry 17. -/

namespace Sys2Proof.Machine

/-! ## Values -/

/-- A tag that may be absent: 0 for none. -/
def tagOctets (t : Option Nat) : List Octet := be16 (tagNum t)
/-- A status that may be absent. -/
def statusOpt (o : Option ChanStatus) : Octet := opt8 (o.map statusCode)
/-- R38, R191: a first cause and its 2-octet cycle. Chapter 11 gives the cycle of an absent one as 0 for STATUS; the ISOLATION report
carries 0 too (DESIGN CHOICE, log entry 48). -/
def firstCauseOctets (o : Option (Cause × Nat)) : List Octet :=
  causeOctets (o.map (·.1)) ++ be16 (match o with | some (_, n) => n | none => 0)
/-- R65, R191: port state, framing state, DEGRADED flag. -/
def LinePort.flags (x : LinePort) : List Octet := [flagOctet x.up, flagOctet x.framed, flagOctet x.degraded]

/-! ## Snapshots, from octet 3 of a report -/

/-- R38. -/
def State.isolationSnap (s : State) : List Octet :=
  flagOctet s.level.latch :: flagOctet s.level.output ::
    (firstCauseOctets s.level.firstCause ++ causeSet s.level.causes ++ causeSet s.level.accumulated)
/-- R35. -/
def State.levelSnap (s : State) : List Octet :=
  let l := s.level
  [octet l.localLevel.val, octet s.orderedLevel.val, flagOctet (!l.received), octet l.effective.val, octet l.mask, octet l.hold.val,
   flagOctet (l.contacts.get 0).active, flagOctet (l.contacts.get 1).active,
   octet (forceCode (l.force.get 0)), flagOctet (l.drive.get 0), octet (forceCode (l.force.get 1)), flagOctet (l.drive.get 1)]
/-- R143. -/
def State.refugeSnap (s : State) (r : PairIx) : List Octet :=
  let x := s.refuges.get r
  let c := s.working.refuges.get r
  let chan (o : Option ChanId) : Octet := statusOpt (o.map fun c => (s.air.get c).status)
  flagOctet (s.refugeOn r) :: octet (refugeStateCode x.state) :: octet (doorCode x.door) :: (be16 x.occupancy ++
    [octet x.overflow, flagOctet x.distress, flagOctet x.prepared, chan c.chan1, chan c.chan2] ++ tagList x.muster)
/-- R21: the CHANNEL report's octets 3 to 6. -/
def State.channelSnap (s : State) (c : ChanId) : List Octet :=
  let x := s.air.get c
  octet (statusCode x.status) :: (opt16 x.v ++ [octet ((if x.overSet then 2 else 0) + (if x.underSet then 1 else 0))])
/-- R129: a master entry. Of each truck listed it gives the tag; the grant cycle and the overdue mark are in no report (DESIGN
CHOICE, log entry 17). -/
def masterSnap (m : Master) (light : Light) : List Octet :=
  octet (blockStateCode m.state) :: octet (sideCode m.dir) :: (tagList (listTags m.list) ++ tagList (listTags m.faults) ++
    [octet (sideCode m.faultDir)] ++ tagOctets m.mWait ++ tagOctets m.fWait ++ tagOctets m.goTag ++
    [flagOctet m.farReady, octet (lightCode light)] ++ octet m.anomalies.length :: m.anomalies.flatMap anomalyOctets ++
    [octet m.dropped])
/-- R129: a far entry. -/
def farSnap (f : FarEnd) (light : Light) : List Octet :=
  octet (blockStateCode f.shown) :: flagOctet f.localFault :: octet (blockStateCode f.mirror.state) ::
    octet (sideCode f.mirror.dir) :: (tagList f.mirror.tags ++ tagOctets f.mirror.mWait ++ tagOctets f.mirror.fWait ++
    tagOctets (f.claim.map (·.1)) ++ [octet (standingCode (f.claim.map (·.2)))] ++ tagList f.exits ++ [octet (lightCode light)])
def State.blockSnap (s : State) (i : BlockIx) : List Octet :=
  let c := s.working.blocks.get i
  match c.role with
  | .master => octet c.id :: 0 :: masterSnap (s.master i) (s.entryLight i)
  | .far => octet c.id :: 1 :: farSnap (s.farEnd i) (s.entryLight i)
/-- R127. -/
def State.truckSnap (s : State) (p : SpurId) : List Octet :=
  let x := s.blocks.truckLast.get p
  tagOctets (x.map (·.1)) ++ [opt8 (x.map fun t => truckReportCode t.2.1)] ++ opt16 (x.map (·.2.2)) ++ tagOctets s.blocks.truckAlarm
/-- R98. -/
def callSnap (x : CallRec) : List Octet :=
  [octet (x.callNo.getD 0), octet (callStateCode x.state), octet (callRoleCode x.role), ident x.origin, ident x.dest,
   opt8 x.priority] ++ dialledOctets x.dialled ++ [octet (sideCode x.far),
   octet (match x.slot with | some sl => sl.val + 2 | none => 0), octet (clearCode x.cause)] ++ opt16 x.entry
/-- R145, R158: the last failure: 1 list A, 2 list B, 3 the queue, then the position and the action; all 0 when absent. -/
def failureOctets : Option Failure → List Octet
  | none => [0, 0, 0, 0, 0]
  | some f => octet (match f.source with | .list x => x.val + 1 | .queue => 3) :: octet f.position :: actionOctets f.action
/-- R158. A count of one octet stands before the queue entries and before the notes (DESIGN CHOICE, log entry 17). -/
def actionSnap (a : ActionUnit) : List Octet :=
  octet (listStateCode (a.lists.get 0)) :: octet (listStateCode (a.lists.get 1)) :: octet a.queue.length ::
    (a.queue.flatMap fun e => actionOctets e.1 ++ queueCondOctets e.2) ++ be24 a.headDelay ++ be16 a.stopTrucks ++
    octet a.notes.length :: a.notes.map octet ++ [octet a.notesDropped] ++ failureOctets a.failure ++ [octet a.flushed]
/-- R167. -/
def State.spurSnap (s : State) (p : SpurId) : List Octet :=
  let x := s.spurs.get p
  [octet (spurTypeCode (s.working.spurs.get p).type), octet (spurTypeCode (s.spurType p)), octet (spurStateCode x.state),
   octet (headTypeCode x.offered), octet x.queue.length] ++ be16 x.errored ++ be16 x.inDiscard ++ be16 x.outDiscard
/-- R65: the outbye port first, as in STATUS. -/
def State.lineSnap (s : State) : List Octet :=
  let l := s.line
  l.outPort.flags ++ be16 l.outPort.total ++ l.inPort.flags ++ be16 l.inPort.total ++
    [flagOctet l.autonomous, flagOctet l.endOfLine, opt8 l.position, opt8 l.inbyePos,
     opt8 (l.inbyeEol.map fun b => if b then 1 else 0)] ++ be16 s.slots.collisions ++ be16 l.discarded

/-! ## Reports (R181) -/

/-- Chapter 11: the class code and the source index of a report. -/
def Source.codes : Source → Nat × Nat
  | .isolation => (1, 0)
  | .level => (2, 0)
  | .refuge r => (3, r.val + 1)
  | .channel c => (4, c.val + 1)
  | .block i => (5, i.val + 1)
  | .truck p => (6, p.val + 1)
  | .call r => (7, r.val + 1)
  | .action => (8, 0)
  | .spur p => (9, p.val + 1)
  | .line => (10, 0)
def State.snapshot (s : State) : Source → List Octet
  | .isolation => s.isolationSnap
  | .level => s.levelSnap
  | .refuge r => s.refugeSnap r
  | .channel c => s.channelSnap c
  | .block i => s.blockSnap i
  | .truck p => s.truckSnap p
  | .call r => callSnap (s.call r)
  | .action => actionSnap s.action
  | .spur p => s.spurSnap p
  | .line => s.lineSnap
/-- A report body: class, index, superseded count, snapshot. -/
def State.reportBody (s : State) (x : Source) : List Octet :=
  octet x.codes.1 :: octet x.codes.2 :: octet ((s.held x).getD 0) :: s.snapshot x
/-- R181: what the owner does when its report is sent (R21, R38, R98, R112, R158). A CLEARED record that becomes IDLE with its report
marks its CALL source no more (DESIGN CHOICE, log entry 63). -/
def reportSent (x : Source) (s : State) : State :=
  match x with
  | .isolation => s.setLevel { s.level with accumulated := [] }
  | .channel c => s.setChan c { s.air.get c with lastReported := (s.air.get c).status }
  | .block i => s.setMaster i { s.master i with anomalies := [], dropped := 0 }
  | .call r => if (s.call r).state = .cleared then freeCall r s else s
  | .action => s.setAction { s.action with notes := [], notesDropped := 0, failure := none, flushed := 0 }
  | _ => s

/-! ## Counters (R184) -/

/-- R184: the COUNTERS table, index 1 to 31. -/
def State.counter (s : State) (k : Nat) : Nat :=
  let spur (n : Nat) (f : Spur → Nat) : Nat := if h : n < 8 then f (s.spurs.get ⟨n, h⟩) else 0
  if k = 1 then s.mgmt.discarded
  else if k = 2 then s.mgmt.malformed
  else if k = 3 then s.calls.refused
  else if k = 4 then s.slots.collisions
  else if k = 5 then s.line.discarded
  else if k = 6 then s.line.outPort.total
  else if k = 7 then s.line.inPort.total
  else if k < 16 then spur (k - 8) (·.errored)
  else if k < 24 then spur (k - 16) (·.inDiscard)
  else spur (k - 24) (·.outDiscard)

/-! ## STATUS and ENQUIRE, from octet 2 of the reply (R191, R192) -/

/-- R191. The end-of-line octet is the node's own condition, the flag that its own cells carry; the inbye neighbour's flag is in
`State.lineSnap` (R65; DEDUCED, log entry 45). -/
def State.statusBody (s : State) : List Octet :=
  let c := s.working.commission
  [flagOctet s.commissioned, flagOctet s.mgmt.storeFault, flagOctet s.mgmt.write.isSome, octet c.station, opt8 s.line.position,
   octet c.district.val] ++ s.line.outPort.flags ++ s.line.inPort.flags ++
  [flagOctet s.line.autonomous, flagOctet s.line.endOfLine, octet s.level.localLevel.val, octet s.orderedLevel.val,
   flagOctet (!s.level.received), octet s.level.effective.val, octet s.level.mask, flagOctet s.level.latch,
   flagOctet s.level.output] ++ firstCauseOctets s.level.firstCause ++ causeSet s.level.causes ++
  flagOctet s.mgmt.accessOpen :: be24 s.mgmt.period ++ [octet s.mgmt.attempts] ++
  ((List.range 15).flatMap fun k => be16 (s.counter (k + 1))) ++
  [octet (s.mgmt.replies.length + s.mgmt.reserved), octet s.mgmt.credit]
/-- R192. -/
def State.enquireBody (s : State) : List Octet :=
  [84, 78, 52, 49, 54, Config.revision, 16, 16, 4, 2, 8, 2, 4, 8, 4, 62, octet s.working.commission.station,
   opt8 s.line.position, octet s.working.commission.district.val, flagOctet s.commissioned, flagOctet s.mgmt.storeFault]

/-! ## Table entries (R184, chapter 11) -/

/-- The thirteen tables by their ids. -/
inductive Table where
  | commission | levelMap | spurs | channels | blocks | refuges | triggers
  | slotMap | calls | truckLists | muster | counters | channelState
deriving DecidableEq, Repr
def tableOf : Nat → Option Table
  | 1 => some .commission | 2 => some .levelMap | 3 => some .spurs | 4 => some .channels | 5 => some .blocks
  | 6 => some .refuges | 7 => some .triggers | 8 => some .slotMap | 9 => some .calls | 10 => some .truckLists
  | 11 => some .muster | 12 => some .counters | 13 => some .channelState | _ => none
/-- The lowest index of a table and how many it has. -/
def Table.range : Table → Nat × Nat
  | .commission => (1, 1) | .levelMap => (0, 5) | .spurs => (1, 8) | .channels => (1, 16) | .blocks => (1, 4)
  | .refuges => (1, 2) | .triggers => (1, 2) | .slotMap => (0, 60) | .calls => (1, 16) | .truckLists => (1, 4)
  | .muster => (1, 2) | .counters => (1, 31) | .channelState => (1, 16)
/-- R184, R185: the first index and the index first + count − 1 lie in the table. -/
def Table.rangeOk (t : Table) (first count : Nat) : Bool :=
  count != 0 && t.range.1 ≤ first && first + count ≤ t.range.1 + t.range.2
/-- The entry size of a loadable table; none for a table that can be read but not loaded. -/
def Table.entrySize : Table → Option Nat
  | .commission => some 10 | .levelMap => some 1 | .spurs => some 3 | .channels => some 21 | .blocks => some 6
  | .refuges => some 3 | .triggers => some 16 | _ => none

/-- R78: mode codes PASS 0, DROP 1, ADD 2, DROP+ADD 3 (log entry 17). -/
def slotModeCode : SlotMode → Nat
  | .pass => 0 | .dropOnly => 1 | .addOnly => 2 | .dropAdd => 3
/-- R78. -/
def slotEntryOctets (k : SlotIx) (e : SlotEntry) : List Octet :=
  [octet (k.val % 30 + 2), octet (if k.val < 30 then 1 else 2), octet (slotModeCode e.mode), ident e.drop, ident e.add,
   octet e.continuity]
/-- R79: the fields of a record, with the hook state of its origin spur. -/
def State.callEntryOctets (s : State) (r : RecId) : List Octet :=
  let x := s.call r
  [octet (r.val + 1), octet (x.callNo.getD 0), octet (callStateCode x.state), octet (callRoleCode x.role), ident x.origin,
   ident x.dest, opt8 x.priority, octet x.digits.length] ++ x.digits.map octet ++ dialledOctets x.dialled ++
  [octet (sideCode x.far), octet (match x.slot with | some sl => sl.val + 2 | none => 0)] ++ opt16 x.entry ++ opt16 x.timer ++
  [octet (clearCode x.cause), opt8 (x.origin.map fun p => if s.calls.hooks.get p then 1 else 0)]
/-- R129: the report's fields, its superseded count among them, with the recent-exit memory and each list entry's age count. -/
def State.truckListOctets (s : State) (i : BlockIx) : List Octet :=
  s.blockSnap i ++ [octet ((s.held (.block i)).getD 0)] ++ (match (s.working.blocks.get i).role with
    | .master => let m := s.master i
      tagList m.memory ++ m.list.flatMap (fun t => be24 t.age) ++ m.faults.flatMap fun t => be24 t.age
    | .far => [])
/-- R23. -/
def chanStateOctets (x : Channel) : List Octet :=
  octet (statusCode x.status) :: (opt24 x.f ++ opt16 x.v ++ [octet x.n, opt8 x.m, flagOctet x.overSet, flagOctet x.underSet,
    octet (statusCode x.lastReported)] ++ be16 x.stale ++ [octet x.readings, octet x.wpos, octet x.valid])
/-- Readable-only entries are preceded by a length octet. -/
def withLength (l : List Octet) : List Octet := octet l.length :: l
/-- An entry numbered from 1, when there is one. -/
def ofIx (n k : Nat) (f : Fin n → List Octet) : List Octet := match identIx n k with | some i => f i | none => []
/-- An entry of a table as TABLE READ returns it (R153: a trigger list is followed by its state). -/
def State.entryOctets (s : State) (t : Table) (k : Nat) : List Octet :=
  match t with
  | .commission => commissionOctets s.working.commission
  | .levelMap => if h : k < 5 then [octet (s.working.levelMap.get ⟨k, h⟩)] else []
  | .spurs => ofIx 8 k fun i => spurCfgOctets (s.working.spurs.get i)
  | .channels => ofIx 16 k fun i => chanCfgOctets (s.working.channels.get i)
  | .blocks => ofIx 4 k fun i => blockCfgOctets (s.working.blocks.get i)
  | .refuges => ofIx 2 k fun i => refugeCfgOctets (s.working.refuges.get i)
  | .triggers => ofIx 2 k fun i => triggerCfgOctets (s.working.triggers.get i) ++ [octet (listStateCode (s.action.lists.get i))]
  | .slotMap => if h : k < 60 then withLength (slotEntryOctets ⟨k, h⟩ (s.slots.map.get ⟨k, h⟩)) else []
  | .calls => ofIx 16 k fun r => withLength (s.callEntryOctets r)
  | .truckLists => ofIx 4 k fun i => withLength (s.truckListOctets i)
  | .muster => ofIx 2 k fun r => withLength (octet (r.val + 1) :: s.refugeSnap r)
  | .counters => withLength (be16 (s.counter k))
  | .channelState => ofIx 16 k fun c => withLength (chanStateOctets (s.air.get c))
/-- R184: whole entries from an index upward while they fit in the octets left, with how many there are. -/
def State.readEntries (s : State) (t : Table) : Nat → Nat → Nat → Nat × List Octet
  | 0, _, _ => (0, [])
  | n + 1, k, room =>
    let e := s.entryOctets t k
    if e.length ≤ room then
      let (m, l) := s.readEntries t n (k + 1) (room - e.length)
      (m + 1, e ++ l)
    else (0, [])
/-- R184: the fields of a TABLE READ answered DONE: the count returned, then the entries. -/
def State.tableReadBody (s : State) (t : Table) (first count : Nat) : List Octet :=
  let (m, l) := s.readEntries t count first 221
  octet m :: l
/-- R22: the fields of a HISTORY READ. -/
def historyBody (w : Nat) (x : Channel) (start count : Nat) : List Octet :=
  let n := min count w
  octet x.wpos :: octet x.valid :: octet n ::
    (List.range n).flatMap fun k => opt16 ((x.ring[(start + k) % w]?).getD none)

end Sys2Proof.Machine
end

