-- ==== Sys2Proof/Machine/Tables.lean ====
section
/-! DEFINITION. Loading table entries: each entry's check against the working tables and what applying it does (R4, R24, R25,
R34, R104, R132, R153, R162, R186), and the change of commissioning (R190). -/

namespace Sys2Proof.Machine

/-! ## Commissioning (R190) -/

/-- R130: the record of an entry that takes the power-on values. -/
def resetBlock (i : BlockIx) (s : State) : State :=
  s.setBlocks { s.blocks with entries := s.blocks.entries.put i { master := .start, far := .start (s.farFaultNow i) } }
/-- R116: a master whose record takes the power-on values posts a STATE when that changes what a STATE shows. -/
def replaceBlock (i : BlockIx) (s : State) : State :=
  let m := s.master i
  let s := resetBlock i s
  if s.isMaster i = true ∧ (s.master i).shownFields ≠ m.shownFields then postState i s else s
/-- R130: an entry becomes configured or unconfigured with the node; `id` is its block id. -/
def blockCommissioning (i : BlockIx) (s : State) : State :=
  if (s.working.blocks.get i).id = 0 then s else (resetBlock i s).mark (.block i)
/-- R143: a record is replaced, and REFUGE is marked once for each of its fields that changes. -/
def replaceRefuge (r : PairIx) (y : Refuge) (s : State) : State :=
  let x := s.refuges.get r
  [x.state != y.state, x.door != y.door, x.muster != y.muster, x.overflow != y.overflow, x.distress != y.distress,
    x.prepared != y.prepared].foldl (fun s b => s.markIf b (.refuge r)) (s.setRefuge r y)
/-- R131, R144: a record takes its power-on values with the node. -/
def refugeCommissioning (r : PairIx) (s : State) : State := replaceRefuge r (.start (s.refugeOn r)) s
/-- R190: the commissioned condition has changed with the working tables; `t` are the tables before, `was` the condition
before. Each block but the Level Unit and the Action Unit acts as its chapter states, in the model's order (log entry 20). -/
def commissioningChanged (t : Tables) (was : Bool) (s : State) : State :=
  let s := if was then spursUncommissioned t s else forEach 8 spurCommissioned s
  let s := forEach 2 refugeCommissioning s
  let s := reformLights (forEach 4 blockCommissioning s)
  forEach 16 (fun c s => reloadChan c (was && (t.channels.get c).spur.isSome) (t.channels.get c) s) s
/-- R43, R44, R178, R186, R190: the working COMMISSION entry becomes `c`. A change of commissioning marks LEVEL, and the levels
form when the other blocks have acted. The entry is written whole before its changes act, so the roles act with the new district's
ordered level in use, and the levels and outputs take no value between (DESIGN CHOICE, log entry 68). -/
def applyCommission (c : Commission) (s : State) : State :=
  let t := s.working
  let was := s.commissioned
  let roles := s.roleInForce
  let s := s.setWorking { t with commission := c }
  let s := if c.spacing = t.commission.spacing then s else s.setMgmt { s.mgmt with spacing := 0 }
  let changed := s.commissioned != was
  let s := if changed then commissioningChanged t was s else s
  let s := (reformAll (contactRolesBut (fun _ => false) roles s)).markIf changed .level
  if !changed then s else if was then actionUncommissioned s else evalLists s

/-! ## Entries (R185) -/

/-- R34: the working map with entry `k` replaced is non-increasing with level. -/
def mapOrdered (m : Tab 5 Nat) : Bool :=
  (List.finRange 4).all fun k => m.get ⟨k.val + 1, by omega⟩ ≤ m.get ⟨k.val, by omega⟩
def loadLevelMap (k : Fin 5) (mask : Nat) (s : State) : Except Result State :=
  let m := s.working.levelMap.put k mask
  if mask ≤ 15 ∧ mapOrdered m = true then .ok (reformMask (s.setWorking { s.working with levelMap := m })) else .error .invalid
/-- A spur that is present has the type in the working SPURS table. -/
def State.typedSpur (s : State) (t : SpurType) : Option SpurId → Bool
  | none => true
  | some p => (s.working.spurs.get p).type == t
/-- R4: another entry is bound to the same spur and sub-channel. -/
def State.chanConflict (s : State) (c : ChanId) (n : ChanCfg) : Bool :=
  n.spur.isSome && s.working.channels.anyIx fun i o => i != c && o.spur == n.spur && o.sub == n.sub
/-- R4, R24, R25: a CHANNELS entry. One that fails more than one test fails by the first of them, INVALID, CONFLICT (DESIGN CHOICE,
log entry 41). -/
def loadChannel (c : ChanId) (n : ChanCfg) (s : State) : Except Result State :=
  if !s.typedSpur .gas n.spur then .error .invalid
  else if s.chanConflict c n then .error .conflict
  else
    let old := s.working.channels.get c
    .ok (reloadChan c (s.chanUsed c) old (s.setWorking { s.working with channels := s.working.channels.put c n }))
/-- R104: another entry has the same block id or the same truck spur. -/
def State.blockConflict (s : State) (i : BlockIx) (n : BlockCfg) : Bool :=
  n.id != 0 && s.working.blocks.anyIx fun j o => j != i && o.id != 0 && (o.id == n.id || o.spur == n.spur)
/-- R104: the entry being replaced is in use. -/
def State.blockInUse (s : State) (i : BlockIx) : Bool := s.blockOn i && (s.blockState i).engaged
/-- R117: a load has changed the readiness of the far entry at an index from `was`, which is NOT READY for an index that held no
configured far entry (DESIGN CHOICE, log entry 55); the new readiness is posted. -/
def readinessLoaded (i : BlockIx) (was : Bool) (s : State) : State :=
  if s.isFar i = true ∧ s.farReadyNow i ≠ was then postReadiness i s else s
/-- R151: the entry at an index has been replaced: the block that its old id named and the one that it names now are handed
over, in that order (DESIGN CHOICE, log entry 9). -/
def notifyReplaced (i : BlockIx) (old : Nat) (s : State) : State :=
  let s := if old = s.blockId i then s else s.notify (.block old)
  s.notify (.block (s.blockId i))
/-- R104: a BLOCKS entry. An entry that fails more than one test fails by the first of them, INVALID, CONFLICT, IN USE (DESIGN
CHOICE, log entry 41). -/
def loadBlock (i : BlockIx) (n : BlockCfg) (s : State) : Except Result State :=
  if !s.typedSpur .truck n.spur then .error .invalid
  else if s.blockConflict i n then .error .conflict
  else if s.blockInUse i then .error .inUse
  else
    let old := s.blockId i
    let was := s.isFar i && s.farReadyNow i
    let s := replaceBlock i (s.setWorking { s.working with blocks := s.working.blocks.put i n })
    .ok (readinessLoaded i was (reformLights (notifyReplaced i old (s.mark (.block i)))))
/-- R132: the other record names the same spur. -/
def State.refugeConflict (s : State) (r : PairIx) (n : RefugeCfg) : Bool :=
  n.spur.isSome && s.working.refuges.anyIx fun q o => q != r && o.spur == n.spur
/-- R132: the refuge spur of a record changes. The record takes its power-on values, and the Action Unit takes what that hands
over (R146), before a new spur that is UP acts. -/
def moveRefuge (r : PairIx) (n : RefugeCfg) (s : State) : State :=
  let x := s.refuges.get r
  let s := if s.refugeOn r && x.prepared && x.occupancy == 0 then refugeSpurOffer r .refugeStanddown s else s
  let s := s.setWorking { s.working with refuges := s.working.refuges.put r n }
  let s := reformLocal (notifyOccupied r x.occupancy (replaceRefuge r (.start (s.refugeOn r)) s))
  match n.spur with
  | some p => if s.spurUpAs .refuge p && s.refugeOn r then panelStartUp r (reformRefuge r (settle s)) else s
  | none => s
/-- R132: a REFUGES entry. One that fails more than one test fails by the first of them, INVALID, CONFLICT (DESIGN CHOICE, log entry
41). -/
def loadRefuge (r : PairIx) (n : RefugeCfg) (s : State) : Except Result State :=
  if !s.typedSpur .refuge n.spur then .error .invalid
  else if s.refugeConflict r n then .error .conflict
  else
    let s := s.mark (.refuge r)
    .ok (if (s.working.refuges.get r).spur = n.spur
      then reformRefuge r (s.setWorking { s.working with refuges := s.working.refuges.put r n })
      else moveRefuge r n s)
/-- R153: a TRIGGER LISTS entry; the flush, the replacement and the evaluation. -/
def loadTrigger (x : PairIx) (n : TriggerCfg) (s : State) : State :=
  triggerLoaded x (s.setWorking { s.working with triggers := s.working.triggers.put x n })
/-- A parsed entry goes to its owner; one outside its range fails INVALID (R200). -/
def withEntry {α : Type} (o : Option α) (f : α → Except Result State) : Except Result State :=
  match o with | some a => f a | none => .error .invalid
/-- An index of a table numbered from 1. -/
def withIx (n k : Nat) (f : Fin n → Except Result State) : Except Result State :=
  match identIx n k with | some i => f i | none => .error .invalid
/-- R185: one entry offered, checked and applied. -/
def applyEntry (t : Table) (k : Nat) (b : List Octet) (s : State) : Except Result State :=
  match t with
  | .commission => withEntry (commissionOf b) fun c => .ok (applyCommission c s)
  | .levelMap => if h : k < 5 then loadLevelMap ⟨k, h⟩ (octAt b 0) s else .error .invalid
  | .spurs => withIx 8 k fun p => withEntry (spurCfgOf b) fun c => .ok (loadSpur p c s)
  | .channels => withIx 16 k fun c => withEntry (chanCfgOf b) fun n => loadChannel c n s
  | .blocks => withIx 4 k fun i => withEntry (blockCfgOf b) fun n => loadBlock i n s
  | .refuges => withIx 2 k fun r => withEntry (refugeCfgOf b) fun n => loadRefuge r n s
  | .triggers => withIx 2 k fun x => withEntry (triggerCfgOf b) fun n => .ok (loadTrigger x n s)
  | _ => .error .invalid
/-- R185: the failure that stops a load: index, result, residual. -/
structure LoadFailure where
  index    : Nat
  result   : Result
  residual : Nat
deriving DecidableEq, Repr
/-- R185: the entries applied one by one in index order until one fails; what an entry hands to the Action Unit is taken
before the next. -/
def loadEntries (t : Table) (size : Nat) : Nat → Nat → List Octet → State → State × Option LoadFailure
  | 0, _, _, s => (s, none)
  | n + 1, k, l, s =>
    match applyEntry t k (l.take size) s with
    | .error r => (s, some { index := k, result := r, residual := n + 1 })
    | .ok s => loadEntries t size n (k + 1) (l.drop size) (settle s)

end Sys2Proof.Machine
end

