-- ==== Sys2Proof/Machine/Orders.lean ====
section
/-! DEFINITION. What each order does at its owner block, with the result and the fields of its reply. The tests that come
before the owner (reply queue, restart, form, access) and the reply itself are in Manage.lean. -/

namespace Sys2Proof.Machine

/-- The state an order leaves, its result, and the fields its reply carries after the result. -/
structure Answer where
  state  : State
  result : Result
  fields : List Octet
deriving DecidableEq, Repr

def answer (r : Result) (s : State) : Answer := { state := s, result := r, fields := [] }

/-! ## The Management Engine's own orders -/

/-- ENQUIRE (R192). -/
def orderEnquire (s : State) : Answer := { state := s, result := .done, fields := s.enquireBody }
/-- STATUS POLL (R191). -/
def orderStatusPoll (s : State) : Answer := { state := s, result := .done, fields := s.statusBody }
/-- TABLE READ (R184). -/
def orderTableRead (table first count : Nat) (s : State) : Answer :=
  match tableOf table with
  | some t =>
    if t.rangeOk first count then { state := s, result := .done, fields := s.tableReadBody t first count } else answer .invalid s
  | none => answer .invalid s
/-- R185: the reply of a load that was applied, whole or in part. -/
def loadAnswer (x : State × Option LoadFailure) : Answer :=
  match x.2 with
  | none => answer .done x.1
  | some f => { state := x.1, result := .error, fields := [octet f.index, octet (resultCode f.result), octet f.residual] }
/-- TABLE LOAD (R185): the tests Table, Range, Form and Store, and then the entries. -/
def orderTableLoad (table first count : Nat) (entries : List Octet) (s : State) : Answer :=
  match tableOf table with
  | none => answer .invalid s
  | some t =>
    match t.entrySize with
    | none => answer .invalid s
    | some size =>
      if !t.rangeOk first count then answer .invalid s
      else if entries.length != count * size then answer .invalid s
      else if s.mgmt.write.isSome then answer .busy s
      else loadAnswer (loadEntries t size count first entries s)
/-- HISTORY READ (R22). -/
def orderHistoryRead (channel start count : Nat) (s : State) : Answer :=
  match identIx 16 channel with
  | some c =>
    if s.chanUsed c then
      { state := s, result := .done, fields := historyBody (s.working.channels.get c).window (s.air.get c) start count }
    else answer .invalid s
  | none => answer .invalid s
/-- R187: a store write begins on a copy of the working tables, with a place of the reply queue reserved for an addressed
order. -/
def beginWrite (h : OrderHdr) (s : State) : State :=
  s.setMgmt { s.mgmt with
    write := some { copy := s.working, bcast := h.bcast, ref := h.ref, elapsed := 0 }
    reserved := if h.bcast then s.mgmt.reserved else s.mgmt.reserved + 1 }
/-- RESTART (R189). -/
def orderRestart (h : OrderHdr) (s : State) : Answer :=
  if s.mgmt.write.isSome then answer .busy s else answer .done (s.setMgmt { s.mgmt with restart := some h.bcast })
/-- R180: access is opened for 75000 cycles. -/
def openAccess (m : Mgmt) : Mgmt := { m with accessOpen := true, period := 75000 }
/-- UNLOCK (R182). -/
def orderUnlock (code : Nat) (s : State) : Answer :=
  if s.working.commission.code = 0 then answer .done s
  else if s.mgmt.attempts = 0 then answer .locked s
  else if code = s.working.commission.code then answer .done (s.setMgmt { openAccess s.mgmt with attempts := 5 })
  else answer .locked (s.setMgmt { s.mgmt with attempts := s.mgmt.attempts - 1 })
/-- LOCK (R183). -/
def orderLock (s : State) : Answer := answer .done (s.setMgmt { s.mgmt with accessOpen := false, period := 0 })

/-! ## Calls (R92 to R96) -/

/-- A record matches when its index is 1 to 16, it is not IDLE, and its call number equals the one given. -/
def State.matchCall (s : State) (index callNo : Nat) : Option RecId :=
  match identIx 16 index with
  | some r => if (s.call r).state ≠ .idle ∧ (s.call r).callNo = some callNo then some r else none
  | none => none
/-- A slot number 2 to 31. -/
def slotOf (n : Nat) : Option Slot := if h : 2 ≤ n ∧ n < 32 then some ⟨n - 2, by omega⟩ else none
/-- A far side code; 0 and codes above 2 are neither. -/
def farOfCode : Nat → Option Side
  | 1 => some .inbye | 2 => some .outbye | _ => none
/-- CALL ASSIGN, origin form (R92). -/
def orderAssignOrigin (index callNo slot far : Nat) (s : State) : Answer :=
  match s.matchCall index callNo, slotOf slot, farOfCode far with
  | some r, some sl, some f =>
    if (s.call r).state ≠ .requested then answer .invalid s
    else if !s.pairFree f sl then answer .conflict s
    else
      let s := enterCall r .alerting (fun x => { x with slot := some sl, far := some f }) s
      answer .done (toneOpt (s.call r).origin .ringback (installPair r f sl s))
  | _, _, _ => answer .invalid s
/-- R93: the destination form when its tests have passed. -/
def ringDestination (r : RecId) (p : SpurId) (priority : Nat) (sl : Slot) (f : Side) (s : State) : State :=
  let s := numberCall r (reclaim r s)
  let s := enterCall r .ringing
    (fun x => { x with role := some .destination, origin := some p, priority := some priority, slot := some sl, far := some f }) s
  offer p (.ring true) (installPair r f sl s)
/-- CALL ASSIGN, destination form (R93). -/
def orderAssignDestination (spur priority slot far : Nat) (s : State) : Answer :=
  match identIx 8 spur, slotOf slot, farOfCode far with
  | some p, some sl, some f =>
    if 15 < priority ∨ (s.working.spurs.get p).type ≠ .voice then answer .invalid s
    else if !s.spurUp p ∨ s.level.mask < priority then answer .notReady s
    else if s.handsetBusy p then answer .busy s
    else match s.recToTake with
      | none => answer .full (countRefused s)
      | some r =>
        if !s.pairFree f sl then answer .conflict s
        else
          let s := ringDestination r p priority sl f s
          { state := s, result := .done, fields := [octet (r.val + 1), octet ((s.call r).callNo.getD 0)] }
  | _, _, _ => answer .invalid s
/-- R94: an ALERTING record is CONNECTED. -/
def connectCall (r : RecId) (s : State) : State :=
  let s := enterCall r .connected id s
  let x := s.call r
  let s := match x.far, x.slot with | some far, some sl => startContinuity far sl s | _, _ => s
  toneOpt x.origin .silent s
/-- CALL CONNECT (R94). -/
def orderConnect (index callNo : Nat) (s : State) : Answer :=
  match s.matchCall index callNo with
  | some r =>
    let x := s.call r
    if x.state = .alerting ∧ x.role = some .origin then answer .done (connectCall r s)
    else if x.state = .connected then answer .done s
    else answer .invalid s
  | none => answer .invalid s
/-- CALL RELEASE (R95). -/
def orderRelease (index callNo : Nat) (s : State) : Answer :=
  match s.matchCall index callNo with
  | some r => answer .done (clearCall r .normal s)
  | none => answer .invalid s
/-- R199: BUSY 0, CONGESTION 1, REFUSED 2 and any other. -/
def refuseCause : Nat → ClearCause
  | 0 => .busy | 1 => .congestion | _ => .refused
/-- CALL REFUSE (R96). -/
def orderRefuse (index callNo reason : Nat) (s : State) : Answer :=
  match s.matchCall index callNo with
  | some r =>
    let x := s.call r
    if x.role = some .origin ∧ (x.state = .requested ∨ x.state = .held ∨ x.state = .alerting) then
      answer .done (clearCall r (refuseCause reason) s)
    else if x.state = .cleared then answer .done s
    else answer .invalid s
  | none => answer .invalid s

/-! ## The latch and the levels (R39, R40, R45, R46) -/

/-- TRIP PREPARE (R39). -/
def orderTripPrepare (s : State) : Answer := answer .done (s.setMgmt { s.mgmt with prepare := true })
/-- R40: a contact input active in role TRIP. -/
def State.tripContact (s : State) (i : PairIx) : Bool := s.roleInForce i == .trip && (s.level.contacts.get i).active
/-- R40: the four conditions, unmet. -/
def State.channelsUnmet (s : State) : Bool := (List.finRange 16).any s.blocksReset
def State.contactsUnmet (s : State) : Bool := (List.finRange 2).any s.tripContact
/-- R40: the latch is cleared; one already clear changes nothing. -/
def clearLatch (s : State) : State :=
  if s.level.latch then
    reformLocal (reformOutput ((s.setLevel { s.level with latch := false, causes := [], firstCause := none }).mark .isolation))
  else s
/-- TRIP RESET (R40, R199); `prep` is the PREPARE flag as the order found it. In the octet of contact inputs active in role TRIP,
input 1 is bit 0 and input 2 bit 1 (DESIGN CHOICE, log entry 47). -/
def orderTripReset (prep : Bool) (s : State) : Answer :=
  if prep && !s.channelsUnmet && !s.contactsUnmet && !s.mgmt.storeFault then answer .done (clearLatch s)
  else
    { state := s, result := .notReady
      fields := octet ((if prep then 0 else 1) + (if s.channelsUnmet then 2 else 0) + (if s.contactsUnmet then 4 else 0)
          + (if s.mgmt.storeFault then 8 else 0))
        :: (chanSet s.blocksReset ++ [octet ((if s.tripContact 0 then 1 else 0) + (if s.tripContact 1 then 2 else 0))]) }
/-- LEVEL CLEAR (R46). -/
def orderLevelClear (s : State) : Answer := answer .done (reformLocal (s.setLevel { s.level with hold := 0 }))
/-- OUTPUT SET (R45). -/
def orderOutputSet (output force : Nat) (s : State) : Answer :=
  match identIx 2 output, forceOf force with
  | some o, some f => answer .done (setForce o f s)
  | _, _ => answer .invalid s

/-! ## Blocks, trucks and the Armed Queue (R122, R123, R128, R154) -/

/-- BLOCK OPEN (R122). -/
def orderBlockOpen (id clear : Nat) (s : State) : Answer :=
  match s.masterOf id with
  | none => answer .invalid s
  | some i => if s.openNotReady i (clear == 1) then answer .notReady s else answer .done (openBlock i (clear == 1) s)
/-- BLOCK CLOSE (R123). -/
def orderBlockClose (id : Nat) (s : State) : Answer :=
  match s.masterOf id with | none => answer .invalid s | some i => answer .done (closeBlock i s)
/-- TRUCK CLEAR (R128). -/
def orderTruckClear (s : State) : Answer := answer .done (clearTruckAlarm s)
/-- ARM (R154). -/
def orderArm (a0 a1 a2 c0 c1 c2 c3 : Nat) (s : State) : Answer :=
  if !s.commissioned then answer .notReady s
  else match actionOf a0 a1 a2, queueCondOf c0 c1 c2 c3 with
    | some a, some c => if 8 ≤ s.action.queue.length then answer .full s else answer .done (armEntry a c s)
    | _, _ => answer .invalid s

/-! ## The order's owner (R176) -/

/-- A known order, in its form and with the access it needs, is carried out by its owner. COMMIT is not here: its work goes
on after the order is taken. `prep` is the PREPARE flag as the order found it. -/
def runOrder (prep : Bool) (h : OrderHdr) (o : Order) (s : State) : Answer :=
  match o with
  | .enquire => orderEnquire s
  | .statusPoll => orderStatusPoll s
  | .tableRead t f n => orderTableRead t f n s
  | .tableLoad t f n l => orderTableLoad t f n l s
  | .historyRead c i n => orderHistoryRead c i n s
  | .commit => answer .busy s
  | .restart => orderRestart h s
  | .unlock c => orderUnlock c s
  | .lock => orderLock s
  | .callAssignOrigin r n sl f => orderAssignOrigin r n sl f s
  | .callAssignDestination p k sl f => orderAssignDestination p k sl f s
  | .callConnect r n => orderConnect r n s
  | .callRelease r n => orderRelease r n s
  | .callRefuse r n k => orderRefuse r n k s
  | .tripPrepare => orderTripPrepare s
  | .tripReset => orderTripReset prep s
  | .blockOpen b c => orderBlockOpen b c s
  | .blockClose b => orderBlockClose b s
  | .arm a0 a1 a2 c0 c1 c2 c3 => orderArm a0 a1 a2 c0 c1 c2 c3 s
  | .levelClear => orderLevelClear s
  | .truckClear => orderTruckClear s
  | .outputSet o f => orderOutputSet o f s
  | .unknown _ => answer .unknown s
  | .badForm _ => answer .invalid s

end Sys2Proof.Machine
end

