-- ==== Sys2Proof/Machine/Manage.lean ====
section
/-! DEFINITION. The Management Engine (chapter 10): taking an order, assembling orders from cells, relaying and filling the
outbye slot, engineering access and the store write, with the commands of the orders. -/

namespace Sys2Proof.Machine

/-! ## Taking an order (R176, R177, R180) -/

/-- R177: a made reply joins the tail; a broadcast order makes none. -/
def reply (h : OrderHdr) (code : Nat) (a : Answer) : State :=
  if h.bcast then a.state
  else a.state.setMgmt { a.state.mgmt with
    replies := a.state.mgmt.replies ++ [{ ref := h.ref, body := octet code :: octet (resultCode a.result) :: a.fields }] }
/-- R176: a discarded order. -/
def discardOrder (s : State) : State := s.setMgmt { s.mgmt with discarded := bump16 s.mgmt.discarded }
/-- R180: an order that needs access, taken with it, opens it again for 300 s, whatever its result. -/
def refreshAccess (o : Order) (s : State) : State :=
  if kindNeedsAccess o.code && s.access then s.setMgmt (openAccess s.mgmt) else s
/-- R176: the steps after the PREPARE flag has been recorded and cleared: kind and form, access, and then the owner. The form of a
TABLE LOAD here is its three first octets: that its entry octets fill its count is the Form test of R185, made with access (DESIGN
CHOICE, log entry 61). -/
def judgeOrder (prep : Bool) (h : OrderHdr) (o : Order) (s : State) : State :=
  let locked := kindNeedsAccess o.code && !s.access
  let s := refreshAccess o s
  match o with
  | .unknown k => reply h k (answer .unknown s)
  | .badForm k => reply h k (answer .invalid s)
  | .commit =>
    if locked then reply h o.code (answer .locked s)
    else if s.mgmt.write.isSome then reply h o.code (answer .busy s)
    else beginWrite h s
  | o => if locked then reply h o.code (answer .locked s) else reply h o.code (runOrder prep h o s)
/-- R39, R176: a complete order. It is discarded while a restart is pending, and when it needs a reply and the reply queue is
full; otherwise it is taken. -/
def takeOrder (h : OrderHdr) (o : Order) (s : State) : State :=
  if s.mgmt.restart.isSome || (!h.bcast && s.repliesFull) then discardOrder s
  else judgeOrder s.mgmt.prepare h o (s.setMgmt { s.mgmt with prepare := false })

/-! ## Assembly (R174, R175) -/

def countMalformed (s : State) : State := s.setMgmt { s.mgmt with malformed := bump16 s.mgmt.malformed }
def setAsm (a : Option Assembly) (s : State) : State := s.setMgmt { s.mgmt with asm := a }
/-- A complete order's kind, reference and body. -/
def completeOrder (mode kind : Nat) (ref : Octet) (body : List Octet) (s : State) : State :=
  takeOrder { bcast := mode == 3, ref := ref } (orderOf kind body) s
/-- R175: a MIDDLE or LAST cell. One that differs in mode, kind or reference is judged by that first, also when the buffer holds 8
cells: counted once, with no INVALID order (DESIGN CHOICE, log entry 66). -/
def appendCell (last : Bool) (h : MgmtHeader) (body : List Octet) (s : State) : State :=
  match s.mgmt.asm with
  | none => countMalformed s
  | some a =>
    if a.mode ≠ h.mode ∨ a.kind ≠ h.kind ∨ a.ref ≠ h.ref then dropPartial s
    else if 8 ≤ a.cells then takeOrder { bcast := a.mode == 3, ref := a.ref } (.badForm a.kind) (dropPartial s)
    else if last then completeOrder a.mode a.kind a.ref (a.body ++ body) (setAsm none s)
    else setAsm (some { a with cells := a.cells + 1, body := a.body ++ body }) s
/-- R175: a cell taken by the node acts on the assembly buffer. -/
def assembleCell (h : MgmtHeader) (body : List Octet) (s : State) : State :=
  match h.part with
  | 0 => completeOrder h.mode h.kind h.ref body (dropPartial s)
  | 1 => setAsm (some { mode := h.mode, kind := h.kind, ref := h.ref, cells := 1, body := body }) (dropPartial s)
  | 2 => appendCell false h body s
  | _ => appendCell true h body s

/-! ## The management cells of a cycle (R174, R178) -/

def sendInbye (o : Option (List Octet)) (s : State) : State := s.setMgmt { s.mgmt with toInbye := o }
/-- R174: a valid occupied cell that travels inbye. -/
def inbyeMgmt (pl : List Octet) (s : State) : State :=
  let h := mgmtHeader pl
  if h.malformed then countMalformed (sendInbye (some pl) s)
  else if s.matchesCell h then assembleCell h (mgmtBody pl h) (sendInbye (if h.mode = 3 then some pl else none) s)
  else sendInbye (some pl) s
/-- R174, R175, R178: the cell of slot 0 is handed to the Management Engine. Outbye cells that arrive occupied are relayed,
others are vacant. -/
def mgmtHanded (d : Side) (a : Arrival) (s : State) : State :=
  match d, a with
  | .outbye, .occupied pl => inbyeMgmt pl s
  | .outbye, .vacant => sendInbye none s
  | .outbye, .errored => dropPartial (sendInbye none s)
  | .inbye, .occupied pl => s.setMgmt { s.mgmt with toOutbye := some pl }
  | .inbye, _ => s

/-! ## Filling the outbye cell (R178, R179, R181) -/

/-- R189: the messages that must leave before a pending restart have left. -/
def Mgmt.restartDue (m : Mgmt) : Bool :=
  match m.restart with
  | some bcast => m.progress.isNone && (bcast || m.replies.isEmpty)
  | none => false
/-- R181: the first cell of a report takes its snapshot; its source is no longer pending, and its owner is told. -/
def beginReport (x : Source) (s : State) : State :=
  let body := s.reportBody x
  let s := reportSent x (s.withdraw x)
  s.setMgmt { s.mgmt with progress := some { report := true, ref := 0, body := body, sent := 0, addr := none } }
/-- R179: with no message in progress, the oldest made reply is chosen, or else the pending source of R181. -/
def chooseMessage (s : State) : State :=
  if s.mgmt.progress.isSome || s.mgmt.restartDue then s
  else match s.mgmt.replies with
    | r :: _ => s.setMgmt { s.mgmt with progress := some { report := false, ref := r.ref, body := r.body, sent := 0, addr := none } }
    | [] => match s.nextSource with
      | some x => beginReport x s
      | none => s
/-- R199: the cells a body is cut into. -/
def cellCount (body : List Octet) : Nat := if body.length ≤ 28 then 1 else (body.length + 27) / 28
/-- R199: the part marker of cell `k` of `n`. -/
def partOf (k n : Nat) : Nat := if n = 1 then 0 else if k = 0 then 1 else if k + 1 = n then 3 else 2
/-- R174, R199: the payload of the next cell of a message. -/
def progressCell (p : Progress) (addr : Nat × Nat) : List Octet :=
  mgmtPayload addr.1 (if p.report then 63 else 62) addr.2 (partOf p.sent (cellCount p.body)) p.ref
    ((p.body.drop (28 * p.sent)).take 28)
/-- R177, R179: what sending a cell leaves of the message: a reply leaves the queue with its last cell. -/
def advanceProgress (p : Progress) (addr : Nat × Nat) (m : Mgmt) : Mgmt :=
  if p.sent + 1 < cellCount p.body then { m with progress := some { p with sent := p.sent + 1, addr := some addr } }
  else { m with progress := none, replies := if p.report then m.replies else m.replies.drop 1 }
/-- R178: the next cell of the message in progress fills the vacant outbye cell, for one credit. -/
def fillCell (source : Nat × Nat) (s : State) : State :=
  match s.mgmt.progress with
  | none => s
  | some p =>
    let addr := p.addr.getD source
    s.setMgmt { advanceProgress p addr s.mgmt with toOutbye := some (progressCell p addr), credit := s.mgmt.credit - 1 }
/-- R178: the conditions on which the vacant outbye cell of the cycle may be filled. -/
def State.mayFill (s : State) : Bool := s.mgmt.toOutbye.isNone && s.mgmt.credit != 0 && !s.line.autonomous
/-- R178: the spacing count has reached P, and one credit is earned. A count that a restart leaves above a smaller P has reached it
(DESIGN CHOICE, log entry 60). -/
def earnCredit (s : State) : State :=
  if s.working.commission.spacing ≤ s.mgmt.spacing then s.setMgmt { s.mgmt with spacing := 0, credit := bump 4 s.mgmt.credit } else s
/-- R178: the fill decision of a cycle, when its conditions hold. -/
def fillOutbye (s : State) : State :=
  match (if s.mayFill then s.sourceAddr else none) with
  | some a => fillCell a (chooseMessage s)
  | none => s
/-- R178: a credit earned in the cycle is counted before the cycle's fill decision. -/
def outbyeFill (s : State) : State := fillOutbye (earnCredit s)

/-! ## The commands of the engine itself -/

/-- OUTBYE_CELL_FILL (R178). -/
def execOutbyeCellFill (s : State) : Host.Outcome State Fault Refusal := settled outbyeFill s
/-- FILL_CREDIT_EARNED (R178). -/
def execFillCreditEarned (s : State) : Host.Outcome State Fault Refusal := settled earnCredit s
/-- ACCESS_EXPIRY (R180): the access period count has reached 0. -/
def expireAccess (s : State) : State :=
  if s.mgmt.accessOpen ∧ s.mgmt.period = 0 then s.setMgmt { s.mgmt with accessOpen := false } else s
def execAccessExpiry (s : State) : Host.Outcome State Fault Refusal := settled expireAccess s
/-- R187: the store write in flight completes, a cycle or more after it began. -/
def finishWrite (w : StoreWrite) (s : State) : State :=
  let s := { s with store := { tables := w.copy, good := true } }
  let s := s.setMgmt { s.mgmt with
    write := none, storeFault := false, reserved := if w.bcast then s.mgmt.reserved else s.mgmt.reserved - 1 }
  reply { bcast := w.bcast, ref := w.ref } 6 (answer .done s)
def completeCommit (s : State) : State :=
  match s.mgmt.write with
  | some w => if 1 ≤ w.elapsed then finishWrite w s else s
  | none => s
/-- COMMIT_COMPLETE (R187). -/
def execCommitComplete (s : State) : Host.Outcome State Fault Refusal := settled completeCommit s

/-! ## The commands of the orders -/

/-- R174: an order can reach the node: a broadcast one while it is commissioned, an addressed one while it is commissioned or
has a position. -/
def State.reachable (s : State) (h : OrderHdr) : Bool := s.commissioned || (!h.bcast && s.line.position.isSome)
/-- A complete order reaches the node. -/
def orderArrives (h : OrderHdr) (o : Order) (s : State) : Host.Outcome State Fault Refusal :=
  settled (fun s => if s.reachable h then takeOrder h o s else s) s

/-- ENQUIRE (R192). -/
def execEnquire (h : OrderHdr) (s : State) : Host.Outcome State Fault Refusal := orderArrives h .enquire s
/-- STATUS POLL (R191). -/
def execStatusPoll (h : OrderHdr) (s : State) : Host.Outcome State Fault Refusal := orderArrives h .statusPoll s
/-- TABLE READ (R184). -/
def execTableRead (h : OrderHdr) (table first count : Nat) (s : State) : Host.Outcome State Fault Refusal :=
  orderArrives h (.tableRead table first count) s
/-- TABLE LOAD (R185). -/
def execTableLoad (h : OrderHdr) (table first count : Nat) (entries : List Octet) (s : State) :
    Host.Outcome State Fault Refusal := orderArrives h (.tableLoad table first count entries) s
/-- HISTORY READ (R22). -/
def execHistoryRead (h : OrderHdr) (channel start count : Nat) (s : State) : Host.Outcome State Fault Refusal :=
  orderArrives h (.historyRead channel start count) s
/-- COMMIT (R187). -/
def execCommit (h : OrderHdr) (s : State) : Host.Outcome State Fault Refusal := orderArrives h .commit s
/-- RESTART (R189). -/
def execRestart (h : OrderHdr) (s : State) : Host.Outcome State Fault Refusal := orderArrives h .restart s
/-- UNLOCK (R182). -/
def execUnlock (h : OrderHdr) (code : Nat) (s : State) : Host.Outcome State Fault Refusal := orderArrives h (.unlock code) s
/-- LOCK (R183). -/
def execLock (h : OrderHdr) (s : State) : Host.Outcome State Fault Refusal := orderArrives h .lock s
/-- CALL ASSIGN, origin form (R92). -/
def execCallAssignOrigin (h : OrderHdr) (index callNo slot far : Nat) (s : State) : Host.Outcome State Fault Refusal :=
  orderArrives h (.callAssignOrigin index callNo slot far) s
/-- CALL ASSIGN, destination form (R93). -/
def execCallAssignDestination (h : OrderHdr) (spur priority slot far : Nat) (s : State) : Host.Outcome State Fault Refusal :=
  orderArrives h (.callAssignDestination spur priority slot far) s
/-- CALL CONNECT (R94). -/
def execCallConnect (h : OrderHdr) (index callNo : Nat) (s : State) : Host.Outcome State Fault Refusal :=
  orderArrives h (.callConnect index callNo) s
/-- CALL RELEASE (R95). -/
def execCallRelease (h : OrderHdr) (index callNo : Nat) (s : State) : Host.Outcome State Fault Refusal :=
  orderArrives h (.callRelease index callNo) s
/-- CALL REFUSE (R96). -/
def execCallRefuse (h : OrderHdr) (index callNo reason : Nat) (s : State) : Host.Outcome State Fault Refusal :=
  orderArrives h (.callRefuse index callNo reason) s
/-- TRIP PREPARE (R39). -/
def execTripPrepare (h : OrderHdr) (s : State) : Host.Outcome State Fault Refusal := orderArrives h .tripPrepare s
/-- TRIP RESET (R40). -/
def execTripReset (h : OrderHdr) (s : State) : Host.Outcome State Fault Refusal := orderArrives h .tripReset s
/-- BLOCK OPEN (R122); a clear-list option that is neither 0 nor 1 is not in the form of the order (log entry 21). -/
def execBlockOpen (h : OrderHdr) (block clear : Nat) (s : State) : Host.Outcome State Fault Refusal :=
  orderArrives h (if clear ≤ 1 then .blockOpen block clear else .badForm 17) s
/-- BLOCK CLOSE (R123). -/
def execBlockClose (h : OrderHdr) (block : Nat) (s : State) : Host.Outcome State Fault Refusal := orderArrives h (.blockClose block) s
/-- ARM (R154). -/
def execArm (h : OrderHdr) (a0 a1 a2 c0 c1 c2 c3 : Nat) (s : State) : Host.Outcome State Fault Refusal :=
  orderArrives h (.arm a0 a1 a2 c0 c1 c2 c3) s
/-- LEVEL CLEAR (R46). -/
def execLevelClear (h : OrderHdr) (s : State) : Host.Outcome State Fault Refusal := orderArrives h .levelClear s
/-- TRUCK CLEAR (R128). -/
def execTruckClear (h : OrderHdr) (s : State) : Host.Outcome State Fault Refusal := orderArrives h .truckClear s
/-- OUTPUT SET (R45). -/
def execOutputSet (h : OrderHdr) (output force : Nat) (s : State) : Host.Outcome State Fault Refusal :=
  orderArrives h (.outputSet output force) s
/-- A complete order of a kind the node does not know, answered UNKNOWN, or of a known kind out of its form, answered INVALID
(R176, R199; log entry 32). -/
def execUnknownOrder (h : OrderHdr) (kind : Nat) (s : State) : Host.Outcome State Fault Refusal :=
  orderArrives h (if 1 ≤ kind ∧ kind ≤ 22 then .badForm kind else .unknown kind) s

end Sys2Proof.Machine
end

