-- ==== Sys2Proof/Machine/Cells.lean ====
section
/-! DEFINITION. The arrival of a cell at a line port (R48, R49): the port judges it by its expected slot and hands it to the
owner of that slot. -/

namespace Sys2Proof.Machine

/-- R66: the direction of travel of the cells that arrive at a port. -/
def travelFrom : Side → Side
  | .outbye => .inbye | .inbye => .outbye
/-- R48, R49: a cell that arrives in a place of the cycle is judged by the port as it finds it, and handed to the owner of its slot:
the Management Engine, the line port, or the Slot Switch. A slot that was handed over VACANT by its place in HUNT is handed over
again when the port frames later in that cycle with another shift and a cell is then expected in it: its owner acts on it twice in
that cycle, its continuity count among the rest (DESIGN CHOICE, log entry 10). -/
def cellArrives (d : Side) (place : Nat) (c : List Octet) (s : State) : State :=
  let x := (s.port d).atCell
  let a := x.handed place c
  let s := s.setPort d (x.arrive place c)
  match slotOf (x.expected place) with
  | some sl => switchCell (slotIx (travelFrom d) sl) (x.maskLost a) s
  | none => if x.expected place = 0 then mgmtHanded d (x.maskLost a) s else segmentHanded d a s

/-- INBYE_TRAVELLING_SEGMENT_CELL (R51): the cell in place 1 of the outbye port's cycle. -/
def execInbyeSegmentCell (cell : List Octet) (s : State) : Host.Outcome State Fault Refusal :=
  settled (cellArrives .outbye 1 cell) s
/-- OUTBYE_TRAVELLING_SEGMENT_CELL (R52): the cell in place 1 of the inbye port's cycle. -/
def execOutbyeSegmentCell (cell : List Octet) (s : State) : Host.Outcome State Fault Refusal :=
  settled (cellArrives .inbye 1 cell) s
/-- TRAFFIC_CELL (R68 to R73): a cell in one of the places 2 to 31. -/
def execTrafficCell (port : Side) (slot : Slot) (cell : List Octet) (s : State) : Host.Outcome State Fault Refusal :=
  settled (cellArrives port (slot.val + 2) cell) s
/-- MANAGEMENT_CELL (R174, R175): the cell in place 0. -/
def execManagementCell (port : Side) (cell : List Octet) (s : State) : Host.Outcome State Fault Refusal :=
  settled (cellArrives port 0 cell) s

end Sys2Proof.Machine
end

