-- ==== Sys2Proof/Machine/Resets.lean ====
section
/-! DEFINITION. Power-on, loss of supply and restart (R187 to R189 and each chapter's own rule on resets). -/

namespace Sys2Proof.Machine

/-! ## Power-on (R188) and loss of supply (R187) -/

/-- R27: the levels, the mask, the output and the drives as they form at power-on, where no source is pending (R181). -/
def formQuietly (s : State) : State :=
  let s := s.setLevel { s.level with localLevel := s.localOf }
  let s := s.setLevel { s.level with effective := s.effectiveOf }
  s.setLevel { s.level with mask := s.maskOf, output := s.outputOf, drive := Tab.build 2 s.driveOf }
/-- The Settings Store that power-on finds. A loss of supply has settled it already; the reset input held active while a
store write is in flight is not described, and its outcome is free (log entry 3). -/
def storeAtReset (s : State) : Store :=
  match (if s.powered then s.mgmt.write else none) with
  | none => s.store
  | some w =>
    match Config.resetDuringWrite s.freeCount with
    | 0 => s.store
    | 1 => { tables := w.copy, good := true }
    | _ => { s.store with good := false }
/-- R160, R188: every block takes its power-on values, and then the lists of a commissioned node are evaluated. STOP ALL starts off
(R130) and is formed again within the power-on (R126), so that it is on at the end of one that leaves the level at TRIP (DESIGN CHOICE,
log entry 59). -/
def powerOn (s : State) : State :=
  evalLists (reformStopAll (reformLights (formQuietly (State.poweredOn (storeAtReset s) s.pending (s.freeCount + 1)))))
/-- POWER_ON (R188). -/
def execPowerOn (s : State) : Host.Outcome State Fault Refusal := .next (powerOn s)
/-- R187: a loss of supply while a store write is in flight leaves the stored copy failing its check. -/
def loseSupply (s : State) : State :=
  let s := if s.mgmt.write.isSome then { s with store := { s.store with good := false } } else s
  { s with powered := false }
/-- SUPPLY_LOSS (R187). -/
def execSupplyLoss (s : State) : Host.Outcome State Fault Refusal := whenPowered loseSupply s

/-! ## Restart (R189) -/

/-- R181, R189: the Management Engine's own state. -/
def restartMgmt (storeFault : Bool) (m : Mgmt) : Mgmt :=
  { m with
    asm := none, replies := [], reserved := 0, progress := none, accessOpen := false, period := 0, prepare := false
    holding := (Tab.fill 58 none).put 0 (m.holding.get 0), storeFault := storeFault, write := none, restart := none }
/-- R77, R102: every record becomes IDLE, and every pair and bridged pair goes. -/
def restartCalls (s : State) : State :=
  let s := s.setCalls { s.calls with recs := Tab.fill 16 .idle, clearing := [], heldOrder := [] }
  s.setSlots { s.slots with
    map := s.slots.map.mapIx fun _ e => { e with drop := none, add := none, continuity := 0 }, bridge := [] }
/-- R172: what a restart empties on every spur. A payload already dropped for the handset goes too, and the idle pattern is sent
(DESIGN CHOICE, log entry 69). -/
def Spur.restart (x : Spur) : Spur := { x with queue := [], ack := none, voice := none, dropVoice := none }
/-- R162, R172: a spur is emptied, and one whose in-force type the reload changes is set up afresh, its hook ON HOOK; `old` is the
type it had. -/
def restartSpur (old : SpurType) (p : SpurId) (s : State) : State :=
  let t := s.spurType p
  let s := s.setSpur p (s.spurs.get p).restart
  if t = old then s else (s.setSpur p ((s.spurs.get p).reset (freshState t))).setHook p false
/-- R3, R26: an entry takes its power-on values but for the last reported status, which is kept, and is UNUSED for an in-use entry
when the node has become commissioned. CHANNEL is marked for a status that differs from the last reported one (R21), and for NO DATA after a status
other than NO DATA. -/
def restartChan (became : Bool) (c : ChanId) (s : State) : State :=
  let old := s.air.get c
  let x := Channel.start (s.chanUsed c) (s.working.channels.get c).window
  let last := if became && s.chanUsed c then .unused else old.lastReported
  let s := s.setChan c { x with lastReported := last }
  let s := s.markIf (x.status != last || (x.status == .noData && old.status != .noData)) (.channel c)
  if x.status = old.status then s else s.notify (.channel c)
/-- R144: a record after the reload; `same` says that its spur and its being configured are unchanged. -/
def restartRefuge (same : Bool) (r : PairIx) (s : State) : State :=
  let x := s.refuges.get r
  let y := if same then { x with muster := [], overflow := 0, distress := false } else Refuge.start (s.refugeOn r)
  let s := s.setRefuge r y
  let s := s.setRefuge r { y with state := s.refugeStateOf r }
  notifyOccupied r x.occupancy (s.mark (.refuge r))
/-- R116, R130: the entries, the truck records and the alarm; BLOCK is marked for each entry that is or was configured. -/
def restartBlocks (was : BlockIx → Bool) (s : State) : State :=
  let s := s.setBlocks { s.blocks with truckLast := Tab.fill 8 none, truckAlarm := none }
  forEach 4 (fun i s => (replaceBlock i s).markIf (was i || s.blockOn i) (.block i)) s
/-- R145, R160: the Action Unit starts again on the reloaded lists. -/
def restartAction (s : State) : State := s.setAction { ActionUnit.start s.working with notices := s.action.notices }
/-- R62, R65: the neighbour-message queues are emptied, uncounted. -/
def restartLine (l : Line) : Line :=
  { l with inPort := { l.inPort with queue := [] }, outPort := { l.outPort with queue := [] } }
/-- R102: RING off and TONE NONE to each UP VOICE spur, and then a handset left off hook starts again, spurs 1 to 8 in ascending
order (DESIGN CHOICE, log entry 42). -/
def restartHandsets (s : State) : State :=
  let s := forEach 8 (fun p s => if s.spurUpAs .voice p then tone p .silent (offer p (.ring false) s) else s) s
  forEach 8 (fun p s => if s.spurUpAs .voice p && s.calls.hooks.get p then liftHandset p s else s) s
/-- R130: the lights and STOP ALL to each UP TRUCK spur. -/
def restartTrucks (s : State) : State :=
  forEach 8 (fun p s =>
    if s.spurUpAs .truck p then offer p (.stopAll s.blocks.stopAll) (offer p (.lights (s.blocks.lights.get p)) s) else s) s
/-- R144: each configured record whose spur is UP is handled as on spur start-up. -/
def restartPanels (s : State) : State :=
  forEach 2 (fun r s =>
    match (s.working.refuges.get r).spur with
    | some p => if s.refugeOn r && s.spurUpAs .refuge p then panelStartUp r s else s
    | none => s) s
/-- R141, R144: a record that a restart's forming of the level does not stand down: one whose roll the restart empties, and every
record when the restart empties a DISTRESS chamber's roll, since the fall from EVACUATE is then that emptying's, also where another
contribution of 4 ends with it (DESIGN CHOICE, log entry 19). -/
def State.restartStays (s : State) (r : PairIx) : Bool :=
  (s.refuges.get r).occupancy != 0 || (List.finRange 2).any fun q => (s.refuges.get q).state == .distress
/-- R189: the first half: the tables, the volatile state of every block, and what forms again from it. LEVEL is marked (R27),
and once more when commissioning has changed (R190). -/
def restartState (s : State) : State :=
  let old := s.working
  let was := s.commissioned
  let wasBlock := s.blockOn
  let roles := s.roleInForce
  let stay := s.restartStays
  let s := s.setWorking (if s.store.good then s.store.tables else factoryTables)
  let s := (s.setMgmt (restartMgmt (!s.store.good) s.mgmt)).setLine (restartLine s.line)
  let s := restartCalls s
  let s := forEach 8 (fun p s => restartSpur (if was then (old.spurs.get p).type else .off) p s) s
  let s := restartAction (restartBlocks wasBlock s)
  let s := forEach 16 (restartChan (s.commissioned && !was)) s
  let s := forEach 2 (fun r s => restartRefuge ((old.refuges.get r).spur == (s.working.refuges.get r).spur && was == s.commissioned) r s) s
  let s := contactRolesBut stay roles (s.setLevel { s.level with force := Tab.fill 2 .follow })
  let s := reformStopAll (reformLights (reformAllBut stay s))
  (s.markIf (s.commissioned != was) .level).mark .level
/-- R172, R189: the second half: SPUR is marked for every spur, and the owners send what a restart gives. -/
def restartSends (s : State) : State :=
  let s := forEach 8 (fun p s => (s.setSpur p (s.spurs.get p).restart).mark (.spur p)) s
  restartPanels (restartTrucks (restartHandsets s))
/-- R189: a restart carried out; then the lists are evaluated (R160). -/
def restartNode (s : State) : State := evalLists (restartSends (restartState s))
/-- RESTART_CARRIED_OUT (R189): a restart is pending, and the messages before it have left. -/
def execRestartCarriedOut (s : State) : Host.Outcome State Fault Refusal :=
  settled (fun s => if s.mgmt.restartDue then restartNode s else s) s

end Sys2Proof.Machine
end

