-- ==== Sys2Proof/Machine/Dispatch.lean ====
section
/-! DEFINITION. The meaning of each command: one arm, one call. -/

namespace Sys2Proof.Machine

def exec (i : Instr) (s : State) : Host.Outcome State Fault Refusal :=
  match i with
  | .powerOn => Sys2Proof.Machine.execPowerOn s
  | .restartCarriedOut => Sys2Proof.Machine.execRestartCarriedOut s
  | .lineCycle closed1 closed2 => Sys2Proof.Machine.execLineCycle closed1 closed2 s
  | .inbyeSegmentCell cell => Sys2Proof.Machine.execInbyeSegmentCell cell s
  | .outbyeSegmentCell cell => Sys2Proof.Machine.execOutbyeSegmentCell cell s
  | .trafficCell port slot cell => Sys2Proof.Machine.execTrafficCell port slot cell s
  | .managementCell port cell => Sys2Proof.Machine.execManagementCell port cell s
  | .framingLost port => Sys2Proof.Machine.execFramingLost port s
  | .portLost port => Sys2Proof.Machine.execPortLost port s
  | .portUp port => Sys2Proof.Machine.execPortUp port s
  | .windowEnd => Sys2Proof.Machine.execWindowEnd s
  | .reading p sub raw quality => Sys2Proof.Machine.execReading p sub raw quality s
  | .staleExpiry c => Sys2Proof.Machine.execStaleExpiry c s
  | .contactChange c => Sys2Proof.Machine.execContactChange c s
  | .offhook p => Sys2Proof.Machine.execOffhook p s
  | .onhook p => Sys2Proof.Machine.execOnhook p s
  | .digit p d => Sys2Proof.Machine.execDigit p d s
  | .surfaceCompletionTimeout r => Sys2Proof.Machine.execSurfaceCompletionTimeout r s
  | .refugeEmergencyCompletion r => Sys2Proof.Machine.execRefugeEmergencyCompletion r s
  | .collectingTimeout r => Sys2Proof.Machine.execCollectingTimeout r s
  | .requestedTimeout r => Sys2Proof.Machine.execRequestedTimeout r s
  | .heldTimeout r => Sys2Proof.Machine.execHeldTimeout r s
  | .alertingTimeout r => Sys2Proof.Machine.execAlertingTimeout r s
  | .ringingTimeout r => Sys2Proof.Machine.execRingingTimeout r s
  | .continuityLoss e => Sys2Proof.Machine.execContinuityLoss e s
  | .tag p t sense => Sys2Proof.Machine.execTag p t sense s
  | .truckStatus p t status => Sys2Proof.Machine.execTruckStatus p t status s
  | .claim block t => Sys2Proof.Machine.execClaim block t s
  | .grant block t => Sys2Proof.Machine.execGrant block t s
  | .wait block t => Sys2Proof.Machine.execWait block t s
  | .exit block t => Sys2Proof.Machine.execExit block t s
  | .state block st dir count tags mWait fWait => Sys2Proof.Machine.execState block st dir count tags mWait fWait s
  | .farEndState block readiness => Sys2Proof.Machine.execFarEndState block readiness s
  | .blockTurn b => Sys2Proof.Machine.execBlockTurn b s
  | .overdue b t => Sys2Proof.Machine.execOverdue b t s
  | .checkin p t => Sys2Proof.Machine.execCheckin p t s
  | .checkout p t => Sys2Proof.Machine.execCheckout p t s
  | .door p v => Sys2Proof.Machine.execDoor p v s
  | .distress p => Sys2Proof.Machine.execDistress p s
  | .stopTrucksEnd => Sys2Proof.Machine.execStopTrucksEnd s
  | .headDelayExpiry => Sys2Proof.Machine.execHeadDelayExpiry s
  | .spurFrame p frame => Sys2Proof.Machine.execSpurFrame p frame s
  | .hello p headType => Sys2Proof.Machine.execHello p headType s
  | .spurSilenceTimeout p => Sys2Proof.Machine.execSpurSilenceTimeout p s
  | .fillCreditEarned => Sys2Proof.Machine.execFillCreditEarned s
  | .outbyeCellFill => Sys2Proof.Machine.execOutbyeCellFill s
  | .accessExpiry => Sys2Proof.Machine.execAccessExpiry s
  | .commitComplete => Sys2Proof.Machine.execCommitComplete s
  | .enquire h => Sys2Proof.Machine.execEnquire h s
  | .statusPoll h => Sys2Proof.Machine.execStatusPoll h s
  | .tableRead h table first count => Sys2Proof.Machine.execTableRead h table first count s
  | .tableLoad h table first count entries => Sys2Proof.Machine.execTableLoad h table first count entries s
  | .historyRead h channel start count => Sys2Proof.Machine.execHistoryRead h channel start count s
  | .commit h => Sys2Proof.Machine.execCommit h s
  | .restart h => Sys2Proof.Machine.execRestart h s
  | .unlock h code => Sys2Proof.Machine.execUnlock h code s
  | .lock h => Sys2Proof.Machine.execLock h s
  | .callAssignOrigin h index callNo slot far => Sys2Proof.Machine.execCallAssignOrigin h index callNo slot far s
  | .callAssignDestination h spur priority slot far => Sys2Proof.Machine.execCallAssignDestination h spur priority slot far s
  | .callConnect h index callNo => Sys2Proof.Machine.execCallConnect h index callNo s
  | .callRelease h index callNo => Sys2Proof.Machine.execCallRelease h index callNo s
  | .callRefuse h index callNo reason => Sys2Proof.Machine.execCallRefuse h index callNo reason s
  | .tripPrepare h => Sys2Proof.Machine.execTripPrepare h s
  | .tripReset h => Sys2Proof.Machine.execTripReset h s
  | .blockOpen h block clear => Sys2Proof.Machine.execBlockOpen h block clear s
  | .blockClose h block => Sys2Proof.Machine.execBlockClose h block s
  | .arm h a0 a1 a2 c0 c1 c2 c3 => Sys2Proof.Machine.execArm h a0 a1 a2 c0 c1 c2 c3 s
  | .levelClear h => Sys2Proof.Machine.execLevelClear h s
  | .truckClear h => Sys2Proof.Machine.execTruckClear h s
  | .outputSet h output force => Sys2Proof.Machine.execOutputSet h output force s
  | .unknownOrder h kind => Sys2Proof.Machine.execUnknownOrder h kind s
  | .supplyLoss => Sys2Proof.Machine.execSupplyLoss s
  | .erroredSegmentCell port => Sys2Proof.Machine.execErroredSegmentCell port s

end Sys2Proof.Machine
end

