-- ==== Sys2Proof/Machine/Encode.lean ====
section
/-! DEFINITION. What heads and the surface write: the octets of a message from a head (R202) and of an order's body (R199),
the ranges in which each field fits its octets, and the row of the table that each message, order or cell is. Reading the octets
is in Operands.lean. -/

namespace Sys2Proof.Machine

/-- R202: a message from a head, its kind code first. -/
def HeadMsg.octets : HeadMsg → List Octet
  | .hello h => [1, octet h]
  | .reading sub raw q => 2 :: octet sub :: (be16 raw ++ [octet q])
  | .offhook => [3]
  | .onhook => [4]
  | .digit d => [5, octet d]
  | .tag t sense => 6 :: (be16 t ++ [octet sense])
  | .truckStatus t st => 7 :: (be16 t ++ [octet st])
  | .door v => [8, octet v]
  | .checkin t => 9 :: be16 t
  | .checkout t => 10 :: be16 t
  | .distress => [11]
/-- Each field fits its octets. -/
def HeadMsg.fitsOctets : HeadMsg → Bool
  | .hello h => h < 256
  | .reading sub raw q => sub < 256 && raw < 65536 && q < 256
  | .offhook => true
  | .onhook => true
  | .digit d => d < 256
  | .tag t sense => t < 65536 && sense < 256
  | .truckStatus t st => t < 65536 && st < 256
  | .door v => v < 256
  | .checkin t => t < 65536
  | .checkout t => t < 65536
  | .distress => true

/-- R199: the body of an order; an order out of form has none of its own. -/
def Order.body : Order → List Octet
  | .enquire => []
  | .statusPoll => []
  | .tableRead t f n => [octet t, octet f, octet n]
  | .tableLoad t f n l => octet t :: octet f :: octet n :: l
  | .historyRead c i n => [octet c, octet i, octet n]
  | .commit => []
  | .restart => []
  | .unlock c => be16 c
  | .lock => []
  | .callAssignOrigin r n sl f => [octet r, octet n, octet sl, octet f]
  | .callAssignDestination p k sl f => [octet p, octet k, octet sl, octet f]
  | .callConnect r n => [octet r, octet n]
  | .callRelease r n => [octet r, octet n]
  | .callRefuse r n k => [octet r, octet n, octet k]
  | .tripPrepare => []
  | .tripReset => []
  | .blockOpen b c => [octet b, octet c]
  | .blockClose b => [octet b]
  | .arm a0 a1 a2 c0 c1 c2 c3 => [octet a0, octet a1, octet a2, octet c0, octet c1, octet c2, octet c3]
  | .levelClear => []
  | .truckClear => []
  | .outputSet o f => [octet o, octet f]
  | .unknown _ => []
  | .badForm _ => []
/-- Each field fits its octets; the clear-list option is 0 or 1, and a kind that is no order's is one of R199's others. -/
def Order.inForm : Order → Bool
  | .enquire => true
  | .statusPoll => true
  | .tableRead t f n => t < 256 && f < 256 && n < 256
  | .tableLoad t f n _ => t < 256 && f < 256 && n < 256
  | .historyRead c i n => c < 256 && i < 256 && n < 256
  | .commit => true
  | .restart => true
  | .unlock c => c < 65536
  | .lock => true
  | .callAssignOrigin r n sl f => r < 256 && n < 256 && sl < 256 && f < 256
  | .callAssignDestination p k sl f => p < 256 && k < 256 && sl < 256 && f < 256
  | .callConnect r n => r < 256 && n < 256
  | .callRelease r n => r < 256 && n < 256
  | .callRefuse r n k => r < 256 && n < 256 && k < 256
  | .tripPrepare => true
  | .tripReset => true
  | .blockOpen b c => b < 256 && c ≤ 1
  | .blockClose b => b < 256
  | .arm a0 a1 a2 c0 c1 c2 c3 => a0 < 256 && a1 < 256 && a2 < 256 && c0 < 256 && c1 < 256 && c2 < 256 && c3 < 256
  | .levelClear => true
  | .truckClear => true
  | .outputSet o f => o < 256 && f < 256
  | .unknown k => k = 0 || 22 < k
  | .badForm _ => false

/-- R198: each field of a neighbour message fits its octets; a master STATE has four tag positions. -/
def NMsg.fitsOctets : NMsg → Bool
  | .claim b t => b < 256 && t < 65536
  | .grant b t => b < 256 && t < 65536
  | .wait b t => b < 256 && t < 65536
  | .exit b t => b < 256 && t < 65536
  | .masterState b st d n tags mw fw =>
      b < 256 && st < 256 && d < 256 && n < 256 && tags.length == 4 && tags.all (· < 65536) && mw < 65536 && fw < 65536
  | .farState b r => b < 256 && r < 256

/-- R174, R194: the slot 0 cell that carries a whole order in one part (part marker 0). -/
def orderCell (mode addr : Nat) (ref : Octet) (o : Order) : List Octet :=
  wireCell 0 (some (mgmtPayload mode o.code addr 0 ref o.body))
/-- R163, R201: the frame a head sends with a message and a voice field, START flag clear. -/
def headFrame (voice : List Octet) (m : HeadMsg) : List Octet := wireFrame false voice m.octets

/-! ## The row of the table that a message, an order or a cell is -/

/-- R64, R119: the port at which a neighbour message comes in. -/
def NMsg.port : NMsg → Side
  | .claim .. => .inbye | .exit .. => .inbye | .farState .. => .inbye
  | .grant .. => .outbye | .wait .. => .outbye | .masterState .. => .outbye
/-- The command that is the arrival of a neighbour message. -/
def NMsg.command : NMsg → Instr
  | .claim b t => .claim b t
  | .grant b t => .grant b t
  | .wait b t => .wait b t
  | .exit b t => .exit b t
  | .masterState b st d n tags mw fw => .state b st d n tags mw fw
  | .farState b r => .farEndState b r
/-- The command that is the arrival of a cell at a port in a place of the cycle, 0 to 31. -/
def cellRow (d : Side) (place : Fin 32) (c : List Octet) : Instr :=
  if h : 2 ≤ place.val then .trafficCell d ⟨place.val - 2, by omega⟩ c
  else if place.val = 0 then .managementCell d c
  else match d with
    | .outbye => .inbyeSegmentCell c
    | .inbye => .outbyeSegmentCell c

/-- The command that is the arrival of a message from the head on spur `p`. -/
def HeadMsg.command (p : SpurId) : HeadMsg → Instr
  | .hello h => .hello p h
  | .reading sub raw q => .reading p sub raw q
  | .offhook => .offhook p
  | .onhook => .onhook p
  | .digit d => .digit p d
  | .tag t sense => .tag p t sense
  | .truckStatus t st => .truckStatus p t st
  | .door v => .door p v
  | .checkin t => .checkin p t
  | .checkout t => .checkout p t
  | .distress => .distress p
/-- The command that is the arrival of an order in form. -/
def Order.command (h : OrderHdr) : Order → Instr
  | .enquire => .enquire h
  | .statusPoll => .statusPoll h
  | .tableRead t f n => .tableRead h t f n
  | .tableLoad t f n l => .tableLoad h t f n l
  | .historyRead c i n => .historyRead h c i n
  | .commit => .commit h
  | .restart => .restart h
  | .unlock c => .unlock h c
  | .lock => .lock h
  | .callAssignOrigin r n sl f => .callAssignOrigin h r n sl f
  | .callAssignDestination p k sl f => .callAssignDestination h p k sl f
  | .callConnect r n => .callConnect h r n
  | .callRelease r n => .callRelease h r n
  | .callRefuse r n k => .callRefuse h r n k
  | .tripPrepare => .tripPrepare h
  | .tripReset => .tripReset h
  | .blockOpen b c => .blockOpen h b c
  | .blockClose b => .blockClose h b
  | .arm a0 a1 a2 c0 c1 c2 c3 => .arm h a0 a1 a2 c0 c1 c2 c3
  | .levelClear => .levelClear h
  | .truckClear => .truckClear h
  | .outputSet o f => .outputSet h o f
  | .unknown k => .unknownOrder h k
  | .badForm k => .unknownOrder h k

end Sys2Proof.Machine
end

