-- ==== Sys2Proof/Safety.lean ====
section
/-! DEFINITION. What counts as a safe node, in the terms the statements use: the ranges and relations the manual says always
hold, and what two states must share for a command to have left alone all that its hand-overs do not reach. -/

namespace Sys2Proof.Safety
open Sys2Proof.Machine

/-! ## Ranges and relations -/

/-- R177, R178, R182, R187: the credit is 0 to 4, the attempt counter 0 to 5, made replies and reservations number at most 4,
and a place is reserved exactly while the store write of an addressed COMMIT is in flight. -/
structure MgmtRange (m : Mgmt) : Prop where
  credit   : m.credit ≤ 4
  attempts : m.attempts ≤ 5
  replies  : m.replies.length + m.reserved ≤ 4
  reserved : m.reserved = (match m.write with | some w => if w.bcast then 0 else 1 | none => 0)

/-- R36, R37: the isolation output is asserted exactly while the latch is set or the ordered level is TRIP or higher, and the
latch has a first cause exactly while it is set. -/
structure IsolationFormed (s : State) : Prop where
  output : s.level.output = s.outputOf
  cause  : s.level.latch = s.level.firstCause.isSome

/-- Signal summary: while the latch is set the contactor is open, whether or not the node has its supply. -/
def MethaneSafe (s : State) : Prop := s.level.latch = true → s.isolated = true

/-- R28, R32, R33, R44: each level, the mask and the drives stand as what they are formed from gives. -/
structure LevelsFormed (s : State) : Prop where
  localLevel : s.level.localLevel = s.localOf
  effective  : s.level.effective = s.effectiveOf
  mask       : s.level.mask = s.maskOf
  drive      : ∀ o, s.level.drive.get o = s.driveOf o

/-- R55, R58, R59, R62: a LOST port's queue is empty, a queue holds at most 8, the node is at the end of the line while its
inbye port is LOST, and autonomous while its outbye port is LOST or its last segment cell had SURFACE PRESENT clear. -/
structure LineConditions (l : Line) : Prop where
  endOfLine  : l.endOfLine = !l.inPort.up
  autonomous : l.autonomous = (!l.outPort.up || !l.rxSurface)
  inQueue    : l.inPort.queue.length ≤ 8 ∧ (l.inPort.up = false → l.inPort.queue = [])
  outQueue   : l.outPort.queue.length ≤ 8 ∧ (l.outPort.up = false → l.outPort.queue = [])

/-- R90: every call in REQUESTED, ALERTING, RINGING or CONNECTED has a priority number within the admission mask. -/
def AdmittedWithinMask (s : State) : Prop := ∀ r, (s.call r).admitted = true → (s.call r).priority.getD 0 ≤ s.level.mask

/-- R67, R99: an owner of a Slot Map entry is a live record, and the entry is the one its own far side and slot give; the order
in which records are reclaimed names CLEARED ones only. -/
structure OwnersLive (s : State) : Prop where
  clearing : ∀ r ∈ s.calls.clearing, (s.call r).state = .cleared
  drop : ∀ e r, (s.slots.map.get e).drop = some r →
    (s.call r).live = true ∧ ∃ far sl, (s.call r).far = some far ∧ (s.call r).slot = some sl ∧ dropIx far sl = e
  add  : ∀ e r, (s.slots.map.get e).add = some r →
    (s.call r).live = true ∧ ∃ far sl, (s.call r).far = some far ∧ (s.call r).slot = some sl ∧ addIx far sl = e

/-- R105, R106: the lists of a master hold each tag once, with its waits, and no more than the convoy limit; the truck list
holds trucks exactly while the block is HELD, DRAINING or CLOSING, and the fault list only in FAULT. -/
structure MasterFormed (convoy : Nat) (m : Master) : Prop where
  room    : m.list.length ≤ max 1 convoy ∧ m.faults.length ≤ max 1 convoy
  once    : (listTags m.list ++ listTags m.faults ++ m.mWait.toList ++ m.fWait.toList).Nodup
  engaged : m.state.engaged = !m.list.isEmpty
  faults  : m.state = .fault ∨ m.faults = []
def MastersFormed (s : State) : Prop := ∀ i, MasterFormed (s.working.blocks.get i).convoy (s.master i)

/-- The Action Unit holds no change that it has not taken: so it stands between commands (log entry 9). -/
abbrev NoNotices (s : State) : Prop := s.action.notices = []
/-- No list has a condition and the Armed Queue is empty: nothing that is handed to the Action Unit makes it act. -/
structure Quiet (s : State) : Prop where
  queue : s.action.queue = []
  lists : ∀ x, (s.working.triggers.get x).cond = none

/-! ## The line ports -/

/-- R48: the port as an arriving cell finds it: with 32 errored cells in a row at a FRAMED port it has returned to HUNT. -/
def found (x : LinePort) : LinePort := if x.framed = true ∧ x.errRun = 32 then { x with framed := false, shift := 0 } else x
/-- The state that a command leaves. -/
def after (c : Instr) (s : State) : State := match exec c s with | .next t => t | _ => s
/-- R55: the eighth cycle in a row without a valid segment cell is ending at an UP port, or has ended. -/
abbrev eighthMiss (x : LinePort) : Prop := x.up = true ∧ (8 ≤ x.miss ∨ x.miss = 7 ∧ x.segSeen = false)
/-- R165: the 500th cycle in a row without a valid frame is ending on a spur that is STARTING, UP or MISMATCH, or has ended. -/
abbrev silent500 (x : Spur) : Prop := x.state ≠ .off ∧ x.state ≠ .down ∧ (500 ≤ x.silence ∨ x.silence = 499 ∧ x.heard = false)
/-- R55, R165: the state in which a cycle ends: PORT_LOST or PORT_UP has been carried out for each port at which it is due, the outbye
port first, and SPUR_SILENCE_TIMEOUT for each spur on which it is, spurs 1 to 8 (the order is the model's: log entry 6). -/
def atCycleEnd (s : State) : State :=
  let port (d : Side) (s : State) : State :=
    if eighthMiss (s.port d) then after (.portLost d) s
    else if (s.port d).up = false ∧ (s.port d).good = 16 then after (.portUp d) s
    else s
  let spur (s : State) (p : SpurId) : State :=
    if silent500 (s.spurs.get p) then after (.spurSilenceTimeout p) s else s
  (List.finRange 8).foldl spur (port .inbye (port .outbye s))

/-! ## The latch and the report sources -/

/-- R36, R37: from `s` to `t` the latch has taken the cause `k`: it is set and the output asserted, `k` is its first cause, with the
cycle, when it was clear, `k` is in the cause set and among the accumulated causes, and PREPARE is clear. Where nothing else acts,
the two sets hold nothing else new, and ISOLATION is marked for the cause, and again for a change of the output (R38). -/
structure LatchTook (k : Cause) (s t : State) : Prop where
  set     : t.level.latch = true ∧ t.level.output = true
  first   : t.level.firstCause = if s.level.latch then s.level.firstCause else some (k, s.line.cycle)
  causes  : k ∈ t.level.causes ∧ ∀ x ∈ s.level.causes, x ∈ t.level.causes
  sent    : k ∈ t.level.accumulated ∧ ∀ x ∈ s.level.accumulated, x ∈ t.level.accumulated
  prepare : t.mgmt.prepare = false
  alone   : Quiet s → (∀ x ∈ t.level.causes, x = k ∨ x ∈ s.level.causes) ∧ (∀ x ∈ t.level.accumulated, x = k ∨ x ∈ s.level.accumulated) ∧
    t.held .isolation = (if s.level.output then markHeld (s.held .isolation) else markHeld (markHeld (s.held .isolation)))

/-- The latch has taken no cause from `s` to `t`. -/
def LatchStood (s t : State) : Prop :=
  t.level.latch = s.level.latch ∧ t.level.causes = s.level.causes ∧ t.level.accumulated = s.level.accumulated ∧
    t.level.firstCause = s.level.firstCause ∧ t.mgmt.prepare = s.mgmt.prepare ∧ t.held .isolation = s.held .isolation
/-- R181: a source that was held as `h` after `n` marks. -/
def marked (n : Nat) (h : Option Nat) : Option Nat := markHeld^[n] h
/-- One mark where a condition holds, none where it does not. -/
def count (p : Prop) [Decidable p] : Nat := if p then 1 else 0

/-! ## The loadable tables -/

/-- R4, R34, R104, R132, R153, R162, R186: the result with which the octets `b` offered as entry `k` of a table fail against the working
tables of `s`; none when they pass. An entry that fails more than one test fails by the first one here (log entry 41). -/
def entryFailure (t : Table) (k : Nat) (b : List Octet) (s : State) : Option Result :=
  let o := octAt b
  let wrongSpur (kind : SpurType) : Prop := ∃ p : SpurId, o 0 = p.val + 1 ∧ (s.working.spurs.get p).type ≠ kind
  match t with
  | .commission =>
    if o 0 ≤ 239 ∧ o 1 ≤ 15 ∧ 1 ≤ o 4 ∧ o 4 ≤ 250 ∧ 1 ≤ o 5 ∧ o 6 ≤ 5 ∧ o 7 ≤ 5 ∧ o 8 ≤ 4 ∧ o 9 ≤ 4 then none else some .invalid
  | .levelMap =>
    let mask (j : Fin 5) : Nat := if j.val = k then o 0 else s.working.levelMap.get j
    if o 0 ≤ 15 ∧ ∀ i j : Fin 5, i ≤ j → mask j ≤ mask i then none else some .invalid
  | .spurs => if o 0 ≤ 4 ∧ o 1 ≤ 1 ∧ o 2 ≤ 15 ∧ (o 1 = 1 → o 0 = 2) then none else some .invalid
  | .channels =>
    match kindOf (o 2) with
    | none => some .invalid
    | some kind =>
      let l1 := num16 b 8
      let l2 := num16 b 10
      let l3 := num16 b 12
      if ¬ (o 0 ≤ 8 ∧ o 1 ≤ 1 ∧ num16 b 3 ≤ 4095 ∧ 1 ≤ num16 b 5 ∧ o 7 ≤ 4 ∧ num16 b 14 ≤ 1000 ∧ 1 ≤ o 16 ∧ o 16 ≤ 8 ∧ 1 ≤ o 18 ∧
          o 18 ≤ 30 ∧ o 19 ∈ [8, 16, 32, 64] ∧ 1 ≤ o 20 ∧ o 20 ≤ 60) then some .invalid
      else if ¬ (if kindRising kind then l1 ≤ l2 ∧ l2 ≤ l3 ∧ l3 ≤ kindMax kind else l1 ≤ kindMax kind ∧ l2 ≤ l1 ∧ l3 ≤ l2) then
        some .invalid
      else if wrongSpur .gas then some .invalid
      else if ∃ p : SpurId, o 0 = p.val + 1 ∧ ∃ j : ChanId, j.val + 1 ≠ k ∧ (s.working.channels.get j).spur = some p ∧
          (s.working.channels.get j).sub = o 1 then some .conflict
      else none
  | .blocks =>
    let wrong : Prop := ∃ p : SpurId, o 2 = p.val + 1 ∧ (s.working.spurs.get p).type ≠ .truck
    if ¬ (o 1 ≤ 1 ∧ o 2 ≤ 8 ∧ 1 ≤ o 3 ∧ o 3 ≤ 4 ∧ 10 ≤ num16 b 4 ∧ num16 b 4 ≤ 1800 ∧ (o 0 = 0 ↔ o 2 = 0)) ∨ wrong then some .invalid
    else if o 0 ≠ 0 ∧ ∃ j : BlockIx, j.val + 1 ≠ k ∧ (s.working.blocks.get j).id ≠ 0 ∧
        ((s.working.blocks.get j).id = o 0 ∨ ∃ p, (s.working.blocks.get j).spur = some p ∧ o 2 = p.val + 1) then some .conflict
    else if ∃ i : BlockIx, i.val + 1 = k ∧
        (s.isMaster i = true ∧ (s.master i).state.engaged = true ∨
          s.isFar i = true ∧ (s.farEnd i).localFault = false ∧ (s.farEnd i).mirror.state.engaged = true) then some .inUse
    else none
  | .refuges =>
    if ¬ (o 0 ≤ 8 ∧ o 1 ≤ 16 ∧ o 2 ≤ 16 ∧ (o 1 ≠ 0 → o 1 ≠ o 2)) ∨ wrongSpur .refuge then some .invalid
    else if ∃ p : SpurId, o 0 = p.val + 1 ∧ ∃ q : PairIx, q.val + 1 ≠ k ∧ (s.working.refuges.get q).spur = some p then some .conflict
    else none
  | .triggers =>
    match triggerOf (o 0) (o 1) (o 2) with
    | none => some .invalid
    | some c =>
      if o 3 ≤ 4 ∧ (c = none ↔ o 3 = 0) ∧
          ∀ i : Fin 4, i.val < o 3 → (actionOf (o (4 + 3 * i.val)) (o (5 + 3 * i.val)) (o (6 + 3 * i.val))).isSome = true
      then none else some .invalid
  | _ => none

/-! ## Taking an order (R176, R177, R180) -/

/-- The node takes a complete order: it has its supply, the order can reach it, no restart is pending, and there is room for
a reply where one is made. -/
structure Takes (h : OrderHdr) (s : State) : Prop where
  powered : s.powered = true
  settled : NoNotices s
  reach   : s.reachable h = true
  restart : s.mgmt.restart = none
  room    : h.bcast = false → s.repliesFull = false

/-- What taking an order of a kind does by itself: PREPARE is cleared, and access is opened again where the kind needs it
and has it. -/
def taken (code : Nat) (s : State) : State :=
  s.setMgmt
    { s.mgmt with
      prepare := false
      accessOpen := if kindNeedsAccess code && s.access then true else s.mgmt.accessOpen
      period := if kindNeedsAccess code && s.access then 75000 else s.mgmt.period }
/-- A made reply joins the tail of the reply queue; a broadcast order makes none. -/
def replied (h : OrderHdr) (code : Nat) (r : Result) (fields : List Octet) (s : State) : State :=
  if h.bcast then s
  else s.setMgmt
    { s.mgmt with replies := s.mgmt.replies ++ [{ ref := h.ref, body := octet code :: octet (resultCode r) :: fields }] }

/-! ## Calls -/

/-- R97: a LOCAL record in CONNECTED whose two handsets are the pair. -/
def bridges (b : SpurId × SpurId) (x : CallRec) : Bool :=
  x.role == some .localCall && x.state == .connected && x.origin == some b.1 && x.dest == some b.2
/-- R97: what clearing a record for cause `c` sends to spur `p`: RING off to the spur it rings, and then the tone of the cause to
a handset of the call that is off hook (log entry 15 says which handsets a LOCAL call has). -/
def clearingSends (x : CallRec) (c : ClearCause) (p : SpurId) (s : State) : State :=
  let s := if x.state = .ringing ∧ rungSpur x = some p then offer p (.ring false) s else s
  if p ∈ handsetsOf x ∧ s.calls.hooks.get p = true then offer p (.tone (clearTone c)) s else s

/-- R97: `t` is `s` with the in-use record `r` cleared for cause `c`: its state, cause, entry cycle and timer are set, it joins
the clearing order and CALL is marked; its pair of Slot Map entries is free, and its pair has left the bridge; each handset is
sent what the clearing gives it. -/
structure CallCleared (r : RecId) (c : ClearCause) (s t : State) : Prop where
  record : t.call r = { s.call r with state := .cleared, cause := some c, entry := some s.line.cycle, timer := some 0 }
  others : ∀ q, q ≠ r → t.call q = s.call q
  order  : t.calls.clearing = s.calls.clearing ++ [r]
  marked : t.mgmt = { s.mgmt with holding := s.mgmt.holding.put (Source.call r).ix (markHeld (s.held (.call r))) }
  pair   : ∀ far sl, (s.call r).live = true → (s.call r).far = some far → (s.call r).slot = some sl →
    (t.slots.map.get (addIx far sl)).add = none ∧ (t.slots.map.get (dropIx far sl)).drop = none
  bridge : t.slots.bridge = s.slots.bridge.filter fun b => !bridges b (s.call r)
  spurs  : ∀ p, t.spurs.get p = (clearingSends (s.call r) c p s).spurs.get p
  rest   : t = { s with calls := t.calls, slots := t.slots, spurs := t.spurs, mgmt := t.mgmt } ∧
    t.calls.hooks = s.calls.hooks ∧ t.calls.counter = s.calls.counter ∧ t.calls.refused = s.calls.refused

/-- `t` differs from `s` in the call records but `r` keeps its neighbours: no other record, slot, hook or count has changed,
and beside the calls only messages to heads and report marks have. -/
structure CallAlone (r : RecId) (s t : State) : Prop where
  others : ∀ q, q ≠ r → t.call q = s.call q
  rest   : t = { s with calls := t.calls, spurs := t.spurs, mgmt := { s.mgmt with holding := t.mgmt.holding } } ∧
    t.calls.hooks = s.calls.hooks ∧ t.calls.counter = s.calls.counter ∧ t.calls.refused = s.calls.refused
  spurs  : ∀ p, t.spurs.get p = { s.spurs.get p with queue := (t.spurs.get p).queue, outDiscard := (t.spurs.get p).outDiscard }

/-- R87, R88: where the admission test leaves a completed number that is not for a handset of this node, or EMERGENCY. -/
def admittedTo (s : State) (priority : Nat) (emergency : Bool) : CallState :=
  if s.level.mask < priority then .held
  else if s.line.autonomous && !emergency then .cleared
  else .requested

/-! ## Waits (R110) -/

/-- R109: a master after the grant of a tag at an end, whose wait it was, in a cycle. -/
def granted (e : BlockEnd) (t cycle : Nat) (m : Master) : Master :=
  { m.setWait e none with
    list := m.list ++ [{ tag := t, cycle := cycle, age := 0, overdue := false }], dir := some e.dir, state := .held
    goTag := if e = .master then some t else m.goTag }
/-- R110: `u` is the master `m` when it has served its waits; `first` is the end whose wait goes first and `second` the other.
In FREE a permitted first wait is granted, and the second one waits and turns the block to DRAINING, unless it stands at the
master end at TRIP; a first wait that is not permitted stays, and the second is granted when permitted. In HELD an opposing wait
turns the block to DRAINING, and otherwise a wait at the entry end is granted when permitted with room. -/
structure WaitsServed (convoy cycle : Nat) (atTrip : Bool) (first second : BlockEnd) (m u : Master) : Prop where
  idle   : m.mWait = none → m.fWait = none → u = m
  alone  : ∀ e t, m.state = .free → e = first ∧ m.waitAt second = none ∨ e = second ∧ m.waitAt first = none → m.waitAt e = some t →
    u = if e = .far ∨ atTrip = false then granted e t cycle m else { m with goTag := none }
  both   : ∀ t t', m.state = .free → m.waitAt first = some t → m.waitAt second = some t' →
    u = if first = .master ∧ atTrip = true then granted .far t' cycle { m with goTag := none }
      else
        let g := granted first t cycle m
        { g with
          goTag := if second = .master then none else g.goTag
          state := if second = .far ∨ atTrip = false then .draining else .held }
  opposed : m.state = .held → m.opposed atTrip = true → u = { m with state := .draining }
  entry  : ∀ e t, m.state = .held → m.opposed atTrip = false → m.dir = some e.dir → m.waitAt e = some t →
    u = if (e = .far ∨ atTrip = false) ∧ m.list.length < convoy then granted e t cycle m else m
  empty  : ∀ e, m.state = .held → m.opposed atTrip = false → m.dir = some e.dir → m.waitAt e = none → u = m
  others : m.state ≠ .free → m.state ≠ .held → u = m
/-- R110: the end whose wait goes first in FREE: where the direction opposite to the last held one enters, or the master end. -/
def firstEnd (m : Master) : BlockEnd := if m.dir = some .inbye then .far else .master
def secondEnd (m : Master) : BlockEnd := if m.dir = some .inbye then .master else .far
/-- R110: the waits of the master `m` of entry `i` are served at state `s`. -/
def Served (i : BlockIx) (s : State) (m u : Master) : Prop :=
  WaitsServed (s.working.blocks.get i).convoy s.line.cycle s.atTrip (firstEnd m) (secondEnd m) m u

/-! ## Actions and lists -/

/-- R152: the actions of a list, run in order, are all done and leave `t`; none when one fails. -/
def runsTo (l : List Machine.Action) (s : State) : Option State :=
  l.foldl (fun o a => o.bind fun s => match runAction a s with | (t, true) => some t | (_, false) => none) (some s)
/-- R156: the head's action has run at `s`, giving `r`: the entry leaves, and where the action was done the next head is examined
at once (log entry 24); where it failed the failure is recorded, and what stands behind it is flushed and counted. -/
def headHasRun (a : Machine.Action) (rest : List (Machine.Action × QueueCond)) (r : State × Bool) : State :=
  let left := (r.1.setAction { r.1.action with queue := rest, headDelay := 0 }).mark .action
  if r.2 then examineHead 7 left
  else (left.setAction { left.action with
    failure := some { source := .queue, position := 0, action := a }, queue := [], headDelay := 0
    flushed := min 255 (left.action.flushed + rest.length) }).mark .action

/-! ## Readings -/

/-- The status updates of a run of GOOD readings without the override, each given by its raw band and its V (R10). -/
def updates (c : ChanCfg) (run : List (Nat × Nat)) (x : Channel) : Channel :=
  run.foldl (fun x r => statusUpdate c false r.1 r.2 x) x

/-! ## A message from a head -/

/-- Spur `p` is the panel of refuge `r` and of nothing else: no other refuge record and no call names it, and no light stands at it. -/
abbrev PanelAlone (p : SpurId) (r : PairIx) (s : State) : Prop :=
  (∀ q, q ≠ r → (s.working.refuges.get q).spur ≠ some p) ∧ (∀ k, (s.call k).origin ≠ some p ∧ (s.call k).dest ≠ some p) ∧
  s.blocks.lights.get p = .dark
/-- R164: an UP spur on which a valid frame has arrived in this cycle. -/
def heard (p : SpurId) (s : State) : State := s.setSpur p { s.spurs.get p with silence := 0, heard := true }

/-! ## What hand-overs do not reach -/

/-- The state with everything blanked that a change of the local level or of the latch can reach: the Level Unit's formed
values and its latch (R28, R32, R33, R36, R37, R44), PREPARE (R39), the calls that a mask admits or preempts (R89, R90), with
their slots, the blocks that serve their waits and the lights (R110, R124, R125), the refuges' state and PREPARE commanded
flag (R139 to R141), the messages queued for heads and neighbours, the report marks and the changes handed over. Two states
with equal `outsideLevel` agree on all the rest. -/
def outsideLevel (s : State) : State :=
  { s with
    level := { s.level with
      localLevel := 0, effective := 0, mask := 0, latch := false, causes := [], firstCause := none, accumulated := []
      output := false, drive := Tab.fill 2 false }
    line := { s.line with
      inPort := { s.line.inPort with queue := [] }, outPort := { s.line.outPort with queue := [] }, discarded := 0 }
    slots := { s.slots with map := s.slots.map.mapIx fun _ e => { e with drop := none, add := none, continuity := 0 }, bridge := [] }
    calls := { s.calls with recs := Tab.fill 16 .idle, clearing := [], heldOrder := [] }
    blocks := { s.blocks with
      entries := Tab.fill 4 { master := .start, far := .start false }, lights := Tab.fill 8 .dark, stopAll := false }
    refuges := s.refuges.mapIx fun _ x => { x with state := .standby, prepared := false }
    action := { s.action with notices := [] }
    spurs := s.spurs.mapIx fun _ x => { x with queue := [], outDiscard := 0 }
    mgmt := { s.mgmt with prepare := false, holding := Tab.fill 58 none } }

/-- The state with everything blanked that the Action Unit's actions can reach as well (R147 to R157): the lists, the Armed
Queue and the rest of the Action Unit, the forces, the hold and the distress flags. -/
def outsideActions (s : State) : State :=
  let s := outsideLevel s
  { s with
    working := { s.working with triggers := Tab.fill 2 { cond := none, actions := [] } }
    level := { s.level with hold := 0, force := Tab.fill 2 .follow }
    refuges := s.refuges.mapIx fun _ x => { x with distress := false }
    action := .start factoryTables }

end Sys2Proof.Safety
end

