-- ==== Sys2Proof/Certificates/Slice0/Obligations.lean ====
section
/-! DEFINITION. The statements for the provers: one proposition each, about the step, the commands, the layouts and the
relations that every step keeps. `Safety.lean` holds the predicates they use, `outsideLevel` and `outsideActions` their frames. -/

open Sys2Proof Sys2Proof.Machine Sys2Proof.Safety

/-! ## The step and reset -/

/-- The command at the front of the queue is carried out on the state with the queue's rest, and an empty queue leaves the
node as it is (the model's own queue and idling: log entry 1). -/
def Obligations.StepRunsTheFrontCommand : Prop :=
  (∀ (s : State) (c : Instr) (rest : List Instr), s.pending = c :: rest → step s = exec c { s with pending := rest }) ∧
  ∀ s : State, s.pending = [] → step s = .next s

/-- R3, R27, R66, R79, R105, R145, R161, R188 and the state tables of chapters 3 and 10: a new part after power-on, with its supply
and with no command waiting (`powered` and `pending` are the model's own: log entries 25 and 1). -/
def Obligations.ResetValues : Prop :=
  let s := State.reset
  s.commissioned = false ∧ s.powered = true ∧ s.pending = [] ∧
  (s.level.localLevel = 0 ∧ s.level.effective = 0 ∧ s.orderedLevel = 0 ∧ s.level.mask = 15 ∧ s.level.hold = 0) ∧
  (s.level.latch = true ∧ s.level.causes = [.power] ∧ s.level.firstCause = some (.power, 0) ∧ s.level.output = true) ∧
  (∀ i, s.level.contacts.get i = { active := false, run := 0 }) ∧
  (∀ o, s.level.force.get o = .follow ∧ s.level.drive.get o = false) ∧
  (∀ c, (s.air.get c).status = .unused ∧ (s.air.get c).f = none ∧ (s.air.get c).v = none ∧ (s.air.get c).ring = List.replicate 16 none) ∧
  (∀ d, (s.port d).framed = false ∧ (s.port d).up = false ∧ (s.port d).queue = [] ∧ (s.port d).degraded = false) ∧
  (s.line.endOfLine = true ∧ s.line.autonomous = true ∧ s.line.position = none) ∧
  (∀ e, (s.slots.map.get e).mode = .pass) ∧ s.slots.bridge = [] ∧
  (∀ r, s.call r = { state := .idle, callNo := none, role := none, origin := none, dest := none, priority := none, digits := [],
                      dialled := none, far := none, slot := none, entry := none, timer := none, cause := none, refuge := false }) ∧
  s.calls.counter = 1 ∧ (∀ p, s.calls.hooks.get p = false) ∧
  (∀ i, (s.master i).state = .closed ∧ (s.master i).list = [] ∧ (s.farEnd i).claim = none) ∧ s.blocks.truckAlarm = none ∧
  (∀ r, s.refuges.get r = { state := .standby, door := false, muster := [], overflow := 0, distress := false, prepared := false }) ∧
  (∀ x, s.action.lists.get x = .empty) ∧ s.action.queue = [] ∧ s.action.stopTrucks = 0 ∧
  (∀ p, (s.spurs.get p).state = .off ∧ (s.spurs.get p).queue = []) ∧
  (s.mgmt.accessOpen = false ∧ s.mgmt.attempts = 5 ∧ s.mgmt.credit = 0 ∧ s.mgmt.replies = [] ∧ s.mgmt.prepare = false ∧
    s.mgmt.storeFault = false ∧ ∀ k, s.mgmt.holding.get k = none)

/-- The relations that the other statements keep from step to step hold after reset. -/
def Obligations.ResetMeetsTheInvariants : Prop :=
  let s := State.reset
  IsolationFormed s ∧ LevelsFormed s ∧ AdmittedWithinMask s ∧ MastersFormed s ∧ LineConditions s.line ∧ MgmtRange s.mgmt ∧
    OwnersLive s ∧ NoNotices s

/-! ## Relations that every step keeps -/

/-- R37, R36: from every state in which the isolation output follows the latch and the ordered level, and the latch has a
first cause exactly while it is set, each step gives such a state; while the latch is set there the contactor is open. -/
def Obligations.IsolationFollowsItsConditions : Prop :=
  ∀ s t : State, IsolationFormed s → step s = .next t → IsolationFormed t ∧ MethaneSafe t

/-- R37, R40: a set latch stays set through every command but an order to reset it. The other commands that can bring that order are
the rows of cells at the outbye port, FRAMED and UP, in the place whose expected slot is 0, as the cell that completes it (R48; log
entry 10). -/
def Obligations.LatchHoldsUntilTripReset : Prop :=
  ∀ (c : Instr) (s t : State), (∀ h, c ≠ .tripReset h) →
    (∀ place l, c = cellRow .outbye place l →
      let x := found (s.port .outbye)
      x.framed = true → x.up = true → x.expected place.val ≠ 0) →
    s.level.latch = true → exec c s = .next t → t.level.latch = true

/-- R28, R32, R33, R44: from every state in which the levels, the mask and the drives are what they are formed from, each step
gives such a state. -/
def Obligations.LevelsStayFormed : Prop :=
  ∀ s t : State, LevelsFormed s → step s = .next t → LevelsFormed t

/-- R90, R87, R89: no step leaves an admitted call above the admission mask. -/
def Obligations.AdmittedCallsStayWithinTheMask : Prop :=
  ∀ s t : State, AdmittedWithinMask s → step s = .next t → AdmittedWithinMask t

/-- R105, R106, R108: no step puts a truck twice into a block's lists and waits, lets a list pass the convoy limit, leaves a
HELD, DRAINING or CLOSING block without a truck, or lists a truck in any other state. -/
def Obligations.BlockListsStayFormed : Prop :=
  ∀ s t : State, MastersFormed s → step s = .next t → MastersFormed t

/-- R55, R58, R59, R62: the conditions of the line ports hold after every step. -/
def Obligations.LineConditionsHold : Prop :=
  ∀ s t : State, LineConditions s.line → step s = .next t → LineConditions t.line

/-- R177, R178, R182, R187: the Management Engine's counts stay in their ranges through every step. -/
def Obligations.ManagementCountsStayInRange : Prop :=
  ∀ s t : State, MgmtRange s.mgmt → step s = .next t → MgmtRange t.mgmt

/-- R67: no step leaves a Slot Map entry owned by a record that is not live on that entry's slot. -/
def Obligations.SlotOwnersStayLive : Prop :=
  ∀ s t : State, OwnersLive s → step s = .next t → OwnersLive t

/-- R146: the list of changes that wait to be taken by the Action Unit is empty when a step ends. The list is the model's own, and
the bound of log entry 9 would empty it too. -/
def Obligations.NoChangeIsLeftUntaken : Prop :=
  ∀ s t : State, NoNotices s → step s = .next t → NoNotices t

/-! ## The layouts -/

/-- R48, R49, R194, R195, R201: a cell as the node sends it is good, names its slot and gives its payload back, a vacant one with
every payload octet 0; a frame as it is sent is good and gives its voice field back. The check word is R195's: its nine octets
"123456789" give 0x29B1. -/
def Obligations.SentCellsAndFramesReadBack : Prop :=
  checkWord [0x31, 0x32, 0x33, 0x34, 0x35, 0x36, 0x37, 0x38, 0x39] = 0x29B1 ∧
  (∀ (slot : Nat) (o : Option (List Octet)), slot < 32 → (∀ l, o = some l → l.length = 32) →
    let c := wireCell slot o
    c.length = 36 ∧ cellGood c = true ∧ cellSlot c = slot ∧ cellOccupied c = o.isSome ∧
      cellPayload c = o.getD (List.replicate 32 0)) ∧
  (∀ (start : Bool) (voice msg : List Octet), voice.length = 32 → msg.length ≤ 12 →
    let f := wireFrame start voice msg
    f.length = 48 ∧ frameGood f = true ∧ frameVoice f = voice)

/-- R197, R198: the fields of a segment cell and each of its six neighbour messages read back as they were written. -/
def Obligations.SegmentCellsReadBack : Prop :=
  ∀ (flag : Bool) (sender cycle : Nat) (levels : Tab 16 Level) (m : Option NMsg),
    sender < 64 → cycle < 65536 → (∀ x, m = some x → x.fitsOctets = true) →
    let p := segPayload flag sender cycle levels m
    p.length = 32 ∧ segFlag p = flag ∧ segSender p = sender ∧ segCycle p = cycle ∧ segLevels p = levels ∧ segMessage p = m

/-- R201, R202, R199: every message from a head whose fields fit their octets reads back from its frame as it was written, and
every order in form from its kind code and its body, a kind that is no order's too. -/
def Obligations.HeadMessagesAndOrdersReadBack : Prop :=
  (∀ (voice : List Octet) (m : HeadMsg), voice.length = 32 → m.fitsOctets = true →
    frameGood (headFrame voice m) = true ∧ frameVoice (headFrame voice m) = voice ∧ frameMsg (headFrame voice m) = .msg m) ∧
  ∀ o : Order, o.inForm = true → orderOf o.code o.body = o

/-- R200: an entry of six of the loadable tables that some octets spell is spelt by its own octets; the tables' ranges are what the
readers accept. A LEVEL MAP entry that a load takes is read as the one octet that was loaded. -/
def Obligations.TableEntriesReadBack : Prop :=
  (∀ (b : List Octet) (c : Commission), commissionOf b = some c → commissionOf (commissionOctets c) = some c) ∧
  (∀ (b : List Octet) (c : SpurCfg), spurCfgOf b = some c → spurCfgOf (spurCfgOctets c) = some c) ∧
  (∀ (b : List Octet) (c : ChanCfg), chanCfgOf b = some c → chanCfgOf (chanCfgOctets c) = some c) ∧
  (∀ (b : List Octet) (c : BlockCfg), blockCfgOf b = some c → blockCfgOf (blockCfgOctets c) = some c) ∧
  (∀ (b : List Octet) (c : RefugeCfg), refugeCfgOf b = some c → refugeCfgOf (refugeCfgOctets c) = some c) ∧
  (∀ (b : List Octet) (c : TriggerCfg), triggerCfgOf b = some c → triggerCfgOf (triggerCfgOctets c) = some c) ∧
  ∀ (k : Fin 5) (b : List Octet) (s t : State), loadLevelMap k (octAt b 0) s = .ok t →
    t.entryOctets .levelMap k.val = [octet (octAt b 0)] ∧ t.working.levelMap.get k = octAt b 0

/-! ## Air channels -/

/-- R7, R8: the unclamped value is P divided by 4096 to the nearest whole number, halves away from zero; OVER and UNDER are set by it (by it
alone also where D is negative and it is 0: the model's choice, log entry 67), and E is it clamped to the kind's range. A present F takes
the step that rounds the difference divided by 2^k, forced to one where it rounds to 0 and the difference is not 0; V is F + 8 divided by
16. R12: F is set to 16 × E where it is absent and in a status outside the bands. R9, R10: the status update takes the greatest band whose
threshold V is at, or 3 by the fail-safe override. R13: V is written into the history when the reading count reaches d, and otherwise only
the count rises. The filter moves F toward 16 × E at every reading and never past it, and a steady E is reached exactly, V being then E. -/
def Obligations.ConversionRoundsAndFilterConverges : Prop :=
  (∀ (c : ChanCfg) (raw : Nat) (x : Channel),
    let p : Int := ((raw : Int) - c.zero) * c.span
    let e' := convertRaw c raw
    let e : Nat := if e' < 0 then 0 else min e'.toNat (kindMax c.kind)
    let y := goodReading c raw x
    2 * |p - 4096 * e'| ≤ 4096 ∧ (2 * |p - 4096 * e'| = 4096 → |p| < |4096 * e'|) ∧
    y.overSet = decide ((kindMax c.kind : Int) < e') ∧ y.underSet = decide (e' < 0) ∧
    (x.f = none ∨ bandOf x.status = none → y.f = some (16 * e)) ∧
    (∀ f s, x.f = some f → bandOf x.status = some s → y.f = some (filterNext c.shift f e)) ∧
    (∀ f, y.f = some f → y.v = some ((f + 8) / 16)) ∧
    (∀ v, y.v = some v →
      let override : Bool := if kindRising c.kind then y.overSet else y.underSet
      (∃ b0, b0 ≤ 3 ∧ (override = true → b0 = 3) ∧
        (override = false → (b0 = 0 ∨ atThreshold c.kind v (threshold c b0) = true) ∧
          ∀ i, b0 < i → i ≤ 3 → atThreshold c.kind v (threshold c i) = false) ∧
        let z := statusUpdate c override b0 v x
        y.status = z.status ∧ y.n = z.n ∧ y.m = z.m) ∧
      (c.decimation ≤ x.readings + 1 → y.ring = x.ring.set x.wpos (some v) ∧ y.wpos = (x.wpos + 1) % c.window ∧
        y.valid = min (x.valid + 1) c.window ∧ y.readings = 0) ∧
      (x.readings + 1 < c.decimation → y.ring = x.ring ∧ y.wpos = x.wpos ∧ y.valid = x.valid ∧ y.readings = x.readings + 1))) ∧
  ∀ k f e : Nat,
    let d : Int := 16 * (e : Int) - f
    let step : Int := (filterNext k f e : Int) - f
    ((2 : Int) ^ k ≤ 2 * |d| → 2 * |d - 2 ^ k * step| ≤ 2 ^ k ∧ (2 * |d - 2 ^ k * step| = 2 ^ k → |d| < |2 ^ k * step|)) ∧
    (0 < d → 2 * |d| < 2 ^ k → step = 1) ∧ (d < 0 → 2 * |d| < 2 ^ k → step = -1) ∧ (d = 0 → step = 0) ∧
    (f ≤ 16 * e → f ≤ filterNext k f e ∧ filterNext k f e ≤ 16 * e) ∧
    (16 * e ≤ f → 16 * e ≤ filterNext k f e ∧ filterNext k f e ≤ f) ∧
    ∃ n, (fun x => filterNext k x e)^[n] f = 16 * e ∧ valueOf (16 * e) = e

/-- R10: a reading above the band status extends the run: N rises, m is the least band seen, and at C the status becomes m. So from N
at 0 a run of C readings all above the status leaves the lowest band seen in it, and a shorter run leaves the status. R11, R12: a
reading at or below the status leaves the highest band j up to it of which V is within hysteresis, or NORMAL, with the run broken;
from NO DATA, WARMUP or FAULT the raw band is the status at once. R10: the override gives TRIP at once. -/
def Obligations.StatusesRiseConfirmedAndFallAtOnce : Prop :=
  (∀ (c : ChanCfg) (x : Channel) (s : Nat) (run : List (Nat × Nat)) (low : Nat),
    bandOf x.status = some s → x.n = 0 → (∀ r ∈ run, s < r.1 ∧ r.1 ≤ 3) → (run.map (·.1)).min? = some low →
    (run.length = c.confirm → updates c run x = { x with status := bandStatus low, n := 0, m := none }) ∧
    (run.length < c.confirm → updates c run x = { x with n := run.length, m := some low })) ∧
  ∀ (c : ChanCfg) (x : Channel) (b0 v : Nat),
    (∀ s, bandOf x.status = some s → s < b0 →
      let m := if x.n = 0 then b0 else min (x.m.getD b0) b0
      statusUpdate c false b0 v x = if c.confirm ≤ x.n + 1 then { x with status := bandStatus m, n := 0, m := none }
        else { x with n := x.n + 1, m := some m }) ∧
    (∀ s, bandOf x.status = some s → b0 ≤ s →
      ∃ j, j ≤ s ∧ (j = 0 ∨ withinHyst c.kind c.hyst v (threshold c j) = true) ∧
        (∀ i, j < i → i ≤ s → withinHyst c.kind c.hyst v (threshold c i) = false) ∧
        statusUpdate c false b0 v x = { x with status := bandStatus j, n := 0, m := none }) ∧
    (bandOf x.status = none → statusUpdate c false b0 v x = { x with status := bandStatus b0, n := 0, m := none }) ∧
    statusUpdate c true 3 v x = { x with status := .trip, n := 0, m := none }

/-- R6, R14, R15, R202: a READING on an UP GAS spur is taken by the in-use entry bound to it. WARMUP and FAULT set the stale
count to 0, the status, N and m, and nothing else; a raw value above 4095 or a quality above 2 is a FAULT reading; a GOOD
reading is the entry's own stages. No other entry changes, and where the status stays nothing else of the node does. R21: a changed
status marks CHANNEL when its source is pending or it differs from the last reported one. R19, R36: TRIP entered with trip enabled gives
the latch the cause CHANNEL TRIP, FAULT entered with fault trips set CHANNEL FAULT, and any other change of status no cause. With no entry
bound, no channel changes. -/
def Obligations.ReadingUpdatesItsEntryAlone : Prop :=
  (∀ (s : State) (p : SpurId) (sub raw q : Nat) (c : ChanId), s.powered = true → NoNotices s → s.spurUpAs .gas p = true →
    s.chanFor p sub = some c →
    let old := s.air.get c
    ∃ (t : State) (x : Channel), exec (.reading p sub raw q) s = .next t ∧ t.air = s.air.put c x ∧
      (raw ≤ 4095 → q = 0 → x = goodReading (s.working.channels.get c) raw old ∧ x.stale = 0) ∧
      (raw ≤ 4095 → q = 1 → x = { old with stale := 0, status := .warmup, n := 0, m := none }) ∧
      (4095 < raw ∨ 2 ≤ q → old.status ≠ .fault → x = { old with stale := 0, status := .fault, n := 0, m := none }) ∧
      (4095 < raw ∨ 2 ≤ q → old.status = .fault → x = { old with stale := 0 }) ∧
      outsideActions t = outsideActions ((heard p s).setChan c x) ∧
      (x.status = old.status → t = (heard p s).setChan c x) ∧
      (x.status ≠ old.status →
        let cfg := s.working.channels.get c
        (x.status = .trip → cfg.tripOn = true → LatchTook (.channelTrip c) s t) ∧
        (x.status = .fault → cfg.faultTrips = true → LatchTook (.channelFault c) s t) ∧
        (Quiet s →
          t.held (.channel c) = (if (s.held (.channel c)).isSome = true ∨ x.status ≠ old.lastReported then markHeld (s.held (.channel c))
            else none) ∧
          (¬ (x.status = .trip ∧ cfg.tripOn = true) → ¬ (x.status = .fault ∧ cfg.faultTrips = true) → LatchStood s t)))) ∧
  (∀ (s : State) (p : SpurId) (sub raw q : Nat), s.powered = true → NoNotices s → s.spurUpAs .gas p = true →
    s.chanFor p sub = none → exec (.reading p sub raw q) s = .next (heard p s))

/-- R16, R18, R19: when an in-use entry's stale count has reached its limit the entry enters FAULT, unless it stands there. R21: that marks
CHANNEL when its source is pending or FAULT is not its last reported status. R36: with fault trips set the latch takes the cause CHANNEL
FAULT, and otherwise none. The expiry before its limit, which the manual does not have, changes
nothing: the model's choice (log entry 6). -/
def Obligations.StaleExpiryEntersFault : Prop :=
  ∀ (s : State) (c : ChanId), s.powered = true → NoNotices s →
    (s.staleDue c = true → (s.air.get c).status ≠ .fault →
      ∃ t, exec (.staleExpiry c) s = .next t ∧
        t.air = s.air.put c { s.air.get c with status := .fault, n := 0, m := none } ∧
        outsideActions t = outsideActions (s.setChan c { s.air.get c with status := .fault, n := 0, m := none }) ∧
        ((s.working.channels.get c).faultTrips = true → LatchTook (.channelFault c) s t) ∧
        (Quiet s →
          t.held (.channel c) = (if (s.held (.channel c)).isSome = true ∨ (s.air.get c).lastReported ≠ .fault
            then markHeld (s.held (.channel c)) else none) ∧
          ((s.working.channels.get c).faultTrips = false → LatchStood s t))) ∧
    (s.staleDue c = false ∨ (s.air.get c).status = .fault → exec (.staleExpiry c) s = .next s)

/-! ## Levels, the latch, contacts and outputs -/

/-- R41, R42, R36: a contact input that has differed for 3 samples changes its active state, its run count returns to 0, and an input of
role TRIP that becomes active gives the latch the cause CONTACT; another change gives none. A change commanded before that, or in role
NONE, leaves the state as it is: the model's choice (log entry 6). -/
def Obligations.ContactChangeActsByRole : Prop :=
  ∀ (s : State) (i : PairIx), s.powered = true → NoNotices s →
    let c := s.level.contacts.get i
    let l := { s.level with contacts := s.level.contacts.put i { active := !c.active, run := 0 } }
    (s.roleInForce i ≠ .none → c.run = 3 →
      ∃ t, exec (.contactChange i) s = .next t ∧ t.level.contacts = l.contacts ∧
        outsideActions t = outsideActions (s.setLevel l) ∧
        (s.roleInForce i = .trip → c.active = false → LatchTook (.contact i) s t) ∧
        (Quiet s → s.roleInForce i ≠ .trip ∨ c.active = true → LatchStood s t)) ∧
    (s.roleInForce i = .none ∨ c.run ≠ 3 → exec (.contactChange i) s = .next s)

/-- R39, R40, R199: with access, TRIP PREPARE sets the flag. TRIP RESET is refused with its unmet conditions while the flag was clear, a
channel is not clear of TRIP, a TRIP contact is active or STORE FAULT stands, and then changes nothing but what taking it does; otherwise
it clears the latch, its causes and its first cause, the output follows the ordered level, and R38: ISOLATION is marked, and again for a
change of the output. In the reply's contact octet input 1 is bit 0 and input 2 bit 1: the model's choice (log entry 47). With the latch
already clear an accepted TRIP RESET marks no source: the model's reading (log entry 31). -/
def Obligations.TripResetNeedsItsConditions : Prop :=
  (∀ (h : OrderHdr) (s : State), Takes h s → s.access = true →
    exec (.tripPrepare h) s = .next (replied h 15 .done [] ((taken 15 s).setMgmt { (taken 15 s).mgmt with prepare := true }))) ∧
  (∀ (h : OrderHdr) (s : State), Takes h s → s.access = true →
    (s.mgmt.prepare = false ∨ s.channelsUnmet = true ∨ s.contactsUnmet = true ∨ s.mgmt.storeFault = true →
      exec (.tripReset h) s = .next (replied h 16 .notReady
        (octet ((if s.mgmt.prepare then 0 else 1) + (if s.channelsUnmet then 2 else 0) + (if s.contactsUnmet then 4 else 0) +
            (if s.mgmt.storeFault then 8 else 0)) ::
          (chanSet s.blocksReset ++ [octet ((if s.tripContact 0 then 1 else 0) + (if s.tripContact 1 then 2 else 0))]))
        (taken 16 s))) ∧
    (s.mgmt.prepare = true → s.channelsUnmet = false → s.contactsUnmet = false → s.mgmt.storeFault = false →
      ∃ t, exec (.tripReset h) s = .next t ∧ outsideActions t = outsideActions (replied h 16 .done [] (taken 16 s)) ∧
        (s.level.latch = false → t = replied h 16 .done [] (taken 16 s)) ∧
        (s.level.latch = true → Quiet s →
          t.level.latch = false ∧ t.level.causes = [] ∧ t.level.firstCause = none ∧
            t.level.output = decide (3 ≤ s.orderedLevel.val) ∧ t.level.accumulated = s.level.accumulated ∧
            t.held .isolation = marked (1 + count (s.level.output ≠ decide (3 ≤ s.orderedLevel.val))) (s.held .isolation) ∧
            outsideLevel t = outsideLevel (replied h 16 .done [] (taken 16 s)))))

/-- R45, R44, R46: with access, OUTPUT SET sets the force of its output and its drive follows, an output or a force out of
range being INVALID; LEVEL CLEAR sets the hold to 0. R110, R124: where that takes the effective level below TRIP, each configured
master in FREE or HELD serves its waits. -/
def Obligations.OutputSetAndLevelClear : Prop :=
  (∀ (h : OrderHdr) (o f : Nat) (s : State), Takes h s → s.access = true →
    (∀ (k : PairIx) (x : Force), identIx 2 o = some k → forceOf f = some x →
      ∃ t, exec (.outputSet h o f) s = .next t ∧
        t.level.force = s.level.force.put k x ∧
        t.level.drive.get k = (match x with
          | .on => true
          | .off => false
          | .follow => match s.working.commission.outLevels.get k with
            | some l => decide (l.val ≤ s.level.effective.val)
            | none => false) ∧
        (∀ j, j ≠ k → t.level.drive.get j = s.level.drive.get j) ∧
        t = { replied h 22 .done [] (taken 22 s) with
          level := { s.level with force := t.level.force, drive := t.level.drive }
          mgmt := { (replied h 22 .done [] (taken 22 s)).mgmt with holding := t.mgmt.holding } }) ∧
    (identIx 2 o = none ∨ forceOf f = none → exec (.outputSet h o f) s = .next (replied h 22 .invalid [] (taken 22 s)))) ∧
  (∀ (h : OrderHdr) (s : State), Takes h s → s.access = true →
    ∃ t, exec (.levelClear h) s = .next t ∧ outsideActions t = outsideActions (replied h 20 .done [] (taken 20 s)) ∧
      (Quiet s → outsideLevel t = outsideLevel ((replied h 20 .done [] (taken 20 s)).setLevel { s.level with hold := 0 })) ∧
      (Quiet s → 3 ≤ s.level.effective.val → t.level.effective.val < 3 → ∀ i,
        (s.isMaster i = true → (s.master i).state = .free ∨ (s.master i).state = .held → Served i t (s.master i) (t.master i)) ∧
        (s.isMaster i = false ∨ (s.master i).state ≠ .free ∧ (s.master i).state ≠ .held → t.master i = s.master i)) ∧
      (Quiet s → s.level.effective.val < 3 ∨ 3 ≤ t.level.effective.val → ∀ i, t.master i = s.master i))

/-! ## The roadway line -/

/-- R47, R49, R51, R52, R63, R68 to R71, R163: in a cycle the node sends 32 good cells in slot order on each port: the management cells
that wait, the segment cells with the head of the port's queue, and what each Slot Map entry decided (a slot in which no cell arrived
having been handled as vacant), with a frame on each spur that is not OFF: on an UP VOICE spur its voice field is the bridged handset's
voice, or what was dropped for it, or idle, and on every other the idle pattern. R55, R58, R59, R165: the changes that the end of the
cycle completes come first, each as its own command makes it, so that the cells and frames sent already show a port that is LOST or UP and
a spur that is DOWN. The number in the inbye-travelling cell is that of the next cycle (log entry 8), and what arrived, or was filled, in
the cycle whose end makes a port LOST is still sent (log entry 54): the model's choices. So is it that the silence count of an OFF spur
does not rise (log entry 65). R55: a port without a valid segment cell counts a miss, or
breaks its good run. R50: a cycle in which no segment cell gave the number adds 1 to it, at the cycle's end: the model's choice (log entry
49). R57, R118: the window and the block period move on. R16, R41, R101, R113, R148, R156, R164, R178, R180, R187: each count moves by one
where it runs, up to its limit. That a run of contact samples stands at 3 whatever is sampled, that a window's end stays due until its
command, and the order of the changes at the cycle's end, are the model's choices (log entry 6). Nothing else changes. -/
def Obligations.LineCycleSendsAndCounts : Prop :=
  ∀ (a b : Bool) (s0 : State), s0.powered = true → NoNotices s0 →
    let s := atCycleEnd s0
    ∃ t, exec (.lineCycle a b) s0 = .next t ∧
      -- what is sent
      (let voice (p : SpurId) : List Octet := ((s.spurs.get p).endCycle.voice).getD idleVoice
       let voiceOf (r : RecId) : List Octet :=
         if (s.call r).state = .connected then (match (s.call r).origin with | some p => voice p | none => idleVoice) else idleVoice
       let carried (e : SlotEntry) : Option (List Octet) := match e.out with
         | some .vacant => none
         | some (.cell pl) => some pl
         | some (.voice p) => some (voice p)
         | none => e.add.map voiceOf
       t.pins.inbyeTx.length = 32 ∧ t.pins.outbyeTx.length = 32 ∧
       (∀ k (h : k < t.pins.inbyeTx.length), cellGood t.pins.inbyeTx[k] = true ∧ cellSlot t.pins.inbyeTx[k] = k) ∧
       (∀ k (h : k < t.pins.outbyeTx.length), cellGood t.pins.outbyeTx[k] = true ∧ cellSlot t.pins.outbyeTx[k] = k) ∧
       t.pins.inbyeTx[0]? = some (wireCell 0 s.mgmt.toInbye) ∧ t.pins.outbyeTx[0]? = some (wireCell 0 s.mgmt.toOutbye) ∧
       t.pins.inbyeTx[1]? = some (wireCell 1 (some (segPayload (s.line.outPort.up && s.line.rxSurface) (s.line.position.getD 63)
         ((t.line.cycle + 1) % 65536) (if s.line.outPort.up then s.line.rxOrdered else s.level.ordered) s.line.inPort.queue.head?))) ∧
       t.pins.outbyeTx[1]? = some (wireCell 1 (some (segPayload s.line.endOfLine (s.line.position.getD 63) 0 s.merged
         s.line.outPort.queue.head?))) ∧
       (∀ sl : Slot, t.pins.inbyeTx[sl.val + 2]? = some (wireCell (sl.val + 2) (carried (s.slots.map.get (slotIx .inbye sl)))) ∧
         t.pins.outbyeTx[sl.val + 2]? = some (wireCell (sl.val + 2) (carried (s.slots.map.get (slotIx .outbye sl))))) ∧
       (∀ p, (t.pins.spurTx.get p).isSome = ((s.spurs.get p).state != .off)) ∧
       (∀ p f, t.pins.spurTx.get p = some f → frameGood f = true ∧
         f = wireFrame ((s.spurs.get p).state == .down || (s.spurs.get p).state == .starting) (frameVoice f) (s.frameMessage p) ∧
         (s.spurUpAs .voice p = true →
           (∀ q, bridgedTo s.slots.bridge p = some q → frameVoice f = padTo 32 (voice q)) ∧
           (bridgedTo s.slots.bridge p = none →
             let silent : Prop := ∃ e r, (s.slots.map.get e).out = none ∧ (s.slots.map.get e).drop = some r ∧ (s.call r).origin = some p
             (silent → frameVoice f = idleVoice) ∧ (¬ silent → frameVoice f = padTo 32 ((s.spurs.get p).dropVoice.getD idleVoice)))) ∧
         (s.spurUpAs .voice p = false → frameVoice f = idleVoice))) ∧
      -- what is counted
      t.line.cycle = (if s.line.cycleTaken then s.line.cycle else (s.line.cycle + 1) % 65536) ∧
      (∀ d, let x := s.port d
        t.port d = { x with
          queue := x.queue.drop 1, segSeen := false
          miss := if x.up = true ∧ x.segSeen = false then bump 8 x.miss else x.miss
          good := if x.up = false ∧ x.segSeen = false then 0 else x.good }) ∧
      t.line.windowPos = (s.line.windowPos + 1) % 250 ∧ t.line.windowDue = (s.line.windowDue || s.line.windowPos == 249) ∧
      (∀ i, t.level.contacts.get i =
        let c := s.level.contacts.get i
        let closed := if i = 0 then a else b
        if s.roleInForce i = .none ∨ c.run = 3 then c else { c with run := if closed = c.active then 0 else bump 3 c.run }) ∧
      (∀ c, t.air.get c = { s.air.get c with stale := if s.chanUsed c && (s.air.get c).stale < (s.working.channels.get c).staleLimit * 250
        then (s.air.get c).stale + 1 else (s.air.get c).stale }) ∧
      (∀ e, let x := s.slots.map.get e
        t.slots.map.get e = { x with
          out := none
          continuity := match x.drop, x.out with
            | some r, none =>
              if (s.call r).state = .connected then (if x.continuity = 125 then 125 else bump 125 x.continuity) else 0
            | _, _ => x.continuity }) ∧
      (∀ r, t.call r = { s.call r with timer := (s.call r).timer.map (fun k =>
        if s.timerRuns (s.call r) = true ∧ k < timerLimit (s.call r) then k + 1 else k) }) ∧
      (∀ i, t.farEnd i = s.farEnd i ∧
        let older (x : Truck) : Truck := { x with age := bump ((s.working.blocks.get i).transit * 250) x.age }
        t.master i = if s.isMaster i then { s.master i with list := (s.master i).list.map older, faults := (s.master i).faults.map older }
          else s.master i) ∧
      t.blocks.period = (s.blocks.period + 1) % 250 ∧
      t.action.stopTrucks = s.action.stopTrucks - 1 ∧
      t.action.headDelay = (match s.action.queue with
        | (_, .delay d) :: _ => bump (d * 250) s.action.headDelay
        | _ :: _ => bump 900000 s.action.headDelay
        | [] => s.action.headDelay) ∧
      (∀ p, let x := s.spurs.get p
        t.spurs.get p = if x.state = .off then { x with heard := false, dropVoice := none } else { x with
          heard := false, dropVoice := none, ack := none
          queue := if x.ack.isSome then x.queue else x.queue.drop 1
          voice := if x.heard then x.voice else none
          silence := if x.heard then x.silence else bump 500 x.silence }) ∧
      t.mgmt = { s.mgmt with
        toInbye := none, toOutbye := none, spacing := bump s.working.commission.spacing s.mgmt.spacing
        period := if s.mgmt.accessOpen then s.mgmt.period - 1 else s.mgmt.period
        write := s.mgmt.write.map fun w => { w with elapsed := bump 125 w.elapsed } } ∧
      t = { s with
        pins := t.pins
        line := { s.line with
          inPort := t.line.inPort, outPort := t.line.outPort, cycle := t.line.cycle, cycleTaken := false
          windowPos := t.line.windowPos, windowDue := t.line.windowDue }
        level := { s.level with contacts := t.level.contacts }, air := t.air, slots := { s.slots with map := t.slots.map }
        calls := { s.calls with recs := t.calls.recs }
        blocks := { s.blocks with entries := t.blocks.entries, period := t.blocks.period, turnOpen := true }
        action := { s.action with headDelay := t.action.headDelay, stopTrucks := t.action.stopTrucks }
        spurs := t.spurs, mgmt := t.mgmt }

/-- R48, R29, R50, R51, R54, R55, R59, R60: the cell whose expected slot at a port is 1, the segment cell. In HUNT a good cell fixes the
frame and is taken no further. At a FRAMED port an errored one is counted, and a vacant one breaks the run of errors. A valid occupied one
at the outbye port that is UP gives the node its cycle number, its position, the autonomous condition and, with SURFACE PRESENT set, the
ordered levels; R52, R31: at the inbye port it gives the inbye neighbour's position and end-of-line flag and the received merged levels.
R65: each change of the position, of the autonomous condition and of the inbye neighbour's fields marks LINE. R64: its neighbour message
is then handed over, as that message's own command is, the changes that the cell's fields handed over having been taken (log entry 9). At
a LOST port its fields are not taken, and it counts toward the good run; a second one in a cycle counts nothing more. A return to HUNT
that is due comes before the cell (log entry 6). -/
def Obligations.SegmentCellsAreTaken : Prop :=
  ∀ (d : Side) (place : Fin 32) (c : List Octet) (s : State), s.powered = true → NoNotices s → (found (s.port d)).expected place.val = 1 →
    let x := found (s.port d)
    let row := cellRow d place c
    let pl := cellPayload c
    let handedOn (u : State) : Host.Outcome State Fault Refusal := match segMessage pl with
      | some m => if m.port = d then exec m.command (settle u) else .next (settle u)
      | none => .next (settle u)
    (x.framed = false → exec row s = .next (s.setPort d
      (if cellGood c then { x with framed := true, errRun := 0, shift := (cellSlot c + 32 - place.val) % 32 } else x))) ∧
    (x.framed = true → cellGood c = false ∨ cellSlot c ≠ 1 → exec row s = .next (s.setPort d
      { x with errRun := bump 32 x.errRun, total := bump 65535 x.total, window := bump 8000 x.window })) ∧
    (x.framed = true → cellGood c = true → cellSlot c = 1 → cellOccupied c = false →
      exec row s = .next (s.setPort d { x with errRun := 0 })) ∧
    (x.framed = true → cellGood c = true → cellSlot c = 1 → cellOccupied c = true →
      (x.up = true → ∃ u, exec row s = handedOn u ∧
        (d = .outbye → u.line.cycle = segCycle pl ∧ u.line.position = (if 62 ≤ segSender pl then none else some (segSender pl + 1)) ∧
          u.line.autonomous = !segFlag pl ∧
          (segFlag pl = true → u.level.ordered = segLevels pl ∧ u.level.received = true) ∧
          (segFlag pl = false → u.level.ordered = s.level.ordered ∧
            u.level.received = if s.line.autonomous then s.level.received else false) ∧
          u.held .line = marked (count (u.line.position ≠ s.line.position) + count (s.line.autonomous ≠ !segFlag pl)) (s.held .line) ∧
          outsideLevel u = outsideLevel { s with
            line := { s.line with
              outPort := { x with errRun := 0, miss := 0, segSeen := true }, cycle := segCycle pl, cycleTaken := true
              rxSurface := segFlag pl, rxOrdered := segLevels pl, position := u.line.position, autonomous := !segFlag pl }
            level := { s.level with ordered := u.level.ordered, received := u.level.received }
            mgmt := if s.line.autonomous = false ∧ segFlag pl = false then rewindProgress s.mgmt else s.mgmt }) ∧
        (d = .inbye →
          u.held .line = marked (count (¬ (s.line.inbyePos = some (segSender pl) ∧ s.line.inbyeEol = some (segFlag pl)))) (s.held .line) ∧
          outsideLevel u = outsideLevel { s with line := { s.line with
            inPort := { x with errRun := 0, miss := 0, segSeen := true }, rxMerged := segLevels pl, inbyePos := some (segSender pl)
            inbyeEol := some (segFlag pl) } })) ∧
      (x.up = false → exec row s = .next (s.setPort d
        (if x.segSeen then { x with errRun := 0 }
          else { x with errRun := 0, good := bump 16 x.good, segSeen := true, heldCell := pl }))))

/-- R48, R49, R68 to R73: a cell whose expected slot is a traffic slot. It is VACANT from a port that is LOST or in HUNT, and errored when
its check or its slot is wrong. PASS sends the payload on; DROP sends a vacant cell and gives the payload to the handset of a
CONNECTED owner; ADD sends the voice of the owner's handset while it is CONNECTED and the idle pattern before, and an occupied arrival
is a collision, which is counted and marks LINE (R65, R72). No other spur, entry or report source changes, and nothing else does. That the
continuity count stays at 125 until its command, and that a return to HUNT that is due comes before the cell, are the model's choices
(log entry 6); so is it that a slot handed over in HUNT may be handed over again in the cycle in which its port frames (log entry 10). -/
def Obligations.TrafficCellFollowsItsMode : Prop :=
  ∀ (d : Side) (place : Fin 32) (sl : Slot) (c : List Octet) (s : State), s.powered = true → NoNotices s →
    (found (s.port d)).expected place.val = sl.val + 2 →
    let x := found (s.port d)
    let e := slotIx (travelFrom d) sl
    let y := s.slots.map.get e
    ∃ (t : State) (a : Arrival), exec (cellRow d place c) s = .next t ∧
      (x.framed = false ∨ x.up = false → a = .vacant) ∧
      (x.framed = true → x.up = true → cellGood c = true → cellSlot c = sl.val + 2 →
        a = if cellOccupied c then .occupied (cellPayload c) else .vacant) ∧
      (x.framed = true → x.up = true → (cellGood c = false ∨ cellSlot c ≠ sl.val + 2) → a = .errored) ∧
      (y.mode = .pass → (t.slots.map.get e).out = some (match a with | .occupied pl => .cell pl | _ => .vacant)) ∧
      (y.mode = .dropOnly → (t.slots.map.get e).out = some .vacant) ∧
      (∀ r, y.add = some r → (t.slots.map.get e).out = some (match (s.call r).origin with
        | some p => if (s.call r).state = .connected then .voice p else .cell idleVoice
        | none => .cell idleVoice)) ∧
      (t.slots.map.get e).continuity = (match y.drop with
        | some r => if (s.call r).state = .connected
          then (if y.continuity = 125 then 125 else match a with | .occupied _ => 0 | _ => bump 125 y.continuity) else 0
        | none => y.continuity) ∧
      (t.slots.map.get e).drop = y.drop ∧ (t.slots.map.get e).add = y.add ∧
      (∀ e', e' ≠ e → t.slots.map.get e' = s.slots.map.get e') ∧
      (∀ p, t.spurs.get p = match y.drop with
        | some r => if (s.call r).origin = some p
          then { s.spurs.get p with dropVoice := some (match a with
            | .occupied pl => if (s.call r).state = .connected then pl else idleVoice
            | _ => idleVoice) }
          else s.spurs.get p
        | none => s.spurs.get p) ∧
      (let collides : Bool := match y.mode, a with | .addOnly, .occupied _ => true | _, _ => false
       t.slots.collisions = (if collides then bump 65535 s.slots.collisions else s.slots.collisions) ∧
       t.mgmt = if collides then { s.mgmt with holding := s.mgmt.holding.put Source.line.ix (markHeld (s.held .line)) } else s.mgmt) ∧
      (t.port d = x.arrive place.val c ∧
        (x.framed = false → t.port d = if cellGood c
          then { x with framed := true, errRun := 0, shift := (cellSlot c + 32 - place.val) % 32 } else x) ∧
        (x.framed = true → cellGood c = true → cellSlot c = sl.val + 2 → t.port d = { x with errRun := 0 }) ∧
        (x.framed = true → (cellGood c = false ∨ cellSlot c ≠ sl.val + 2) → t.port d =
          { x with errRun := bump 32 x.errRun, total := bump 65535 x.total, window := bump 8000 x.window })) ∧
      t = { s.setPort d (t.port d) with
        slots := { s.slots with map := t.slots.map, collisions := t.slots.collisions }, spurs := t.spurs, mgmt := t.mgmt }

/-- R48, R57: a cell whose check or slot is wrong at a FRAMED port, in whatever place, raises the run count, the total and the window
count, and so does a slot 1 cell that arrives errored; 32 in a row return the port to HUNT (the run count staying as it is: log entry 22),
by FRAMING_LOST or, before the next cell is judged, by itself (log entry 6). The first good cell in HUNT fixes the frame: its slot number
is its place, and the expected slots follow in order from it. A window's end sets or clears DEGRADED by the threshold, marks LINE for a
change (R65), and starts the count again. FRAMING_LOST and WINDOW_END that are not due leave the state as it is: the model's choice (log
entry 6). -/
def Obligations.ErroredCellsAndWindows : Prop :=
  ∀ (d : Side) (s : State), s.powered = true → NoNotices s →
    let x0 := s.port d
    let x := found x0
    (x.framed = true → exec (.erroredSegmentCell d) s =
      .next (s.setPort d { x with errRun := bump 32 x.errRun, total := bump 65535 x.total, window := bump 8000 x.window })) ∧
    (x.framed = false → exec (.erroredSegmentCell d) s = .next (s.setPort d x)) ∧
    (x0.framed = true → x0.errRun = 32 → exec (.framingLost d) s = .next (s.setPort d { x0 with framed := false, shift := 0 })) ∧
    (x0.framed = false ∨ x0.errRun ≠ 32 → exec (.framingLost d) s = .next s) ∧
    (∀ (place : Fin 32) (c : List Octet),
      ∃ t, exec (cellRow d place c) s = .next t ∧
        (x.framed = false → cellGood c = true →
          t.port d = { x with framed := true, errRun := 0, shift := (cellSlot c + 32 - place.val) % 32 } ∧
          ∀ k, (t.port d).expected (place.val + k) = (cellSlot c + k) % 32) ∧
        (x.framed = false → cellGood c = false → t.port d = x) ∧
        (x.framed = true → cellGood c = false ∨ cellSlot c ≠ x.expected place.val → t.port d =
          { x with errRun := bump 32 x.errRun, total := bump 65535 x.total, window := bump 8000 x.window })) ∧
    (s.line.windowDue = true → ∃ t, exec .windowEnd s = .next t ∧
      t.port d = { x0 with degraded := decide (s.working.commission.threshold < x0.window), window := 0 } ∧
      (let changed (y : LinePort) : Prop := y.degraded ≠ decide (s.working.commission.threshold < y.window)
       t.held .line = marked (count (changed s.line.inPort) + count (changed s.line.outPort)) (s.held .line)) ∧
      (∀ k, k ≠ Source.line.ix → t.mgmt.holding.get k = s.mgmt.holding.get k) ∧
      t = { s with
        line := { s.line with inPort := t.line.inPort, outPort := t.line.outPort, windowDue := false }
        mgmt := { s.mgmt with holding := t.mgmt.holding } }) ∧
    (s.line.windowDue = false → exec .windowEnd s = .next s)

/-- R55, R56, R58, R59, R62, R175: 8 misses in a row make an UP port LOST, with its queue empty: in the cycle that is the eighth, which
the command ends for the port (log entry 6). R65: the change marks LINE, and so does each condition of the line that it changes. The inbye
port's loss makes the node the end of the line, with no inbye neighbour recorded, and R117, R120: each configured master, its far ready
clear, enters FAULT unless it stands there. The outbye port's makes it autonomous, holds its ordered levels and discards a partial order,
and R117, R121: each configured far entry shows FAULT in its mirror, has its local fault set and is no longer ready, which the node
records as the readiness sent though the STATE that says so is discarded: the model's choice (log entry 51). PORT_LOST that is not due
leaves the state as it is: the model's choice (log entry 6). -/
def Obligations.PortLostAfterEightMisses : Prop :=
  ∀ (d : Side) (s : State), s.powered = true → NoNotices s →
    let x := s.port d
    (eighthMiss x →
      ∃ t, exec (.portLost d) s = .next t ∧ (t.port d).queue = [] ∧
        (Quiet s → t.held .line = marked (1 + match d with
          | .inbye => count (s.line.endOfLine = false) + count (¬ (s.line.inbyePos = none ∧ s.line.inbyeEol = none))
          | .outbye => count (s.line.autonomous = false)) (s.held .line)) ∧
        (d = .inbye → outsideActions t = outsideActions { s with line := { s.line with
          inPort := { x with up := false, miss := 0, good := 0, queue := [] }, endOfLine := true, inbyePos := none, inbyeEol := none } }) ∧
        (d = .outbye → outsideActions t = outsideActions { s with
          line := { s.line with outPort := { x with up := false, miss := 0, good := 0, queue := [] }, autonomous := true }
          level := { s.level with received := if s.line.autonomous then s.level.received else false }
          mgmt := t.mgmt } ∧
          t.mgmt.asm = none ∧ t.mgmt.malformed = (if s.mgmt.asm.isSome then bump16 s.mgmt.malformed else s.mgmt.malformed) ∧
          t.mgmt.replies = s.mgmt.replies ∧ t.mgmt.credit = s.mgmt.credit ∧ t.mgmt.accessOpen = s.mgmt.accessOpen) ∧
        (Quiet s → ∀ i, let m := s.master i; let f := s.farEnd i
          t.master i = (if d = .inbye ∧ s.isMaster i = true
            then (if m.state = .fault then { m with farReady := false }
              else { m with
                farReady := false, state := .fault, faults := m.list, faultDir := m.dir, list := [], dir := none, goTag := none })
            else m) ∧
          t.farEnd i = if d = .outbye ∧ s.isFar i = true
            then { f with
              mirror := { f.mirror with state := .fault }, localFault := true
              readySent := if s.farReadyNow i then false else f.readySent }
            else f)) ∧
    (¬ eighthMiss x → exec (.portLost d) s = .next s)

/-- R55, R56, R58, R60: 16 good cycles in a row make a LOST port UP, and the cell that completed the run is taken: at the inbye
port it gives the neighbour's fields and the merged levels and ends end-of-line operation, at the outbye port the cycle
number, the position and the autonomous condition. R65: the change marks LINE, and so does each of those that changes. PORT_UP that is not
due leaves the state as it is: the model's choice (log
entry 6). -/
def Obligations.PortUpTakesTheCompletingCell : Prop :=
  ∀ (d : Side) (s : State), s.powered = true → NoNotices s →
    let x := s.port d
    let pl := x.heldCell
    (x.up = false → x.good = 16 →
      ∃ t, exec (.portUp d) s = .next t ∧ (t.port d).up = true ∧ (t.port d).miss = 0 ∧ (t.port d).good = 0 ∧
        (Quiet s → t.held .line = marked (1 + match d with
          | .inbye => count (s.line.endOfLine = true) +
              count (¬ (s.line.inbyePos = some (segSender pl) ∧ s.line.inbyeEol = some (segFlag pl)))
          | .outbye => count (t.line.position ≠ s.line.position) + count (s.line.autonomous ≠ !segFlag pl)) (s.held .line)) ∧
        (d = .inbye → outsideActions t = outsideActions { s with line := { s.line with
          inPort := { x with up := true, miss := 0, good := 0, heldCell := [] }, endOfLine := false, rxMerged := segLevels pl
          inbyePos := some (segSender pl), inbyeEol := some (segFlag pl) } }) ∧
        (d = .outbye → t.line.cycle = segCycle pl ∧ t.line.autonomous = !segFlag pl ∧
          t.line.position = (if 62 ≤ segSender pl then none else some (segSender pl + 1)) ∧
          (segFlag pl = true → t.level.ordered = segLevels pl ∧ t.level.received = true) ∧
          t.line.inPort.up = s.line.inPort.up ∧ t.working.commission = s.working.commission ∧ t.air = s.air ∧ t.store = s.store)) ∧
    (x.up = true ∨ x.good ≠ 16 → exec (.portUp d) s = .next s)

/-! ## Calls -/

/-- R82, R85, R79, R99: a handset lifted with nothing ringing it takes the lowest IDLE record, or else the oldest CLEARED one: it
is COLLECTING with the next call number, the handset as origin, its priority (0 for a refuge handset) and no digits, and DIAL
is sent; no other record changes. With none to take the call is refused and counted, with CONGESTION. An OFFHOOK taken while
off hook changes nothing. -/
def Obligations.OffhookTakesARecord : Prop :=
  ∀ (p : SpurId) (s : State), s.powered = true → NoNotices s → s.spurUpAs .voice p = true →
    (s.calls.hooks.get p = true → exec (.offhook p) s = .next (heard p s)) ∧
    (s.calls.hooks.get p = false → s.ringingDestination p = none → s.ringingLocal p = none →
      (∀ r, s.recToTake = some r →
        ∃ t, exec (.offhook p) s = .next t ∧
          (t.call r).state = .collecting ∧ (t.call r).callNo = some s.calls.counter ∧ (t.call r).role = some .origin ∧
          (t.call r).origin = some p ∧ (t.call r).digits = [] ∧ (t.call r).timer = some 0 ∧ (t.call r).entry = some s.line.cycle ∧
          (t.call r).priority = some (if (s.working.spurs.get p).refuge then 0 else (s.working.spurs.get p).priority) ∧
          (∀ q, q ≠ r → t.call q = s.call q) ∧
          t.calls.counter = (if s.calls.counter = 255 then 1 else s.calls.counter + 1) ∧ t.calls.hooks = s.calls.hooks.put p true ∧
          t.spurs = s.spurs.put p (offerTo .voice (.tone .dial) ((heard p s).spurs.get p)) ∧
          t = { s with calls := t.calls, spurs := t.spurs, mgmt := { s.mgmt with holding := t.mgmt.holding } }) ∧
      (s.recToTake = none →
        exec (.offhook p) s = .next { s with
          calls := { s.calls with hooks := s.calls.hooks.put p true, refused := bump 65535 s.calls.refused }
          spurs := s.spurs.put p (offerTo .voice (.tone .congestion) ((heard p s).spurs.get p)) }))

/-- R82, R73, R75: lifting a handset that a call rings connects that call; RING is turned off and the tone stopped, and the tone of the
origin of a LOCAL call too. A DESTINATION record's drop entry starts its continuity count at 0; a LOCAL pair joins the bridge. The
record's digits stand (log entry 39), and no other record changes. -/
def Obligations.OffhookAnswersTheCallThatRings : Prop :=
  ∀ (p : SpurId) (r : RecId) (s : State), s.powered = true → NoNotices s → s.spurUpAs .voice p = true → s.calls.hooks.get p = false →
    (s.ringingDestination p = some r ∨ s.ringingDestination p = none ∧ s.ringingLocal p = some r) →
    ∃ t, exec (.offhook p) s = .next t ∧
      t.call r = { s.call r with state := .connected, entry := some s.line.cycle, timer := some 0 } ∧
      (∀ q, q ≠ r → t.call q = s.call q) ∧ t.calls.hooks = s.calls.hooks.put p true ∧
      (s.ringingDestination p = some r →
        t.spurs = s.spurs.put p (offerTo .voice (.tone .silent) (offerTo .voice (.ring false) ((heard p s).spurs.get p))) ∧
        t.slots.bridge = s.slots.bridge ∧
        ∀ far sl, (s.call r).far = some far → (s.call r).slot = some sl → (t.slots.map.get (dropIx far sl)).continuity = 0) ∧
      (s.ringingDestination p = none → t.slots.map = s.slots.map ∧
        t.spurs = (tone p .silent (toneOpt (s.call r).origin .silent (offer p (.ring false) (heard p s)))).spurs ∧
        ∀ o, (s.call r).origin = some o → t.slots.bridge = s.slots.bridge ++ [(o, p)]) ∧
      t = { s with calls := t.calls, slots := t.slots, spurs := t.spurs, mgmt := { s.mgmt with holding := t.mgmt.holding } }

/-- R83, R97: a handset put down clears every in-use record of which it is the origin, and a CONNECTED LOCAL record of which it is the
destination, for cause NORMAL, with their slots and their pairs of the bridge; every other record stands. TONE NONE is sent to the spur,
and the one record that is cleared sends RING off and the tone of the cause (log entry 15 says which handsets a LOCAL call has). That a
cleared record keeps its digits is the model's choice (log entry 39). An ONHOOK taken while on hook changes nothing. -/
def Obligations.OnhookClearsTheHandsetsCalls : Prop :=
  ∀ (p : SpurId) (s : State), s.powered = true → NoNotices s → s.spurUpAs .voice p = true →
    (s.calls.hooks.get p = false → exec (.onhook p) s = .next (heard p s)) ∧
    (s.calls.hooks.get p = true →
      ∃ t, exec (.onhook p) s = .next t ∧ t.calls.hooks = s.calls.hooks.put p false ∧
        (∀ r, endsWith p (s.call r) = true →
          t.call r = { s.call r with state := .cleared, cause := some .normal, entry := some s.line.cycle, timer := some 0 } ∧
          ∀ far sl, (s.call r).live = true → (s.call r).far = some far → (s.call r).slot = some sl →
            (t.slots.map.get (addIx far sl)).add = none ∧ (t.slots.map.get (dropIx far sl)).drop = none) ∧
        (∀ r, endsWith p (s.call r) = false → t.call r = s.call r) ∧
        t.slots.bridge = (s.slots.bridge.filter fun b => !s.calls.recs.anyIx fun _ x => endsWith p x && bridges b x) ∧
        (let told := tone p .silent ((heard p s).setHook p false)
         ((∀ r, endsWith p (s.call r) = false) → t.spurs = told.spurs) ∧
         ∀ r, (∀ q, endsWith p (s.call q) = true ↔ q = r) → ∀ q, t.spurs.get q = (clearingSends (s.call r) .normal q told).spurs.get q) ∧
        t.calls.counter = s.calls.counter ∧ t.calls.refused = s.calls.refused ∧
        t = { s with calls := t.calls, slots := t.slots, spurs := t.spurs, mgmt := { s.mgmt with holding := t.mgmt.holding } })

/-- R84, R87, R88: a digit joins the digits of the handset's COLLECTING record and starts its timer again; digits that fit no number clear
it INVALID; "99" is EMERGENCY at priority 0; a station of another node is admitted, held or cleared CONGESTION by the mask and the
autonomous condition; this node's own station and a VOICE spur ring the handset, or hold or clear the call. A digit above 9, and one with
no record collecting, changes no record. That the digits stand after the record has left COLLECTING is the model's choice (log entry 39).
Which handset is busy for the ring step rests on log entry 14, and that an INVALID number of this station keeps its role and destination
spur on log entry 62. -/
def Obligations.DigitsBuildTheNumber : Prop :=
  ∀ (p : SpurId) (d : Nat) (s : State), s.powered = true → NoNotices s → s.spurUpAs .voice p = true →
    (9 < d ∨ s.collectingAt p = none → exec (.digit p d) s = .next (heard p s)) ∧
    ∀ r, d ≤ 9 → s.collectingAt p = some r → (s.call r).role = some .origin →
      let x := { s.call r with digits := (s.call r).digits ++ [d], timer := some 0 }
      let prio := (s.call r).priority.getD 0
      let clearedAs (c : ClearCause) (y : CallRec) : Prop := y.state = .cleared ∧ y.cause = some c
      ∃ t, exec (.digit p d) s = .next t ∧ CallAlone r (heard p s) t ∧ (t.call r).digits = x.digits ∧
        (dialOutcome x.digits = .wait → t.call r = x) ∧
        (dialOutcome x.digits = .bad → clearedAs .invalid (t.call r)) ∧
        (dialOutcome x.digits = .emergency →
          t.call r = { x with dialled := some .emergency, priority := some 0, state := .requested, entry := some s.line.cycle }) ∧
        (∀ n k, dialOutcome x.digits = .station n k → n ≠ s.working.commission.station →
          (t.call r).dialled = some (.station n k) ∧ (t.call r).priority = (s.call r).priority ∧
          (t.call r).state = admittedTo s prio false ∧ ((t.call r).state = .cleared → (t.call r).cause = some .congestion)) ∧
        (∀ n k q, dialOutcome x.digits = .station n k → n = s.working.commission.station → identIx 8 k = some q →
          (t.call r).role = some .localCall ∧ (t.call r).dest = some q ∧
          ((s.working.spurs.get q).type ≠ .voice → clearedAs .invalid (t.call r)) ∧
          ((s.working.spurs.get q).type = .voice →
            (s.level.mask < prio → (t.call r).state = .held) ∧
            (prio ≤ s.level.mask → q = p → clearedAs .busy (t.call r)) ∧
            (prio ≤ s.level.mask → q ≠ p → s.spurUpAs .voice q = false → clearedAs .congestion (t.call r)) ∧
            (prio ≤ s.level.mask → q ≠ p → s.spurUpAs .voice q = true → s.ringBusy r q = true → clearedAs .busy (t.call r)) ∧
            (prio ≤ s.level.mask → q ≠ p → s.spurUpAs .voice q = true → s.ringBusy r q = false → (t.call r).state = .ringing)))

/-- R85, R86, R87: a record collecting with the digits "0" completes as SURFACE after 500 cycles, and a refuge call with no digits
as EMERGENCY at priority 0 after 1250; each takes the admission test. Before its limit neither command does anything: the model's
choice (log entry 6). -/
def Obligations.NumbersCompleteByTime : Prop :=
  ∀ (r : RecId) (s : State), s.powered = true →
    let x := s.call r
    (x.state = .collecting → x.digits = [0] → 500 ≤ x.timer.getD 0 → x.role = some .origin →
      ∃ t, exec (.surfaceCompletionTimeout r) s = .next t ∧ CallAlone r s t ∧ (t.call r).dialled = some .surface ∧
        (t.call r).priority = x.priority ∧ (t.call r).state = admittedTo s (x.priority.getD 0) false ∧
        ((t.call r).state = .cleared → (t.call r).cause = some .congestion)) ∧
    (x.state ≠ .collecting ∨ x.digits ≠ [0] ∨ x.timer.getD 0 < 500 → exec (.surfaceCompletionTimeout r) s = .next s) ∧
    (x.state = .collecting → x.refuge = true → x.digits = [] → 1250 ≤ x.timer.getD 0 → x.role = some .origin →
      ∃ t, exec (.refugeEmergencyCompletion r) s = .next t ∧ CallAlone r s t ∧
        t.call r = { x with dialled := some .emergency, priority := some 0, state := .requested, entry := some s.line.cycle, timer := some 0 }) ∧
    (x.state ≠ .collecting ∨ x.refuge = false ∨ x.digits ≠ [] ∨ x.timer.getD 0 < 1250 →
      exec (.refugeEmergencyCompletion r) s = .next s)

/-- R86, R89, R101, R73: a record whose timer has reached its state's limit (COLLECTING 2500, REQUESTED 1250, HELD 30000, ALERTING 22500,
RINGING 15000 cycles) is cleared TIMEOUT; a CONNECTED record whose drop entry has counted 125 cells without voice is cleared LOST. Before
its limit a command does nothing: the model's choice (log entry 6). Which handsets a clearing tells rests on log entry 15, and that the
cleared record keeps its digits on log entry 39. -/
def Obligations.TimeoutsClearTheRecord : Prop :=
  ∀ (r : RecId) (s : State), s.powered = true →
    let x := s.call r
    let due (st : CallState) (n : Nat) (c : Instr) : Prop :=
      (x.state = st → n ≤ x.timer.getD 0 → ∃ t, exec c s = .next t ∧ CallCleared r .timeout s t) ∧
      (x.state ≠ st ∨ x.timer.getD 0 < n → exec c s = .next s)
    (x.digits ≠ [0] → (x.refuge = false ∨ x.digits ≠ []) → due .collecting 2500 (.collectingTimeout r)) ∧
    due .requested 1250 (.requestedTimeout r) ∧ due .held 30000 (.heldTimeout r) ∧ due .alerting 22500 (.alertingTimeout r) ∧
    due .ringing 15000 (.ringingTimeout r) ∧
    ∀ e, (s.slots.map.get e).drop = some r →
      (x.state = .connected → (s.slots.map.get e).continuity = 125 →
        ∃ t, exec (.continuityLoss e) s = .next t ∧ CallCleared r .lost s t) ∧
      (x.state ≠ .connected ∨ (s.slots.map.get e).continuity ≠ 125 → exec (.continuityLoss e) s = .next s)

/-- R92: CALL ASSIGN in its origin form takes a REQUESTED record to ALERTING on a free pair of the slot, both owners written, with
RINGBACK to the origin; its digits stand, the model's choice (log entry 39); a pair in use is CONFLICT, and a record that does not match
or is not REQUESTED, or a slot or far side out of range, is INVALID. -/
def Obligations.AssignOriginAlerts : Prop :=
  ∀ (h : OrderHdr) (index callNo slot far : Nat) (s : State), Takes h s →
    (∀ r sl f, s.matchCall index callNo = some r → slotOf slot = some sl → farOfCode far = some f →
      ((s.call r).state = .requested → s.pairFree f sl = true →
        ∃ t, exec (.callAssignOrigin h index callNo slot far) s = .next t ∧
          t.call r = { s.call r with state := .alerting, slot := some sl, far := some f, entry := some s.line.cycle, timer := some 0 } ∧
          (∀ q, q ≠ r → t.call q = s.call q) ∧
          (t.slots.map.get (addIx f sl)).add = some r ∧ (t.slots.map.get (dropIx f sl)).drop = some r ∧
          (t.slots.map.get (dropIx f sl)).continuity = 0 ∧
          (∀ e, e ≠ addIx f sl → e ≠ dropIx f sl → t.slots.map.get e = s.slots.map.get e) ∧
          t.spurs = (toneOpt (s.call r).origin .ringback s).spurs ∧ t.held (.call r) = markHeld (s.held (.call r)) ∧
          t = { replied h 10 .done [] (taken 10 s) with
            calls := t.calls, slots := { s.slots with map := t.slots.map }, spurs := t.spurs
            mgmt := { (replied h 10 .done [] (taken 10 s)).mgmt with holding := t.mgmt.holding } }) ∧
      ((s.call r).state = .requested → s.pairFree f sl = false →
        exec (.callAssignOrigin h index callNo slot far) s = .next (replied h 10 .conflict [] (taken 10 s))) ∧
      ((s.call r).state ≠ .requested →
        exec (.callAssignOrigin h index callNo slot far) s = .next (replied h 10 .invalid [] (taken 10 s)))) ∧
    (s.matchCall index callNo = none ∨ slotOf slot = none ∨ farOfCode far = none →
      exec (.callAssignOrigin h index callNo slot far) s = .next (replied h 10 .invalid [] (taken 10 s)))

/-- R93: CALL ASSIGN in its destination form takes a record to RINGING for an idle handset on a free pair of the slot, with RING
to the handset, and answers with the record's index and call number. Its tests come in the rule's order: INVALID, NOT READY,
BUSY, FULL (counted) and CONFLICT. -/
def Obligations.AssignDestinationRings : Prop :=
  ∀ (h : OrderHdr) (spur priority slot far : Nat) (s : State), Takes h s →
    let c : Instr := .callAssignDestination h spur priority slot far
    let refuse (r : Result) : Prop := exec c s = .next (replied h 11 r [] (taken 11 s))
    (∀ p sl f, identIx 8 spur = some p → slotOf slot = some sl → farOfCode far = some f →
      (15 < priority ∨ (s.working.spurs.get p).type ≠ .voice → refuse .invalid) ∧
      (priority ≤ 15 → (s.working.spurs.get p).type = .voice →
        (s.spurUp p = false ∨ s.level.mask < priority → refuse .notReady) ∧
        (s.spurUp p = true → priority ≤ s.level.mask →
          (s.handsetBusy p = true → refuse .busy) ∧
          (s.handsetBusy p = false →
            (s.recToTake = none → exec c s = .next (replied h 11 .full [] (countRefused (taken 11 s)))) ∧
            ∀ r, s.recToTake = some r →
              (s.pairFree f sl = false → refuse .conflict) ∧
              (s.pairFree f sl = true →
                ∃ t, exec c s = .next t ∧
                  (t.call r).state = .ringing ∧ (t.call r).role = some .destination ∧ (t.call r).origin = some p ∧
                  (t.call r).priority = some priority ∧ (t.call r).slot = some sl ∧ (t.call r).far = some f ∧
                  (t.call r).callNo = some s.calls.counter ∧ (t.call r).timer = some 0 ∧ (t.call r).entry = some s.line.cycle ∧
                  (∀ q, q ≠ r → t.call q = s.call q) ∧
                  (t.slots.map.get (addIx f sl)).add = some r ∧ (t.slots.map.get (dropIx f sl)).drop = some r ∧
                  t.calls.counter = (if s.calls.counter = 255 then 1 else s.calls.counter + 1) ∧
                  t.spurs = (offer p (.ring true) s).spurs ∧ (t.held (.call r)).isSome = true ∧
                  t = { replied h 11 .done [octet (r.val + 1), octet s.calls.counter] (taken 11 s) with
                    calls := t.calls, slots := { s.slots with map := t.slots.map }, spurs := t.spurs
                    mgmt := { (replied h 11 .done [octet (r.val + 1), octet s.calls.counter] (taken 11 s)).mgmt with
                      holding := t.mgmt.holding } })))))  ∧
    (identIx 8 spur = none ∨ slotOf slot = none ∨ farOfCode far = none → refuse .invalid)

/-- R94, R95, R96, R97: CONNECT takes an ALERTING origin record to CONNECTED and starts its continuity count, and answers DONE for one
already CONNECTED; RELEASE clears an in-use record NORMAL; REFUSE clears an origin record in REQUESTED, HELD or ALERTING for the reason
given. R97: what a clearing does (log entry 15 says which handsets it tells); the record's digits stand (log entry 39). A record already
CLEARED is DONE and stands; any other record, and one that does not match, is INVALID. -/
def Obligations.ConnectReleaseRefuse : Prop :=
  ∀ (h : OrderHdr) (index callNo reason : Nat) (s : State), Takes h s →
    (s.matchCall index callNo = none →
      exec (.callConnect h index callNo) s = .next (replied h 12 .invalid [] (taken 12 s)) ∧
      exec (.callRelease h index callNo) s = .next (replied h 13 .invalid [] (taken 13 s)) ∧
      exec (.callRefuse h index callNo reason) s = .next (replied h 14 .invalid [] (taken 14 s))) ∧
    ∀ r, s.matchCall index callNo = some r →
      let x := s.call r
      (x.state = .alerting → x.role = some .origin →
        ∃ t, exec (.callConnect h index callNo) s = .next t ∧
          t.call r = { x with state := .connected, entry := some s.line.cycle, timer := some 0 } ∧ (∀ q, q ≠ r → t.call q = s.call q) ∧
          (∀ f sl, x.far = some f → x.slot = some sl → (t.slots.map.get (dropIx f sl)).continuity = 0) ∧
          t.spurs = (toneOpt x.origin .silent s).spurs ∧ t.held (.call r) = markHeld (s.held (.call r)) ∧
          t = { replied h 12 .done [] (taken 12 s) with
            calls := t.calls, slots := { s.slots with map := t.slots.map }, spurs := t.spurs
            mgmt := { (replied h 12 .done [] (taken 12 s)).mgmt with holding := t.mgmt.holding } }) ∧
      (x.state = .connected → exec (.callConnect h index callNo) s = .next (replied h 12 .done [] (taken 12 s))) ∧
      (x.state ≠ .connected → ¬ (x.state = .alerting ∧ x.role = some .origin) →
        exec (.callConnect h index callNo) s = .next (replied h 12 .invalid [] (taken 12 s))) ∧
      (x.inUse = true → ∃ t, exec (.callRelease h index callNo) s = .next t ∧
        CallCleared r .normal (replied h 13 .done [] (taken 13 s)) t) ∧
      (x.state = .cleared → exec (.callRelease h index callNo) s = .next (replied h 13 .done [] (taken 13 s)) ∧
        exec (.callRefuse h index callNo reason) s = .next (replied h 14 .done [] (taken 14 s))) ∧
      (x.role = some .origin → x.state = .requested ∨ x.state = .held ∨ x.state = .alerting →
        ∃ t, exec (.callRefuse h index callNo reason) s = .next t ∧
          CallCleared r (match reason with | 0 => .busy | 1 => .congestion | _ => .refused) (replied h 14 .done [] (taken 14 s)) t) ∧
      (x.state ≠ .cleared → ¬ (x.role = some .origin ∧ (x.state = .requested ∨ x.state = .held ∨ x.state = .alerting)) →
        exec (.callRefuse h index callNo reason) s = .next (replied h 14 .invalid [] (taken 14 s)))

/-! ## Heading blocks and trucks -/

/-- R108, R109, R116: a claim that reaches a master, as a TAG ARRIVING on its UP truck spur or as a CLAIM at its UP inbye port, is
granted in FREE when permitted, and in HELD in the held direction when permitted, with room and with no opposing wait; in every
other case it waits, and an opposing wait turns a HELD block to DRAINING. The answer and then one STATE are posted. A duplicate
changes no field of the record. R125: the light at the master end becomes GO with a grant and STOP with a wait there; a changed light, and
the present one for a duplicate there, is sent to its UP TRUCK spur, and no other spur is sent anything. -/
def Obligations.ClaimsAreDecidedByTheTable : Prop :=
  ∀ (i : BlockIx) (e : BlockEnd) (p : SpurId) (b t : Nat) (s : State), s.powered = true → NoNotices s → Quiet s → t ≠ 0 → t ≤ 4095 →
    (e = .master → s.spurUpAs .truck p = true ∧ s.blockOfSpur p = some i ∧ (s.working.blocks.get i).role = .master) →
    (e = .far → s.line.inPort.up = true ∧ s.masterOf b = some i) →
    let c : Instr := match e with | .master => .tag p t 0 | .far => .claim b t
    let base := match e with | .master => heard p s | .far => s
    let m := s.master i
    let permitted := e = .far ∨ s.level.effective.val < 3
    let grants := permitted ∧ (m.state = .free ∨
      m.state = .held ∧ m.dir = some e.dir ∧ m.list.length < (s.working.blocks.get i).convoy ∧ m.opposed s.atTrip = false)
    ∃ u, exec c s = .next u ∧ outsideLevel u = outsideLevel base ∧
      (∀ j, j ≠ i → u.blocks.entries.get j = s.blocks.entries.get j) ∧ u.farEnd i = s.farEnd i ∧
      (m.knows t = true → u.master i = m) ∧
      (m.knows t = false → grants →
        u.master i = { m with
          list := m.list ++ [{ tag := t, cycle := s.line.cycle, age := 0, overdue := false }], dir := some e.dir
          state := if m.state = .free then .held else m.state, goTag := if e = .master then some t else m.goTag }) ∧
      (m.knows t = false → ¬ grants →
        let w := m.setWait e (some t)
        u.master i = { w with
          goTag := if e = .master then none else m.goTag
          state := if m.state = .held ∧ w.opposed s.atTrip = true then .draining else m.state }) ∧
      (m.knows t = false → s.line.inPort.up = true → s.line.inPort.queue.length ≤ 6 →
        ∃ answer, (grants → answer = NMsg.grant (s.blockId i) t) ∧ (¬ grants → answer = NMsg.wait (s.blockId i) t) ∧
          u.line.inPort.queue = s.line.inPort.queue ++ (if e = .far then [answer] else []) ++ [u.stateMsg i]) ∧
      (e = .master → m.knows t = false → (grants → u.blocks.lights.get p = .go) ∧ (¬ grants → u.blocks.lights.get p = .stop)) ∧
      ∀ q, u.spurs.get q =
        if e = .master ∧ m.knows t = true ∧ q = p then offerTo .truck (.lights (s.entryLight i)) (base.spurs.get q)
        else if s.spurUp q = true ∧ u.blocks.lights.get q ≠ s.blocks.lights.get q
          then offerTo (s.spurType q) (.lights (u.blocks.lights.get q)) (base.spurs.get q)
          else base.spurs.get q

/-- R111, R112: an exit that reaches a master, as a TAG LEAVING on its UP truck spur or as an EXIT at its UP inbye port. A listed tag
leaves the list and joins the recent-exit memory, an exit out of order adding an ORDER anomaly; the last one leaves the block FREE,
or CLOSED from CLOSING, and R110: the waits are then served. In FAULT it leaves the fault list and the state stays. A remembered tag
changes nothing, and any other is a STRAY anomaly. -/
def Obligations.ExitsLeaveTheList : Prop :=
  ∀ (i : BlockIx) (e : BlockEnd) (p : SpurId) (b t : Nat) (s : State), s.powered = true → NoNotices s → Quiet s → t ≠ 0 → t ≤ 4095 →
    (e = .master → s.spurUpAs .truck p = true ∧ s.blockOfSpur p = some i ∧ (s.working.blocks.get i).role = .master) →
    (e = .far → s.line.inPort.up = true ∧ s.masterOf b = some i) →
    let c : Instr := match e with | .master => .tag p t 1 | .far => .exit b t
    let base := match e with | .master => heard p s | .far => s
    let m := s.master i
    let odd (l : List Truck) (x : Master) : Master := if l.head?.map (·.tag) = some t then x else addAnomaly (.order t) x
    ∃ u, exec c s = .next u ∧ outsideLevel u = outsideLevel base ∧
      (∀ j, j ≠ i → u.blocks.entries.get j = s.blocks.entries.get j) ∧ u.farEnd i = s.farEnd i ∧
      (t ∈ listTags m.list →
        let l := m.list.filter (·.tag ≠ t)
        let m1 := odd m.list { m with
          list := l, memory := remember t m.memory, goTag := if m.goTag = some t then none else m.goTag
          state := if l = [] then (if m.state = .closing then .closed else .free) else m.state }
        (m.mWait = none → m.fWait = none → u.master i = m1) ∧ Served i s m1 (u.master i)) ∧
      (t ∉ listTags m.list → t ∈ listTags m.faults →
        u.master i = odd m.faults { m with faults := m.faults.filter (·.tag ≠ t), memory := remember t m.memory }) ∧
      (t ∉ listTags m.list → t ∉ listTags m.faults → t ∈ m.memory → u.blocks = s.blocks ∧ u.line = s.line) ∧
      (t ∉ listTags m.list → t ∉ listTags m.faults → t ∉ m.memory → u.master i = addAnomaly (.stray t e) m)

/-- R114, R115: at a far entry, a TAG ARRIVING becomes the claim in hand, ASKED, unless it is that already, and CLAIM is posted; a
TAG LEAVING joins the pending exits, the oldest of 4 making room, and EXIT is posted; a GRANT or WAIT naming the claim in hand
sets its standing, and one naming another tag changes nothing. R116, R198: a STATE in range replaces the mirror; the claim in hand
is then GRANTED where the list names it, WAITING where the far-end wait does, gone where it was GRANTED and is listed no more,
and otherwise as it was; pending exits the list does not name leave. A STATE out of range, or for no far entry, changes nothing. -/
def Obligations.FarEndsAskAndMirror : Prop :=
  (∀ (i : BlockIx) (p : SpurId) (b t : Nat) (s : State), s.powered = true → NoNotices s → Quiet s → t ≠ 0 → t ≤ 4095 →
    let f := s.farEnd i
    let alone (base u : State) : Prop := outsideLevel u = outsideLevel base ∧
      (∀ j, j ≠ i → u.blocks.entries.get j = s.blocks.entries.get j) ∧ u.master i = s.master i
    (s.spurUpAs .truck p = true → s.blockOfSpur p = some i → (s.working.blocks.get i).role = .far →
      (∃ u, exec (.tag p t 0) s = .next u ∧ alone (heard p s) u ∧
        u.farEnd i = (if f.claim.map (·.1) = some t then f else { f with claim := some (t, .asked) }) ∧
        (s.line.outPort.up = true → s.line.outPort.queue.length < 8 →
          u.line.outPort.queue = s.line.outPort.queue ++ [.claim (s.blockId i) t])) ∧
      (∃ u, exec (.tag p t 1) s = .next u ∧ alone (heard p s) u ∧
        u.farEnd i = { f with exits := if t ∈ f.exits then f.exits else (if 4 ≤ f.exits.length then f.exits.drop 1 else f.exits) ++ [t] } ∧
        (s.line.outPort.up = true → s.line.outPort.queue.length < 8 →
          u.line.outPort.queue = s.line.outPort.queue ++ [.exit (s.blockId i) t]))) ∧
    (s.line.outPort.up = true → s.farOf b = some i →
      (∀ st, f.claim = some (t, st) →
        (∃ u, exec (.grant b t) s = .next u ∧ alone s u ∧ u.farEnd i = { f with claim := some (t, .granted) }) ∧
        (∃ u, exec (.wait b t) s = .next u ∧ alone s u ∧ u.farEnd i = { f with claim := some (t, .waiting) })) ∧
      (f.claim.map (·.1) ≠ some t → exec (.grant b t) s = .next s ∧ exec (.wait b t) s = .next s))) ∧
  ∀ (b st d n : Nat) (tags : List Nat) (mw fw : Nat) (s : State), s.powered = true → NoNotices s → Quiet s → s.line.outPort.up = true →
    tags.length = 4 →
    (∀ i bs dir, s.farOf b = some i → blockStateOf st = some bs → sideOf d = some dir → n ≤ 4 → 0 ∉ tags.take n →
      let f := s.farEnd i
      ∃ u, exec (.state b st d n tags mw fw) s = .next u ∧ outsideLevel u = outsideLevel s ∧
        (∀ j, j ≠ i → u.blocks.entries.get j = s.blocks.entries.get j) ∧ u.master i = s.master i ∧
        (u.farEnd i).mirror = { state := bs, dir := dir, count := n, tags := tags.take n, mWait := tagOpt mw, fWait := tagOpt fw } ∧
        (u.farEnd i).exits = f.exits.filter (fun t => t ∈ tags.take n) ∧ (u.farEnd i).localFault = f.localFault ∧
        (f.claim = none → (u.farEnd i).claim = none) ∧
        (∀ t g, f.claim = some (t, g) → t ∈ tags.take n → (u.farEnd i).claim = some (t, .granted)) ∧
        (∀ t g, f.claim = some (t, g) → t ∉ tags.take n → tagOpt fw = some t → (u.farEnd i).claim = some (t, .waiting)) ∧
        (∀ t g, f.claim = some (t, g) → t ∉ tags.take n → tagOpt fw ≠ some t →
          (u.farEnd i).claim = if g = .granted then none else some (t, g))) ∧
    (s.farOf b = none ∨ 5 < st ∨ 2 < d ∨ 4 < n ∨ 0 ∈ tags.take n → exec (.state b st d n tags mw fw) s = .next s)

/-- R117, R120: a far-end STATE at the UP inbye port sets the master's far ready flag. When it turns clear the master, unless in
FAULT, enters FAULT: its list moves to the fault list, its direction becomes the fault direction, and the go tag goes, the
waits, memory and anomalies being kept. -/
def Obligations.FarReadyTurningClearFaults : Prop :=
  ∀ (i : BlockIx) (b r : Nat) (s : State), s.powered = true → NoNotices s → Quiet s → s.line.inPort.up = true → s.masterOf b = some i →
    let m := s.master i
    ∃ u, exec (.farEndState b r) s = .next u ∧ outsideLevel u = outsideLevel s ∧
      (∀ j, j ≠ i → u.blocks.entries.get j = s.blocks.entries.get j) ∧ u.farEnd i = s.farEnd i ∧
      u.master i = if m.farReady = true ∧ r ≠ 1 ∧ m.state ≠ .fault
        then { m with farReady := false, state := .fault, faults := m.list, faultDir := m.dir, list := [], dir := none, goTag := none }
        else { m with farReady := r == 1 }

/-- R118, R117: at its turn a master posts a STATE. A far entry keeps of its pending exits those the mirror lists, records its readiness as
sent, whether or not the queue takes the STATE (the model's choice: log entry 51), and posts a far-end STATE with it, CLAIM for a claim in
hand that is not GRANTED, not listed and not the far-end wait, and EXIT for each exit kept, oldest first. The turn of an entry that is not
configured posts nothing. R113: a listed truck whose age has reached the transit limit and that is not yet marked is marked overdue, with an
OVERDUE anomaly. BLOCK_TURN off its turn, and OVERDUE that is not due, leave the state as it is: the model's choice (log entry 6). -/
def Obligations.TurnsAndOverdueTrucks : Prop :=
  ∀ (i : BlockIx) (t : Nat) (s : State), s.powered = true → NoNotices s →
    (s.blocks.turnOpen = true → s.blocks.period = i.val * 50 →
      (s.isMaster i = true → exec (.blockTurn i) s =
        .next (post .inbye (s.stateMsg i) (s.setBlocks { s.blocks with turnOpen := false }))) ∧
      (s.isFar i = true →
        let f := s.farEnd i
        let id := s.blockId i
        let keep := f.exits.filter fun t => t ∈ f.mirror.tags
        let messages := NMsg.farState id (if s.farReadyNow i then 1 else 0) ::
          ((match f.claim with
            | some (t, g) => if g ≠ .granted ∧ t ∉ f.mirror.tags ∧ f.mirror.fWait ≠ some t then [NMsg.claim id t] else []
            | none => []) ++ keep.map (NMsg.exit id))
        let left := ((s.setBlocks { s.blocks with turnOpen := false }).setFar i { f with readySent := s.farReadyNow i, exits := keep }).markIf
          (f.exits != keep) (.block i)
        exec (.blockTurn i) s = .next (messages.foldl (fun u m => post .outbye m u) left)) ∧
      (s.blockOn i = false → exec (.blockTurn i) s = .next (s.setBlocks { s.blocks with turnOpen := false }))) ∧
    (s.blocks.turnOpen = false ∨ s.blocks.period ≠ i.val * 50 → exec (.blockTurn i) s = .next s) ∧
    let m := s.master i
    let limit := (s.working.blocks.get i).transit * 250
    let due : Prop := s.isMaster i = true ∧ ∃ x ∈ m.list ++ m.faults, x.tag = t ∧ limit ≤ x.age ∧ x.overdue = false
    (due → exec (.overdue i t) s = .next ((s.setMaster i (addAnomaly (.overdue t)
      { m with list := markOverdue t m.list, faults := markOverdue t m.faults })).mark (.block i))) ∧
    (¬ due → exec (.overdue i t) s = .next s)

/-- R127, R128, R202: a TRUCK STATUS in range is the spur's last status, with its cycle; EMERGENCY sets the truck alarm record to its
tag, and another status naming the tag it holds clears it. Each status taken marks TRUCK for its spur, and a change of the record marks
it again. Tag 0 (log entry 18), a tag above 4095 or a status above 3 is discarded. With access, TRUCK CLEAR sets the record to none, and
marks TRUCK for each TRUCK spur whose last status names the tag it held. -/
def Obligations.TruckStatusSetsTheAlarm : Prop :=
  (∀ (p : SpurId) (t st : Nat) (s : State), s.powered = true → NoNotices s → s.spurUpAs .truck p = true →
    (∀ r, t ≠ 0 → t ≤ 4095 → truckReportOf st = some r →
      let alarm := if r = .emergency then some t else if s.blocks.truckAlarm = some t then none else s.blocks.truckAlarm
      ∃ u, exec (.truckStatus p t st) s = .next u ∧ u.blocks.truckAlarm = alarm ∧
        u.blocks.truckLast = s.blocks.truckLast.put p (some (t, r, s.line.cycle)) ∧
        (Quiet s → ∀ q, u.held (.truck q) = if q = p then marked (1 + count (alarm ≠ s.blocks.truckAlarm)) (s.held (.truck q))
          else s.held (.truck q)) ∧
        outsideActions u = outsideActions ((heard p s).setBlocks { s.blocks with truckLast := u.blocks.truckLast, truckAlarm := alarm })) ∧
    (t = 0 ∨ 4095 < t ∨ 3 < st → exec (.truckStatus p t st) s = .next (heard p s))) ∧
  (∀ (h : OrderHdr) (s : State), Takes h s → s.access = true →
    ∃ u, exec (.truckClear h) s = .next u ∧ u.blocks.truckAlarm = none ∧
      (Quiet s → ∀ q, u.held (.truck q) =
        marked (count (s.spurType q = .truck ∧ s.blocks.truckAlarm ≠ none ∧ (s.blocks.truckLast.get q).map (·.1) = s.blocks.truckAlarm))
          (s.held (.truck q))) ∧
      outsideActions u = outsideActions ((replied h 21 .done [] (taken 21 s)).setBlocks { s.blocks with truckAlarm := none }))

/-- R122, R123: BLOCK OPEN for no master is INVALID, and NOT READY while the truck spur or the inbye port is not UP, far ready is
clear, or a kept inbye fault list stands at TRIP; otherwise a CLOSED block is FREE, a faulted one HELD with its
kept list or FREE with it cleared, a CLOSING one HELD; R110: the waits are then served. BLOCK CLOSE makes HELD and DRAINING CLOSING,
FREE CLOSED, and changes no other state. The truck spur is UP as a TRUCK spur (log entry 35); a clear-list option above 1 is not in the
form of the order (log entry 21); the fault direction goes with FAULT (log entry 46). -/
def Obligations.BlocksOpenAndClose : Prop :=
  ∀ (h : OrderHdr) (b clear : Nat) (s : State), Takes h s → Quiet s → clear ≤ 1 →
    (s.access = true →
      (s.masterOf b = none → exec (.blockOpen h b clear) s = .next (replied h 17 .invalid [] (taken 17 s))) ∧
      ∀ i, s.masterOf b = some i →
        let m := s.master i
        let ready : Prop := (∃ p, (s.working.blocks.get i).spur = some p ∧ s.spurUpAs .truck p = true) ∧ s.line.inPort.up = true ∧
          m.farReady = true ∧ ¬ (m.state = .fault ∧ m.faultDir = some .inbye ∧ m.faults ≠ [] ∧ clear = 0 ∧ 3 ≤ s.level.effective.val)
        (¬ ready → exec (.blockOpen h b clear) s = .next (replied h 17 .notReady [] (taken 17 s))) ∧
        (ready → ∃ u, exec (.blockOpen h b clear) s = .next u ∧
          outsideLevel u = outsideLevel (replied h 17 .done [] (taken 17 s)) ∧
          (∀ j, j ≠ i → u.blocks.entries.get j = s.blocks.entries.get j) ∧
          (m.state = .free ∨ m.state = .held ∨ m.state = .draining → u.master i = m) ∧
          (let opens (m1 : Master) : Prop := (m.mWait = none → m.fWait = none → u.master i = m1) ∧ Served i s m1 (u.master i)
           (m.state = .closed → opens { m with state := .free }) ∧
           (m.state = .fault → clear = 1 ∨ m.faults = [] → opens { m with state := .free, faults := [], faultDir := none }) ∧
           (m.state = .fault → clear = 0 → m.faults ≠ [] →
             opens { m with state := .held, list := m.faults, dir := m.faultDir, faults := [], faultDir := none }) ∧
           (m.state = .closing → clear = 1 → opens { m with state := .free, list := [], goTag := none }) ∧
           (m.state = .closing → clear = 0 → opens { m with state := .held })))) ∧
    (s.masterOf b = none → exec (.blockClose h b) s = .next (replied h 18 .invalid [] (taken 18 s))) ∧
    (∀ i, s.masterOf b = some i →
      let m := s.master i
      ∃ u, exec (.blockClose h b) s = .next u ∧ outsideLevel u = outsideLevel (replied h 18 .done [] (taken 18 s)) ∧
        (∀ j, j ≠ i → u.blocks.entries.get j = s.blocks.entries.get j) ∧
        u.master i = { m with state := match m.state with
          | .held => .closing | .draining => .closing | .free => .closed | st => st })

/-! ## Refuges -/

/-- R135, R136, R141, R202: a person tag that checks in joins the muster list's tail, or the overflow count when 32 are listed; one that
checks out leaves from wherever it stands, or lowers the overflow count; tag 0, a tag already listed, and a checkout with
neither change nothing. An occupied chamber is DISTRESS by its flag or a chamber channel and OCCUPIED otherwise; the last one
out clears the distress flag and, below EVACUATE, stands the chamber down, with REFUGE STANDDOWN sent once when it was prepared. Each
change of the roll marks REFUGE (R143). R140: one that raises the effective level to EVACUATE prepares the chamber, with REFUGE PREPARE
sent. Nothing else is sent to a panel that
is this record's alone. -/
def Obligations.RollsAreKept : Prop :=
  ∀ (p : SpurId) (r : PairIx) (n : Nat) (s : State), s.powered = true → NoNotices s → s.spurUpAs .refuge p = true →
    s.refugeOfSpur p = some r →
    let x := s.refuges.get r
    let panel := (heard p s).spurs.get p
    let own : Prop := PanelAlone p r s
    let roll (t : State) (muster : List Nat) (overflow : Nat) : Prop :=
      (t.refuges.get r).muster = muster ∧ (t.refuges.get r).overflow = overflow ∧
      outsideActions t = outsideActions ((heard p s).setRefuge r { x with muster := muster, overflow := overflow }) ∧
      (Quiet s → 0 < muster.length + overflow →
        (t.refuges.get r).state =
          if x.distress || s.chamberAlarm (s.working.refuges.get r).chan1 || s.chamberAlarm (s.working.refuges.get r).chan2
          then .distress else .occupied) ∧
      (Quiet s → (t.held (.refuge r)).isSome = true) ∧
      (Quiet s → 0 < muster.length + overflow →
        let raised : Prop := s.level.effective.val < 4 ∧ t.level.effective.val = 4 ∧ x.prepared = false
        (t.refuges.get r).prepared = (if raised then true else x.prepared) ∧
        (own → t.spurs.get p = if raised then offerTo .refuge .refugePrepare panel else panel))
    (n = 0 ∨ n ∈ x.muster → exec (.checkin p n) s = .next (heard p s)) ∧
    (n ≠ 0 → n ∉ x.muster → x.muster.length < 32 → ∃ t, exec (.checkin p n) s = .next t ∧ roll t (x.muster ++ [n]) x.overflow) ∧
    (n ≠ 0 → n ∉ x.muster → 32 ≤ x.muster.length → x.overflow < 255 →
      ∃ t, exec (.checkin p n) s = .next t ∧ roll t x.muster (x.overflow + 1)) ∧
    (n ≠ 0 → n ∉ x.muster → 32 ≤ x.muster.length → 255 ≤ x.overflow → exec (.checkin p n) s = .next (heard p s)) ∧
    (n = 0 ∨ n ∉ x.muster ∧ x.overflow = 0 → exec (.checkout p n) s = .next (heard p s)) ∧
    (n ≠ 0 → n ∈ x.muster → ∃ t, exec (.checkout p n) s = .next t ∧ roll t (x.muster.filter (· ≠ n)) x.overflow) ∧
    (n ≠ 0 → n ∉ x.muster → 0 < x.overflow → ∃ t, exec (.checkout p n) s = .next t ∧ roll t x.muster (x.overflow - 1)) ∧
    (∀ t, Quiet s → 0 < x.occupancy → exec (.checkout p n) s = .next t → (t.refuges.get r).occupancy = 0 →
      (t.refuges.get r).distress = false ∧ (t.level.effective.val < 4 → (t.refuges.get r).prepared = false) ∧
      (own → (s.level.effective.val = 4 ∨ t.level.effective.val < 4) →
        t.spurs.get p = if t.level.effective.val < 4 ∧ x.prepared = true then offerTo .refuge .refugeStanddown panel else panel))

/-- R137, R138, R202: DOOR sets the door field, OPEN for 0 and SHUT for any other value, and the value it holds changes nothing. DISTRESS
sets the distress flag; the chamber is prepared by it, REFUGE PREPARE being sent when it was not prepared, and an occupied one is
DISTRESS. R143: each change marks REFUGE. -/
def Obligations.DoorAndDistress : Prop :=
  ∀ (p : SpurId) (r : PairIx) (v : Nat) (s : State), s.powered = true → NoNotices s → s.spurUpAs .refuge p = true →
    s.refugeOfSpur p = some r →
    let x := s.refuges.get r
    (x.door = (v == 0) → exec (.door p v) s = .next (heard p s)) ∧
    (x.door ≠ (v == 0) → ∃ t, exec (.door p v) s = .next t ∧ (t.refuges.get r).door = (v == 0) ∧
      outsideActions t = outsideActions ((heard p s).setRefuge r { x with door := v == 0 }) ∧
      (Quiet s → (t.held (.refuge r)).isSome = true) ∧
      (Quiet s → x.occupancy = 0 → (t.refuges.get r).state = if v = 0 then .openDoor else .standby)) ∧
    ∃ t, exec (.distress p) s = .next t ∧ outsideActions t = outsideActions (heard p s) ∧
      (Quiet s → (t.refuges.get r).distress = true ∧
        (t.level.effective = s.level.effective ∨ 0 < x.occupancy → (t.refuges.get r).prepared = true ∧
          (PanelAlone p r s → t.spurs.get p =
            if x.prepared then (heard p s).spurs.get p else offerTo .refuge .refugePrepare ((heard p s).spurs.get p))) ∧
        (x.distress = false ∨ x.prepared = false → (t.held (.refuge r)).isSome = true) ∧
        (0 < x.occupancy → (t.refuges.get r).state = .distress))

/-! ## The Action Unit -/

/-- R148, R126, R156: when the STOP TRUCKS count stands at 0 the force is over, and STOP ALL, if it changes, takes the level's value and
goes to every UP TRUCK spur. When a DELAY head's count has reached its limit its action runs and the entry leaves, the next head is
examined, and the changes the run handed over are then taken (log entries 9 and 24). With no entry behind it the head delay count is then
0 (log entry 52), and a failing head is recorded at position 0 (log entry 57): the model's choices. A head with another condition is not
run by it. A command that is not due leaves the state as it is: the model's choice (log entry 6). R147, R91, R140, R149, R159: what each
action does (a record that it clears keeps its digits: log entry 39), and where it fails: CLOSE BLOCK for no master, and REFUGE PREPARE
for a record that is not configured. -/
def Obligations.ActionTimersEnd : Prop :=
  (∀ s : State, s.powered = true → NoNotices s →
    (s.action.stopTrucks ≠ 0 ∨ s.blocks.stopAll = s.atTrip → exec .stopTrucksEnd s = .next s) ∧
    (s.action.stopTrucks = 0 → s.blocks.stopAll ≠ s.atTrip →
      ∃ t, exec .stopTrucksEnd s = .next t ∧
        (∀ p, t.spurs.get p = if s.spurUpAs .truck p then offerTo .truck (.stopAll s.atTrip) (s.spurs.get p) else s.spurs.get p) ∧
        t = { s with blocks := { s.blocks with stopAll := s.atTrip }, spurs := t.spurs }) ∧
    (∀ a d rest, s.action.queue = (a, .delay d) :: rest →
      (s.commissioned = true → d * 250 ≤ s.action.headDelay →
        exec .headDelayExpiry s = .next (settle (headHasRun a rest (runAction a s))) ∧
        ∃ t, exec .headDelayExpiry s = .next t ∧ t.action.queue.length ≤ rest.length ∧ outsideActions t = outsideActions s ∧
          (∀ c, a = .sendNote c → rest = [] →
            t = ((s.mark .action).mark .action).setAction { addNote c s.action with queue := [], headDelay := 0 })) ∧
      (s.commissioned = false ∨ s.action.headDelay < d * 250 → exec .headDelayExpiry s = .next s)) ∧
    (∀ a c rest, s.action.queue = (a, c) :: rest → (∀ d, c ≠ .delay d) → exec .headDelayExpiry s = .next s) ∧
    (s.action.queue = [] → exec .headDelayExpiry s = .next s)) ∧
  ∀ s : State,
    let run (a : Machine.Action) : State := (runAction a s).1
    (∀ a, (runAction a s).2 = match a with
      | .closeBlock b => (s.masterOf b).isSome
      | .refugePrepare r => s.refugeOn r
      | _ => true) ∧
    (∀ a, (runAction a s).2 = false → run a = s) ∧
    (∀ o f, (run (.setOutput o f)).level.force = s.level.force.put o f ∧
      (run (.setOutput o f)).level.drive.get o = (match f with
        | .on => true
        | .off => false
        | .follow => match s.working.commission.outLevels.get o with
          | some l => decide (l.val ≤ s.level.effective.val)
          | none => false) ∧
      ∀ p, p ≠ o → (run (.setOutput o f)).level.drive.get p = s.level.drive.get p) ∧
    (∀ p, (run .soundHandsets).spurs.get p = if s.spurUpAs .voice p = true ∧ s.handsetBusy p = false
      then offerTo .voice (.tone .alert) (s.spurs.get p) else s.spurs.get p) ∧
    (∀ b i, s.masterOf b = some i →
      (run (.closeBlock b)).master i = { s.master i with state := match (s.master i).state with
        | .held => .closing | .draining => .closing | .free => .closed | st => st } ∧
      ∀ j, j ≠ i → (run (.closeBlock b)).blocks.entries.get j = s.blocks.entries.get j) ∧
    (∀ l, (run (.raiseLevel l)).level.hold = maxLevel s.level.hold l) ∧
    ((run .setTrip).level.latch = true ∧ Cause.action ∈ (run .setTrip).level.causes ∧ (run .setTrip).mgmt.prepare = false ∧
      (s.level.latch = false → (run .setTrip).level.firstCause = some (.action, s.line.cycle))) ∧
    (∀ n r, let x := s.call r
      (x.inUse = true → n < x.priority.getD 0 → (run (.clearCallsAbove n)).call r =
        { x with state := .cleared, cause := some .preempted, entry := some s.line.cycle, timer := some 0 }) ∧
      (x.inUse = false ∨ x.priority.getD 0 ≤ n → (run (.clearCallsAbove n)).call r = x)) ∧
    (∀ r, s.refugeOn r = true →
      ((run (.refugePrepare r)).refuges.get r).distress = false ∧
      (0 < (s.refuges.get r).occupancy ∨ (s.refuges.get r).state = s.refugeStateOf r ∨
          (run (.refugePrepare r)).level.effective = s.level.effective →
        ((run (.refugePrepare r)).refuges.get r).prepared = true) ∧
      ∀ p, (s.working.refuges.get r).spur = some p → PanelAlone p r s →
        s.spurUpAs .refuge p = true → 0 < (s.refuges.get r).occupancy ∨ (s.refuges.get r).state = s.refugeStateOf r →
        (run (.refugePrepare r)).spurs.get p = offerTo .refuge .refugePrepare (s.spurs.get p)) ∧
    ((run .stopTrucks).action.stopTrucks = 15000 ∧ (run .stopTrucks).blocks.stopAll = true) ∧
    ∀ c, run (.sendNote c) = (s.setAction (if s.action.notes.length < 4 then { s.action with notes := s.action.notes ++ [c] }
      else { s.action with notesDropped := bump 255 s.action.notesDropped })).mark .action

/-- R154, R155, R156, R157: ARM at an uncommissioned node is NOT READY, out of range INVALID, and FULL with 8 entries; otherwise the
action joins the tail with its condition. One that becomes head starts the head delay count at 0 and waits while its condition is false;
where it is true it runs and leaves, the head delay count being 0 with the queue empty (log entry 52) and a failure being recorded at
position 0 (log entry 57): the model's choices. R151, R152: a trigger list whose condition has become true is FIRED and runs its actions
in order; when each is done it stays FIRED; a failing one skips the rest, is recorded, and empties the list, its condition last value then
being false (the model's choice: log entry 56). One whose condition has become false is ARMED again, and one whose condition stands does
nothing. So a contact input of role TRIGGER ONLY that changes runs the list that reads it, and the changes that the run handed over are
then taken (the bound on how many is the model's: log entry 9). -/
def Obligations.ArmedActionsAndListsRun : Prop :=
  (∀ (h : OrderHdr) (a0 a1 a2 c0 c1 c2 c3 : Nat) (s : State), Takes h s → s.access = true →
    let i : Instr := .arm h a0 a1 a2 c0 c1 c2 c3
    let done := replied h 19 .done [] (taken 19 s)
    let refuse (r : Result) : Prop := exec i s = .next (replied h 19 r [] (taken 19 s))
    (s.commissioned = false → refuse .notReady) ∧
    (s.commissioned = true → actionOf a0 a1 a2 = none ∨ queueCondOf c0 c1 c2 c3 = none → refuse .invalid) ∧
    (∀ a c, s.commissioned = true → actionOf a0 a1 a2 = some a → queueCondOf c0 c1 c2 c3 = some c →
      (8 ≤ s.action.queue.length → refuse .full) ∧
      (s.action.queue ≠ [] → s.action.queue.length < 8 →
        exec i s = .next (done.setAction { s.action with queue := s.action.queue ++ [(a, c)] })) ∧
      (s.action.queue = [] → (∃ d, c = .delay d) ∨ s.queueTrue c = false →
        exec i s = .next (done.setAction { s.action with queue := [(a, c)], headDelay := 0 })) ∧
      (s.action.queue = [] → (∀ d, c ≠ .delay d) → s.queueTrue c = true →
        ∃ t, exec i s = .next t ∧ t.action.queue = [] ∧ outsideActions t = outsideActions done ∧
          let armed := (taken 19 s).setAction { s.action with queue := [(a, c)], headDelay := 0 }
          t = settle (replied h 19 .done [] (headHasRun a [] (runAction a armed)))))) ∧
  (∀ (x : PairIx) (c : TriggerCond) (s : State), (s.working.triggers.get x).cond = some c →
    let last := s.action.last.get x
    let found (st : ListState) : State :=
      s.setAction { s.action with lists := s.action.lists.put x st, last := s.action.last.put x (s.triggerTrue c) }
    (s.triggerTrue c = last → evalList x s = s) ∧
    (s.triggerTrue c = false → last = true → evalList x s = found .armed) ∧
    (s.triggerTrue c = true → last = false →
      (∀ t, runsTo (s.working.triggers.get x).actions (found .fired) = some t → evalList x s = t.mark .action) ∧
      ∀ before a after t, (s.working.triggers.get x).actions = before ++ a :: after → runsTo before (found .fired) = some t →
        (runAction a t).2 = false →
        let failed := (t.setWorking { t.working with triggers := t.working.triggers.put x { cond := none, actions := [] } }).setAction
          { t.action with
            failure := some { source := .list x, position := before.length, action := a }
            lists := t.action.lists.put x .empty, last := t.action.last.put x false }
        evalList x s = failed.mark .action)) ∧
  ∀ (i x : PairIx) (s : State), s.powered = true → NoNotices s → s.commissioned = true → s.working.commission.roles.get i = .triggerOnly →
    (s.level.contacts.get i).run = 3 → s.level.localLevel = s.localOf → s.action.queue = [] →
    (s.working.triggers.get x).cond = some (.contactActive i) → (∀ y, y ≠ x → (s.working.triggers.get y).cond = none) →
    let changed := (s.setLevel { s.level with
      contacts := s.level.contacts.put i { active := !(s.level.contacts.get i).active, run := 0 } }).mark .level
    exec (.contactChange i) s = .next (settleN (settleBound - 1) (evalList x changed))


/-! ## Spurs -/

/-- R164, R168, R202: a good frame that carries a message is that message's command, the voice field being kept first on an UP VOICE
spur. A good frame with no message only sets the silence count to 0 and starts a DOWN spur; a message that cannot be read, or
that does not fit an UP spur's type, or that is not HELLO on a spur that is not UP, is discarded and counted. An errored frame is
counted and discarded whole, and an OFF spur ignores every frame. That a message's command stands for the arrival of the whole valid
frame that carries it (its silence count, the start of a DOWN spur, the discard) is the model's choice (log entry 5). -/
def Obligations.FramesCarryTheirMessages : Prop :=
  ∀ (p : SpurId) (s : State), s.powered = true → NoNotices s →
    let x := s.spurs.get p
    let voiced (v : List Octet) (s : State) : State := if s.spurUpAs .voice p then s.setSpur p { s.spurs.get p with voice := some v } else s
    let started (s : State) : State := if x.state = .down then (s.setSpur p { s.spurs.get p with state := .starting }).mark (.spur p) else s
    (∀ f, x.state = .off → exec (.spurFrame p f) s = .next s) ∧
    (∀ f, x.state ≠ .off → frameGood f = false → exec (.spurFrame p f) s = .next (s.setSpur p { x with errored := bump 65535 x.errored })) ∧
    (∀ f, x.state ≠ .off → frameGood f = true → frameMsg f = .nothing →
      exec (.spurFrame p f) s = .next (voiced (frameVoice f) (started (heard p s)))) ∧
    (∀ f, x.state ≠ .off → frameGood f = true → frameMsg f = .unreadable → exec (.spurFrame p f) s =
      .next (discardMsg p (voiced (frameVoice f) (started (heard p s))))) ∧
    (∀ v m, x.state ≠ .off → v.length = 32 → m.fitsOctets = true →
      exec (.spurFrame p (headFrame v m)) s = exec (m.command p) (voiced v s) ∧
      (m.isHello = false → x.state ≠ .up ∨ m.fits (s.spurType p) = false →
        exec (m.command p) s = .next (discardMsg p (started (heard p s)))))

/-- R165, R166, R17, R125, R126, R142: a HELLO on a spur that is not OFF leaves it UP with HELLO ACK pending ACCEPTED when its head type
is the in-force type, and MISMATCH with REFUSED otherwise, from every state; a GAS spur that was UP puts its channels into FAULT on the
way. From another state nothing but the spur and what its owner sends or forms changes. A TRUCK spur that comes UP is sent its light and
STOP ALL; a REFUGE spur of a configured record is sent REFUGE PREPARE or REFUGE STANDDOWN by the PREPARE commanded flag, and then ROLL
QUERY, after nothing but what a level that its state raises sends; other spurs that come UP are sent nothing. On an OFF spur it is
ignored. -/
def Obligations.HelloBringsASpurUp : Prop :=
  ∀ (p : SpurId) (n : Nat) (s : State), s.powered = true → NoNotices s →
    let x := s.spurs.get p
    let fits := headMatches (headTypeOf n) (s.spurType p)
    (x.state = .off → exec (.hello p n) s = .next s) ∧
    (x.state ≠ .off →
      ∃ t, exec (.hello p n) s = .next t ∧
        (t.spurs.get p).state = (if fits then .up else .mismatch) ∧ (t.spurs.get p).ack = some fits ∧
        (t.spurs.get p).offered = some (headTypeOf n) ∧ (t.spurs.get p).silence = 0 ∧ (t.spurs.get p).heard = true ∧
        (∀ q, q ≠ p → (t.spurs.get q).state = (s.spurs.get q).state) ∧
        (∀ c, t.air.get c =
          if x.state = .up ∧ s.spurType p = .gas ∧ s.chanUsed c = true ∧ (s.working.channels.get c).spur = some p
          then enterStatus .fault (s.air.get c) else s.air.get c) ∧
        (Quiet s → x.state = .up ∨ x.queue = [] →
          let queue := (t.spurs.get p).queue
          (fits = true → s.spurType p = .truck → queue = [.lights (t.blocks.lights.get p), .stopAll t.blocks.stopAll]) ∧
          (∀ r, fits = true → s.spurType p = .refuge → s.refugeOfSpur p = some r →
            ∃ l, queue = l ++ [if (t.refuges.get r).prepared then .refugePrepare else .refugeStanddown, .rollQuery] ∧
              (t.level.effective = s.level.effective → x.state ≠ .up → l = [])) ∧
          (fits = false ∨ s.spurType p = .gas ∨ s.spurType p = .voice ∨ s.spurType p = .refuge ∧ s.refugeOfSpur p = none → queue = [])) ∧
        (x.state ≠ .up → outsideActions t = outsideActions { s.setSpur p { x with
            state := if fits then .up else .mismatch, ack := some fits, offered := some (headTypeOf n), silence := 0, heard := true } with
          calls := if fits = true ∧ s.spurType p = .voice then { s.calls with hooks := s.calls.hooks.put p false } else s.calls }))

/-- R165, R166, R17, R81, R120, R142: after 500 cycles without a valid frame a STARTING, MISMATCH or UP spur is DOWN, in the cycle that is
the 500th, which the command ends for the spur (log entry 6). Leaving UP, it has an empty queue and no voice (nor what was dropped for its
handset: the model's choice, log entry 69), and its owner acts: channels go to FAULT, handset records are cleared LOST and the hook is ON
HOOK, masters go to FAULT, a refuge goes to FAULT. Before that, and on a spur OFF or DOWN, the command leaves the state as it is: the
model's choice (log entry 6). -/
def Obligations.SilenceTakesASpurDown : Prop :=
  ∀ (p : SpurId) (s : State), s.powered = true → NoNotices s →
    let x := s.spurs.get p
    (¬ silent500 x → exec (.spurSilenceTimeout p) s = .next s) ∧
    (silent500 x → x.state = .starting ∨ x.state = .mismatch →
      exec (.spurSilenceTimeout p) s = .next ((s.setSpur p { x with state := .down, silence := 500 }).mark (.spur p))) ∧
    (silent500 x → x.state = .up → Quiet s →
      ∃ t, exec (.spurSilenceTimeout p) s = .next t ∧
        (t.spurs.get p).state = .down ∧ (t.spurs.get p).queue = [] ∧ (t.spurs.get p).voice = none ∧
        (∀ q, q ≠ p → (t.spurs.get q).state = (s.spurs.get q).state) ∧
        (∀ c, t.air.get c =
          if s.spurType p = .gas ∧ s.chanUsed c = true ∧ (s.working.channels.get c).spur = some p
          then enterStatus .fault (s.air.get c) else s.air.get c) ∧
        t.calls.hooks = (if s.spurType p = .voice then s.calls.hooks.put p false else s.calls.hooks) ∧
        (∀ r, s.spurType p = .voice → (s.call r).inUse = true → (s.call r).origin = some p ∨ (s.call r).dest = some p →
          (t.call r).state = .cleared ∧ (t.call r).cause = some .lost) ∧
        (∀ i, s.spurType p = .truck → s.isMaster i = true → (s.working.blocks.get i).spur = some p → (t.master i).state = .fault) ∧
        (∀ r, s.spurType p = .refuge → s.refugeOfSpur p = some r → (t.refuges.get r).state = .fault) ∧
        outsideActions t = outsideActions { s.setSpur p { x with state := .down, silence := 500, voice := none, dropVoice := none } with
          air := t.air, calls := { s.calls with hooks := t.calls.hooks } })

/-! ## The management channel -/

/-- R174, R175, R178: the cell whose expected slot is 0. At the FRAMED and UP outbye port an order in one cell for this node is the order's
command, and only a broadcast one is relayed; a cell for another node is relayed and changes nothing else; a malformed one is relayed and
counted. A FIRST cell begins the assembly, in place of a partial order, which is counted. A MIDDLE cell adds its body, and a LAST one
completes the order, which is then the order's command; with nothing to add to, either is counted, and one that differs in its mode, kind or
reference drops the partial order, also when it would be the ninth (the model's choice: log entry 66). One that does not differ and would be
the ninth drops it too, and the order is INVALID. An errored cell drops it, and a vacant one changes nothing. In HUNT, and at a LOST port,
any cell is a vacant one. An occupied cell at the inbye port is relayed outbye. That an order's command stands for the arrival of its last
cell is the model's choice (log entry 5), and so is it that a return to HUNT that is due comes before the cell (log entry 6). That the
header of an outbye cell is neither judged nor counted (log entry 28), and that the relay takes the place of what was filled before it (log
entry 29), are the model's readings too. -/
def Obligations.ManagementCellsCarryOrders : Prop :=
  ∀ (place : Fin 32) (s : State), s.powered = true → NoNotices s →
    let arrives (d : Side) (s : State) : State := s.setPort d { s.port d with errRun := 0 }
    let x := found s.line.outPort
    let y := found s.line.inPort
    (x.expected place.val = 0 → x.framed = false ∨ x.up = false → ∀ c,
      exec (cellRow .outbye place c) s = .next (sendInbye none (s.setPort .outbye (x.arrive place.val c)))) ∧
    (y.expected place.val = 0 → y.framed = false ∨ y.up = false → ∀ c,
      exec (cellRow .inbye place c) s = .next (s.setPort .inbye (y.arrive place.val c))) ∧
    (x.expected place.val = 0 → x.framed = true → x.up = true →
      (∀ (mode addr : Nat) (ref : Octet) (o : Order), o.inForm = true → o.code < 64 → o.body.length ≤ 28 → addr < 256 →
        (mode = 1 ∧ s.commissioned = true ∧ addr = s.working.commission.station ∨ mode = 2 ∧ s.line.position = some addr ∨
          mode = 3 ∧ s.commissioned = true) →
        exec (cellRow .outbye place (orderCell mode addr ref o)) s =
          exec (o.command { bcast := mode == 3, ref := ref }) (dropPartial (sendInbye
            (if mode = 3 then some (mgmtPayload mode o.code addr 0 ref o.body) else none) (arrives .outbye s)))) ∧
      (∀ c, cellGood c = false ∨ cellSlot c ≠ 0 → exec (cellRow .outbye place c) s =
        .next (dropPartial (sendInbye none (s.setPort .outbye (s.port .outbye).erroredCell)))) ∧
      (∀ c, cellGood c = true → cellSlot c = 0 → cellOccupied c = false → exec (cellRow .outbye place c) s =
        .next (sendInbye none (arrives .outbye s))) ∧
      (∀ c, cellGood c = true → cellSlot c = 0 → cellOccupied c = true →
        let h := mgmtHeader (cellPayload c)
        let body := mgmtBody (cellPayload c) h
        let gives (o : Host.Outcome State Fault Refusal) : Prop := exec (cellRow .outbye place c) s = o
        let relayed := sendInbye (some (cellPayload c)) (arrives .outbye s)
        let base := sendInbye (if h.mode = 3 then some (cellPayload c) else none) (arrives .outbye s)
        (h.malformed = true → gives (.next (countMalformed relayed))) ∧
        (h.malformed = false → s.matchesCell h = false → gives (.next relayed)) ∧
        (h.malformed = false → s.matchesCell h = true →
          (h.part = 0 →
            gives (exec ((orderOf h.kind body).command { bcast := h.mode == 3, ref := h.ref }) (dropPartial base))) ∧
          (h.part = 1 →
            gives (.next (setAsm (some { mode := h.mode, kind := h.kind, ref := h.ref, cells := 1, body := body }) (dropPartial base)))) ∧
          (h.part = 2 ∨ h.part = 3 →
            (s.mgmt.asm = none → gives (.next (countMalformed base))) ∧
            ∀ a, s.mgmt.asm = some a →
              (a.mode ≠ h.mode ∨ a.kind ≠ h.kind ∨ a.ref ≠ h.ref → gives (.next (dropPartial base))) ∧
              (a.mode = h.mode → a.kind = h.kind → a.ref = h.ref →
                let hdr : OrderHdr := { bcast := a.mode == 3, ref := a.ref }
                (8 ≤ a.cells → s.mgmt.restart = none → (a.mode ≠ 3 → s.repliesFull = false) →
                  gives (.next (replied hdr a.kind .invalid [] (taken a.kind (dropPartial base))))) ∧
                (a.cells < 8 → h.part = 2 →
                  gives (.next (setAsm (some { a with cells := a.cells + 1, body := a.body ++ body }) base))) ∧
                (a.cells < 8 → h.part = 3 → a.kind < 64 →
                  gives (exec ((orderOf a.kind (a.body ++ body)).command hdr) (setAsm none base)))))))) ∧
    (y.expected place.val = 0 → y.framed = true → y.up = true →
      ∀ c, cellGood c = true → cellSlot c = 0 → cellOccupied c = true → exec (cellRow .inbye place c) s =
        .next ((arrives .inbye s).setMgmt { s.mgmt with toOutbye := some (cellPayload c) }))

/-- R178, R179, R181, R174, R199: when the spacing count has reached P (one that a restart leaves above a smaller P has: log entry 60) it
returns to 0 and the credit rises by 1 up to 4, and the fill decision of the cycle counts a credit that is due. With credit, not autonomous,
with a source address and the outbye cell vacant, the node then fills it with the next cell of the message in progress, or else of the
oldest made reply, or else of the first pending report, whose source is then no longer pending, of which its owner is told: a CLEARED record
becomes IDLE and leaves the clearing order (R98; that this marks CALL no more is the model's choice: log entry 63), the status is the last
reported one (R21), the accumulated causes (R38), the anomalies with their dropped count (R112), and the notes, the failure and the flushed
count (R158) are emptied. A message of several cells stays in progress at its second; one credit is used. With no message, or without those
conditions, the cell is not filled. A FILL_CREDIT_EARNED that is not due, and the due credit alone of an OUTBYE_CELL_FILL that fills
nothing, are the model's choice (log entry 6). -/
def Obligations.CreditFillsTheOutbyeCell : Prop :=
  ∀ s0 : State, s0.powered = true → NoNotices s0 →
    let m0 := s0.mgmt
    let m := if s0.working.commission.spacing ≤ m0.spacing
      then { m0 with spacing := 0, credit := if m0.credit < 4 then m0.credit + 1 else m0.credit } else m0
    let s := s0.setMgmt m
    let may : Prop := m.toOutbye = none ∧ m.credit ≠ 0 ∧ s.line.autonomous = false
    exec .fillCreditEarned s0 = .next s ∧
    (¬ may ∨ s.sourceAddr = none → exec .outbyeCellFill s0 = .next s) ∧
    ∀ a, may → s.sourceAddr = some a →
      (∀ p, m.progress = some p → exec .outbyeCellFill s0 = .next (s.setMgmt { m with
        toOutbye := some (progressCell p (p.addr.getD a)), credit := m.credit - 1
        progress := if p.sent + 1 < cellCount p.body then some { p with sent := p.sent + 1, addr := some (p.addr.getD a) } else none
        replies := if p.sent + 1 < cellCount p.body ∨ p.report = true then m.replies else m.replies.drop 1 })) ∧
      (∀ r rest, m.progress = none → m.restartDue = false → m.replies = r :: rest → exec .outbyeCellFill s0 = .next (s.setMgmt { m with
        toOutbye := some (mgmtPayload a.1 62 a.2 (partOf 0 (cellCount r.body)) r.ref (r.body.take 28)), credit := m.credit - 1
        progress := if 1 < cellCount r.body then some { report := false, ref := r.ref, body := r.body, sent := 1, addr := some a } else none
        replies := if 1 < cellCount r.body then m.replies else rest })) ∧
      (∀ x, m.progress = none → m.restartDue = false → m.replies = [] → s.nextSource = some x →
        ∃ t, exec .outbyeCellFill s0 = .next t ∧ t.held x = none ∧ t.mgmt.credit = m.credit - 1 ∧
          t.mgmt.toOutbye = some (mgmtPayload a.1 63 a.2 (partOf 0 (cellCount (s.reportBody x))) 0 ((s.reportBody x).take 28)) ∧
          (∀ y, y ≠ x → t.held y = s.held y) ∧
          t.mgmt.progress = (if 1 < cellCount (s.reportBody x)
            then some { report := true, ref := 0, body := s.reportBody x, sent := 1, addr := some a } else none) ∧ t.mgmt.replies = [] ∧
          t.level = (if x = .isolation then { s.level with accumulated := [] } else s.level) ∧
          (∀ c, t.air.get c = if x = .channel c then { s.air.get c with lastReported := (s.air.get c).status } else s.air.get c) ∧
          (∀ i, t.blocks.entries.get i = if x = .block i
            then { s.blocks.entries.get i with master := { s.master i with anomalies := [], dropped := 0 } } else s.blocks.entries.get i) ∧
          (∀ r, t.call r = if x = .call r ∧ (s.call r).state = .cleared then .idle else s.call r) ∧
          t.calls.clearing = s.calls.clearing.filter (fun r => ¬ (x = .call r ∧ (s.call r).state = .cleared)) ∧
          t.action = (if x = .action then { s.action with notes := [], notesDropped := 0, failure := none, flushed := 0 } else s.action) ∧
          t = { s with level := t.level, air := t.air, blocks := t.blocks, calls := t.calls, action := t.action, mgmt := t.mgmt } ∧
          t.level.latch = s.level.latch ∧ t.level.effective = s.level.effective ∧
          (∀ c, (t.air.get c).status = (s.air.get c).status) ∧ ∀ i, (t.master i).list = (s.master i).list) ∧
      (m.progress = none → m.restartDue = true ∨ m.replies = [] ∧ s.nextSource = none → exec .outbyeCellFill s0 = .next s)

/-- R184, R191, R192, R22, R176, R180: orders that read change nothing but what taking them and their reply do. STATUS is 69 octets with
the kind and result, ENQUIRE 23 with the part's name first; a TABLE READ in range gives no more than 224 and one out of range is INVALID;
a HISTORY READ of an in-use channel gives the write position, the valid-sample count and min(n, W) samples, those at positions i, i + 1
and so on modulo W in that order, a position without a sample reading as the marker; any other is INVALID. The octets of the TABLE READ of
a state table are laid out as the model chose where the spec gives no layout (log entry 17). -/
def Obligations.ReadingOrdersOnlyReply : Prop :=
  ∀ (h : OrderHdr) (s : State), Takes h s →
    (exec (.enquire h) s = .next (replied h 1 .done s.enquireBody (taken 1 s)) ∧
      s.enquireBody = [0x54, 0x4E, 0x34, 0x31, 0x36, Config.revision, 16, 16, 4, 2, 8, 2, 4, 8, 4, 62,
        octet s.working.commission.station, opt8 s.line.position, octet s.working.commission.district.val, flagOctet s.commissioned,
        flagOctet s.mgmt.storeFault]) ∧
    (exec (.statusPoll h) s = .next (replied h 2 .done s.statusBody (taken 2 s)) ∧ s.statusBody.length = 67) ∧
    (∀ table first count : Nat,
      (∀ t, tableOf table = some t → t.rangeOk first count = true →
        exec (.tableRead h table first count) s = .next (replied h 3 .done (s.tableReadBody t first count) (taken 3 s)) ∧
          (s.tableReadBody t first count).length ≤ 222) ∧
      (tableOf table = none → exec (.tableRead h table first count) s = .next (replied h 3 .invalid [] (taken 3 s))) ∧
      (∀ t, tableOf table = some t → t.rangeOk first count = false →
        exec (.tableRead h table first count) s = .next (replied h 3 .invalid [] (taken 3 s)))) ∧
    (∀ channel start count : Nat,
      (∀ c, identIx 16 channel = some c → s.chanUsed c = true →
        let w := (s.working.channels.get c).window
        exec (.historyRead h channel start count) s =
            .next (replied h 5 .done (historyBody w (s.air.get c) start count) (taken 5 s)) ∧
          (historyBody w (s.air.get c) start count).length = 3 + 2 * min count w ∧
          (historyBody w (s.air.get c) start count).take 3 =
            [octet (s.air.get c).wpos, octet (s.air.get c).valid, octet (min count w)] ∧
          ∀ k, k < min count w → ((historyBody w (s.air.get c) start count).drop (3 + 2 * k)).take 2 =
            (match (s.air.get c).ring[(start + k) % w]? with | some (some v) => be16 v | _ => [0xFF, 0xFF])) ∧
      (identIx 16 channel = none → exec (.historyRead h channel start count) s = .next (replied h 5 .invalid [] (taken 5 s))) ∧
      (∀ c, identIx 16 channel = some c → s.chanUsed c = false →
        exec (.historyRead h channel start count) s = .next (replied h 5 .invalid [] (taken 5 s))))

/-- R185, R34, R4, R104, R132, R153, R162, R186: an entry of a table fails with the result its rule gives, and otherwise passes; one that
fails more than one test fails by the first (the model's choice: log entry 41). R24, R25: a CHANNELS entry keeps the status of a channel
that stays in use and starts its filter and its run again; it makes one UNUSED (its two counts standing: log entry 34) or brings it into
use at NO DATA (its last reported status then being UNUSED: log entry 44), and leaves one that stays unused. R104, R117: a BLOCKS entry
takes its power-on values, and a far entry whose readiness the load changes posts a far-end STATE with the new one (an index that held no
far entry counting as NOT READY before: log entry 55; recorded as sent also where it is discarded: log entry 51). A TABLE LOAD with access
is judged by Table, Range, Form and Store before anything is applied. Then its entries are applied in order: a first entry that fails
leaves everything as it was, and the ERROR reply names its index, its result and how many were not applied; a single entry that passes
stands in its working table, with DONE. Of several entries each is judged and applied on what the one before left, with the changes it
handed over taken (the model's choice: log entry 9): a later one that fails leaves those before it applied. R153: a trigger list with a
condition flushes the Armed Queue, is ARMED with its condition last false, and at a commissioned node is evaluated at once. -/
def Obligations.TableLoadsStopAtTheFirstFailure : Prop :=
  (∀ (t : Table) (size k : Nat) (b : List Octet) (s : State), t.entrySize = some size → b.length = size → t.rangeOk k 1 = true →
    (∀ r, applyEntry t k b s = .error r ↔ entryFailure t k b s = some r) ∧
    ((∃ u, applyEntry t k b s = .ok u) ↔ entryFailure t k b s = none)) ∧
  ∀ (h : OrderHdr) (table first count : Nat) (l : List Octet) (s : State), Takes h s → s.access = true →
    let c : Instr := .tableLoad h table first count l
    let refuse (r : Result) : Prop := exec c s = .next (replied h 4 r [] (taken 4 s))
    (tableOf table = none → refuse .invalid) ∧
    ∀ t, tableOf table = some t →
      (t.entrySize = none → refuse .invalid) ∧
      ∀ size, t.entrySize = some size →
        (t.rangeOk first count = false ∨ l.length ≠ count * size → refuse .invalid) ∧
        (t.rangeOk first count = true → l.length = count * size →
          (s.mgmt.write ≠ none → refuse .busy) ∧
          (s.mgmt.write = none →
            (∀ r, applyEntry t first (l.take size) (taken 4 s) = .error r →
              exec c s = .next (replied h 4 .error [octet first, octet (resultCode r), octet count] (taken 4 s))) ∧
            (∀ u, count = 1 → applyEntry t first l (taken 4 s) = .ok u →
              ∃ w, exec c s = .next w ∧ w.mgmt.replies = (replied h 4 .done [] (taken 4 s)).mgmt.replies ∧
                (∀ n, t = .commission → commissionOf l = some n → w.working.commission = n) ∧
                (∀ k, t = .levelMap → first = k.val → w.working.levelMap = s.working.levelMap.put k (octAt l 0)) ∧
                (∀ k n, t = .spurs → identIx 8 first = some k → spurCfgOf l = some n → w.working.spurs = s.working.spurs.put k n) ∧
                (∀ k n, t = .channels → identIx 16 first = some k → chanCfgOf l = some n →
                  w.working.channels = s.working.channels.put k n ∧
                  let x := s.air.get k
                  let now : Bool := s.commissioned && n.spur.isSome
                  let cleared (y : Channel) : Channel := { y with ring := List.replicate n.window none, wpos := 0, valid := 0 }
                  w.air = s.air.put k (
                    if s.chanUsed k = true ∧ now = true then
                      let y := { x with n := 0, m := none, f := none, v := x.v.map (min · (kindMax n.kind)), stale := 0, readings := 0 }
                      if (s.working.channels.get k).window = n.window then y else cleared y
                    else if s.chanUsed k = true then
                      cleared { x with status := .unused, f := none, v := none, m := none, n := 0, overSet := false, underSet := false }
                    else if now = true then
                      cleared { x with
                        status := .noData, f := none, v := none, m := none, n := 0, overSet := false, underSet := false, stale := 0
                        readings := 0, lastReported := .unused }
                    else x)) ∧
                (∀ k n, t = .blocks → identIx 4 first = some k → blockCfgOf l = some n →
                  w.working.blocks = s.working.blocks.put k n ∧
                  (Quiet s →
                    let v := s.setWorking { s.working with blocks := w.working.blocks }
                    let posts : Prop := v.isFar k = true ∧ v.farReadyNow k ≠ (s.isFar k && s.farReadyNow k)
                    w.blocks.entries.get k = { master := .start, far := { FarEnd.start (v.farFaultNow k) with
                      readySent := if posts then v.farReadyNow k else false } } ∧
                    w.line.outPort = if posts then (post .outbye (.farState n.id (if v.farReadyNow k then 1 else 0)) s).line.outPort
                      else s.line.outPort)) ∧
                (∀ k n, t = .refuges → identIx 2 first = some k → refugeCfgOf l = some n → w.working.refuges = s.working.refuges.put k n) ∧
                (∀ k n, t = .triggers → identIx 2 first = some k → triggerCfgOf l = some n → n.cond = none → Quiet s →
                  w.working.triggers = s.working.triggers.put k n ∧ w.action.lists.get k = .empty)) ∧
            (∀ k n, t = .triggers → count = 1 → identIx 2 first = some k → triggerCfgOf l = some n → n.cond ≠ none →
              let loaded := ((taken 4 s).setWorking { s.working with triggers := s.working.triggers.put k n }).setAction
                { s.action with
                  queue := [], headDelay := 0, flushed := min 255 (s.action.flushed + s.action.queue.length)
                  lists := s.action.lists.put k .armed, last := s.action.last.put k false }
              let armed := (loaded.mark .action).mark .action
              exec c s = .next (replied h 4 .done [] (settle (if s.commissioned then evalList k armed else armed)))) ∧
            ∀ (chain : Nat → State) (k : Nat), chain 0 = taken 4 s → k ≤ count →
              (∀ j, j < k → ∃ v, applyEntry t (first + j) ((l.drop (j * size)).take size) (chain j) = .ok v ∧ chain (j + 1) = settle v) →
              (k = count → exec c s = .next (replied h 4 .done [] (chain k))) ∧
              ∀ r, k < count → applyEntry t (first + k) ((l.drop (k * size)).take size) (chain k) = .error r →
                exec c s = .next (replied h 4 .error [octet (first + k), octet (resultCode r), octet (count - k)] (chain k))))

/-- R187, R177, R188: with access, COMMIT takes a copy of the working tables and reserves a place for its reply, and is BUSY while a write
is in flight. When the write completes, a cycle or more later, the store holds the copy and is good, STORE FAULT is cleared and the DONE of
an addressed COMMIT is made. That the completion may come in any cycle after that of the COMMIT is the model's choice (log entry 36), and so
is that, before that cycle's end and with no write in flight, it leaves the state as it is (log entry 6). -/
def Obligations.CommitWritesTheStore : Prop :=
  (∀ (h : OrderHdr) (s : State), Takes h s → s.access = true →
    (s.mgmt.write = none → exec (.commit h) s = .next ((taken 6 s).setMgmt { (taken 6 s).mgmt with
      write := some { copy := s.working, bcast := h.bcast, ref := h.ref, elapsed := 0 }
      reserved := if h.bcast then s.mgmt.reserved else s.mgmt.reserved + 1 })) ∧
    (s.mgmt.write ≠ none → exec (.commit h) s = .next (replied h 6 .busy [] (taken 6 s)))) ∧
  (∀ s : State, s.powered = true → NoNotices s →
    (∀ w, s.mgmt.write = some w → 1 ≤ w.elapsed → exec .commitComplete s = .next { s with
      store := { tables := w.copy, good := true }
      mgmt := { s.mgmt with
        write := none, storeFault := false, reserved := if w.bcast then s.mgmt.reserved else s.mgmt.reserved - 1
        replies := if w.bcast then s.mgmt.replies else s.mgmt.replies ++ [{ ref := w.ref, body := [6, 0] }] } }) ∧
    (∀ w, s.mgmt.write = some w → w.elapsed = 0 → exec .commitComplete s = .next s) ∧
    (s.mgmt.write = none → exec .commitComplete s = .next s))

/-- R189, R188, R26, R77, R102, R130, R144, R145: with access RESTART is DONE and pending, and BUSY during a store write. It is carried
out once no message is in progress and, for an addressed one, no reply waits: the tables come from the store, or from the factory when it
fails its check; calls, slots, blocks, rolls, the queue, replies and access are cleared; the latch, the cycle number, the position, the
credit, the attempts and the counts stand. R26: a last reported status stays, or is UNUSED for an entry in use at a node that the reload
commissions. R116: each configured master whose record the restart changes posts its STATE. That these STATEs are posted after the line
queues are emptied and so stand in the inbye queue, and which last reported status a reloaded entry has, are the model's reading (log
entry 19). A restart that is not due leaves the state as it is: the model's choice (log entry 6). -/
def Obligations.RestartIsCarriedOut : Prop :=
  (∀ (h : OrderHdr) (s : State), Takes h s → s.access = true →
    (s.mgmt.write = none → exec (.restart h) s =
      .next (replied h 7 .done [] ((taken 7 s).setMgmt { (taken 7 s).mgmt with restart := some h.bcast }))) ∧
    (s.mgmt.write ≠ none → exec (.restart h) s = .next (replied h 7 .busy [] (taken 7 s)))) ∧
  ∀ s : State, s.powered = true → NoNotices s →
    (s.mgmt.restart = none ∨ s.mgmt.progress ≠ none ∨ s.mgmt.restart = some false ∧ s.mgmt.replies ≠ [] →
      exec .restartCarriedOut s = .next s) ∧
    ∀ bcast, s.mgmt.restart = some bcast → s.mgmt.progress = none → (bcast = true ∨ s.mgmt.replies = []) →
      let tables := if s.store.good then s.store.tables else factoryTables
      ∃ t, exec .restartCarriedOut s = .next t ∧
        t.working.commission = tables.commission ∧ t.working.levelMap = tables.levelMap ∧ t.working.spurs = tables.spurs ∧
        t.working.channels = tables.channels ∧ t.working.blocks = tables.blocks ∧ t.working.refuges = tables.refuges ∧
        (s.level.latch = true → t.level.latch = true) ∧
        ((∀ p, s.calls.hooks.get p = false) → ∀ r, t.call r = .idle) ∧
        (∀ e, (t.slots.map.get e).mode = .pass) ∧ t.slots.bridge = [] ∧ (∀ i, t.master i = .start) ∧
        (∀ r, (t.refuges.get r).muster = [] ∧ (t.refuges.get r).overflow = 0) ∧ t.action.queue = [] ∧
        (∀ c, t.air.get c = { Channel.start (t.chanUsed c) (tables.channels.get c).window with
          lastReported := if s.commissioned = false ∧ t.chanUsed c = true then .unused else (s.air.get c).lastReported }) ∧
        t.mgmt.asm = none ∧ t.mgmt.replies = [] ∧ t.mgmt.reserved = 0 ∧ t.mgmt.restart = none ∧ t.mgmt.accessOpen = false ∧
        t.mgmt.storeFault = !s.store.good ∧ t.mgmt.credit = s.mgmt.credit ∧ t.mgmt.attempts = s.mgmt.attempts ∧
        t.mgmt.discarded = s.mgmt.discarded ∧ t.mgmt.malformed = s.mgmt.malformed ∧
        (let posted := (List.finRange 4).filter fun i => t.isMaster i && (s.master i).shownFields != Master.start.shownFields
         t.line = { s.line with
           inPort := { s.line.inPort with queue := if s.line.inPort.up then posted.map t.stateMsg else [] }
           outPort := { s.line.outPort with queue := [] }
           discarded := if s.line.inPort.up then s.line.discarded else posted.foldl (fun n _ => bump16 n) s.line.discarded }) ∧
        t.store = s.store ∧ t.blocks.period = s.blocks.period ∧ t.blocks.truckAlarm = none

/-- R180, R182, R183, R176, R199: LOCKED without access, for each order that needs it; a TABLE LOAD whose entry octets do not fill its
count is LOCKED too (the model's choice: log entry 61); UNLOCK opens access for 75000 cycles by the code, costs an attempt by a wrong one,
is LOCKED with no attempt left and DONE where the code is 0; LOCK closes access, and so does the end of the access period; an order of
unknown kind is UNKNOWN and one of a known kind that is out of its form INVALID, before access is judged (that the latter opens access
again where its kind needs it and has it is the model's reading: log entry 32); an order that finds the reply queue full or a restart
pending is discarded and counted. An end of the access period that is not due leaves the state as it is (log entry 6), and so does an
order that is not for the node (log entry 5): the model's choices. -/
def Obligations.AccessIsJudgedFirst : Prop :=
  (∀ (h : OrderHdr) (o : Order) (s : State), Takes h s → o.inForm = true → kindNeedsAccess o.code = true → s.access = false →
    exec (o.command h) s = .next (replied h o.code .locked [] (taken o.code s))) ∧
  (∀ (h : OrderHdr) (code : Nat) (s : State), Takes h s →
    let m := (taken 8 s).mgmt
    let own := s.working.commission.code
    (own = 0 → exec (.unlock h code) s = .next (replied h 8 .done [] (taken 8 s))) ∧
    (own ≠ 0 → m.attempts = 0 → exec (.unlock h code) s = .next (replied h 8 .locked [] (taken 8 s))) ∧
    (own ≠ 0 → m.attempts ≠ 0 → code = own → exec (.unlock h code) s =
      .next (replied h 8 .done [] ((taken 8 s).setMgmt { m with accessOpen := true, period := 75000, attempts := 5 }))) ∧
    (own ≠ 0 → m.attempts ≠ 0 → code ≠ own → exec (.unlock h code) s =
      .next (replied h 8 .locked [] ((taken 8 s).setMgmt { m with attempts := m.attempts - 1 })))) ∧
  (∀ (h : OrderHdr) (s : State), Takes h s →
    exec (.lock h) s = .next (replied h 9 .done [] ((taken 9 s).setMgmt { (taken 9 s).mgmt with accessOpen := false, period := 0 }))) ∧
  (∀ s : State, s.powered = true → NoNotices s →
    (s.mgmt.accessOpen = true → s.mgmt.period = 0 → exec .accessExpiry s = .next (s.setMgmt { s.mgmt with accessOpen := false })) ∧
    (s.mgmt.accessOpen = false ∨ s.mgmt.period ≠ 0 → exec .accessExpiry s = .next s)) ∧
  (∀ (h : OrderHdr) (kind : Nat) (s : State), Takes h s → kind = 0 ∨ 22 < kind →
    exec (.unknownOrder h kind) s = .next (replied h kind .unknown [] (taken kind s))) ∧
  (∀ (h : OrderHdr) (kind : Nat) (s : State), Takes h s → 1 ≤ kind → kind ≤ 22 →
    exec (.unknownOrder h kind) s = .next (replied h kind .invalid [] (taken kind s))) ∧
  (∀ (h : OrderHdr) (o : Order) (s : State), s.powered = true → NoNotices s → o.inForm = true →
    (s.reachable h = true → s.mgmt.restart ≠ none ∨ h.bcast = false ∧ s.repliesFull = true →
      exec (o.command h) s = .next (s.setMgmt { s.mgmt with discarded := bump 65535 s.mgmt.discarded })) ∧
    (s.reachable h = false → exec (o.command h) s = .next s))

/-! ## Supply and power-on -/

/-- R188, R187, R36, R26, R77, R102: power-on takes the working tables from a good store, or the factory tables with STORE FAULT and the
cause STORE; the latch is set by POWER at cycle 0 and the output asserted, and every block takes its power-on values. The store is what it
was, with no write in flight; the reset input held active during one leaves it old, new or failing (its choice is free: log entry 3). Loss
of supply stops the node, with the contactor open, and a store write in flight leaves the store failing its check; nothing but power-on
then acts: each other command leaves the state as it is, the model's choice (log entry 11), and the commands that wait are kept (log entry
1). -/
def Obligations.PowerOnAndSupplyLoss : Prop :=
  (∀ s : State,
    ∃ t, exec .powerOn s = .next t ∧
      (s.mgmt.write = none ∨ s.powered = false → t.store = s.store) ∧
      (∀ w, s.mgmt.write = some w → t.store = s.store ∨ t.store = { tables := w.copy, good := true } ∨ t.store = { s.store with good := false }) ∧
      (∀ tables, tables = (if t.store.good then t.store.tables else factoryTables) →
        t.working.commission = tables.commission ∧ t.working.levelMap = tables.levelMap ∧ t.working.spurs = tables.spurs ∧
        t.working.channels = tables.channels ∧ t.working.blocks = tables.blocks ∧ t.working.refuges = tables.refuges) ∧
      t.level.latch = true ∧ t.level.output = true ∧ t.level.firstCause = some (.power, 0) ∧ Cause.power ∈ t.level.causes ∧
      (t.store.good = false → Cause.store ∈ t.level.causes) ∧ t.mgmt.storeFault = !t.store.good ∧
      outsideActions t = outsideActions (State.poweredOn t.store s.pending (s.freeCount + 1)) ∧ t.calls = .start ∧ t.slots = .start) ∧
  (∀ s : State, s.powered = true →
    ∃ t, exec .supplyLoss s = .next t ∧ t.isolated = true ∧
      t = { s with powered := false, store := if s.mgmt.write.isSome then { s.store with good := false } else s.store }) ∧
  ∀ (c : Instr) (s : State), s.powered = false → c ≠ .powerOn → exec c s = .next s
end

