-- ==== Sys2Proof/Laws/Tab.lean ====
section
/-! SUPPORT. The laws of fixed-size tables: what reading gives after a write, and what a walk over all entries keeps. -/

namespace Sys2Proof

variable {n : Nat} {α β : Type}

theorem Tab.ext {t u : Tab n α} (h : ∀ i, t.get i = u.get i) : t = u := by
  apply Vector.ext
  intro i hi
  exact h ⟨i, hi⟩

@[simp] theorem Tab.get_put_same (t : Tab n α) (i : Fin n) (x : α) : (t.put i x).get i = x := by
  simp [Tab.get, Tab.put]

theorem Tab.get_put_ne (t : Tab n α) {i j : Fin n} (x : α) (h : j ≠ i) : (t.put i x).get j = t.get j := by
  have : i.val ≠ j.val := fun e => h (Fin.ext e.symm)
  simp [Tab.get, Tab.put, this]

theorem Tab.get_put (t : Tab n α) (i j : Fin n) (x : α) : (t.put i x).get j = if j = i then x else t.get j := by
  split
  · rename_i h; subst h; simp
  · rename_i h; exact Tab.get_put_ne t x h

@[simp] theorem Tab.put_get (t : Tab n α) (i : Fin n) : t.put i (t.get i) = t :=
  Tab.ext fun j => by rw [Tab.get_put]; split <;> simp_all

@[simp] theorem Tab.get_fill (i : Fin n) (x : α) : (Tab.fill n x).get i = x := by
  simp [Tab.get, Tab.fill]

@[simp] theorem Tab.get_build (f : Fin n → α) (i : Fin n) : (Tab.build n f).get i = f i := by
  simp [Tab.get, Tab.build]

@[simp] theorem Tab.get_mapIx (t : Tab n α) (f : Fin n → α → β) (i : Fin n) : (t.mapIx f).get i = f i (t.get i) := by
  simp [Tab.mapIx]

/-- A write that a view of the entries does not show. -/
theorem Tab.mapIx_put (t : Tab n α) (f : Fin n → α → β) (i : Fin n) (x : α) (h : f i x = f i (t.get i)) :
    (t.put i x).mapIx f = t.mapIx f :=
  Tab.ext fun j => by
    simp only [Tab.get_mapIx, Tab.get_put]
    split
    · rename_i e; subst e; exact h
    · rfl

/-- The index found meets the test. -/
theorem Tab.firstIx_some {t : Tab n α} {p : Fin n → α → Bool} {i : Fin n} (h : t.firstIx p = some i) :
    p i (t.get i) = true := by
  have := List.find?_some h
  simpa using this

/-- Some entry meets a test when one does. -/
theorem Tab.anyIx_iff (t : Tab n α) (p : Fin n → α → Bool) : t.anyIx p = true ↔ ∃ i, p i (t.get i) = true := by
  simp [Tab.anyIx]

/-- What every turn of a walk keeps, the walk keeps. -/
theorem forEach_keeps {σ γ : Type} (view : σ → γ) (n : Nat) (f : Fin n → σ → σ)
    (h : ∀ i s, view (f i s) = view s) (s : σ) : view (forEach n f s) = view s := by
  unfold forEach
  generalize List.finRange n = l
  induction l generalizing s with
  | nil => rfl
  | cons i l ih => simp only [List.foldl_cons]; rw [ih, h]

/-- What every turn of a walk keeps true, the walk keeps true. -/
theorem forEach_invariant {σ : Type} (P : σ → Prop) (n : Nat) (f : Fin n → σ → σ)
    (h : ∀ i s, P s → P (f i s)) (s : σ) (hs : P s) : P (forEach n f s) := by
  unfold forEach
  generalize List.finRange n = l
  induction l generalizing s with
  | nil => exact hs
  | cons i l ih => exact ih _ (h i s hs)

/-- A walk along a list keeps what its turns keep. -/
theorem foldl_keeps {σ γ ι : Type} (view : σ → γ) (f : σ → ι → σ) (h : ∀ s i, view (f s i) = view s) (l : List ι) (s : σ) :
    view (l.foldl f s) = view s := by
  induction l generalizing s with
  | nil => rfl
  | cons i l ih => simp only [List.foldl_cons]; rw [ih, h]

end Sys2Proof
end

