-- ==== Sys2Proof/Laws/State.lean ====
section
/-! SUPPORT. What each write of one record leaves in each field of the state: one lemma per field per write. -/

namespace Sys2Proof.Machine

variable (s : State)

/-! ### setChan -/

@[simp] theorem State.setChan_pending (c : ChanId) (x : Channel) : (s.setChan c x).pending = s.pending := rfl
@[simp] theorem State.setChan_powered (c : ChanId) (x : Channel) : (s.setChan c x).powered = s.powered := rfl
@[simp] theorem State.setChan_working (c : ChanId) (x : Channel) : (s.setChan c x).working = s.working := rfl
@[simp] theorem State.setChan_store (c : ChanId) (x : Channel) : (s.setChan c x).store = s.store := rfl
@[simp] theorem State.setChan_level (c : ChanId) (x : Channel) : (s.setChan c x).level = s.level := rfl
@[simp] theorem State.setChan_air (c : ChanId) (x : Channel) : (s.setChan c x).air = s.air.put c x := rfl
@[simp] theorem State.setChan_line (c : ChanId) (x : Channel) : (s.setChan c x).line = s.line := rfl
@[simp] theorem State.setChan_slots (c : ChanId) (x : Channel) : (s.setChan c x).slots = s.slots := rfl
@[simp] theorem State.setChan_calls (c : ChanId) (x : Channel) : (s.setChan c x).calls = s.calls := rfl
@[simp] theorem State.setChan_blocks (c : ChanId) (x : Channel) : (s.setChan c x).blocks = s.blocks := rfl
@[simp] theorem State.setChan_refuges (c : ChanId) (x : Channel) : (s.setChan c x).refuges = s.refuges := rfl
@[simp] theorem State.setChan_action (c : ChanId) (x : Channel) : (s.setChan c x).action = s.action := rfl
@[simp] theorem State.setChan_spurs (c : ChanId) (x : Channel) : (s.setChan c x).spurs = s.spurs := rfl
@[simp] theorem State.setChan_mgmt (c : ChanId) (x : Channel) : (s.setChan c x).mgmt = s.mgmt := rfl
@[simp] theorem State.setChan_pins (c : ChanId) (x : Channel) : (s.setChan c x).pins = s.pins := rfl
@[simp] theorem State.setChan_freeCount (c : ChanId) (x : Channel) : (s.setChan c x).freeCount = s.freeCount := rfl

/-! ### setSpur -/

@[simp] theorem State.setSpur_pending (p : SpurId) (x : Spur) : (s.setSpur p x).pending = s.pending := rfl
@[simp] theorem State.setSpur_powered (p : SpurId) (x : Spur) : (s.setSpur p x).powered = s.powered := rfl
@[simp] theorem State.setSpur_working (p : SpurId) (x : Spur) : (s.setSpur p x).working = s.working := rfl
@[simp] theorem State.setSpur_store (p : SpurId) (x : Spur) : (s.setSpur p x).store = s.store := rfl
@[simp] theorem State.setSpur_level (p : SpurId) (x : Spur) : (s.setSpur p x).level = s.level := rfl
@[simp] theorem State.setSpur_air (p : SpurId) (x : Spur) : (s.setSpur p x).air = s.air := rfl
@[simp] theorem State.setSpur_line (p : SpurId) (x : Spur) : (s.setSpur p x).line = s.line := rfl
@[simp] theorem State.setSpur_slots (p : SpurId) (x : Spur) : (s.setSpur p x).slots = s.slots := rfl
@[simp] theorem State.setSpur_calls (p : SpurId) (x : Spur) : (s.setSpur p x).calls = s.calls := rfl
@[simp] theorem State.setSpur_blocks (p : SpurId) (x : Spur) : (s.setSpur p x).blocks = s.blocks := rfl
@[simp] theorem State.setSpur_refuges (p : SpurId) (x : Spur) : (s.setSpur p x).refuges = s.refuges := rfl
@[simp] theorem State.setSpur_action (p : SpurId) (x : Spur) : (s.setSpur p x).action = s.action := rfl
@[simp] theorem State.setSpur_spurs (p : SpurId) (x : Spur) : (s.setSpur p x).spurs = s.spurs.put p x := rfl
@[simp] theorem State.setSpur_mgmt (p : SpurId) (x : Spur) : (s.setSpur p x).mgmt = s.mgmt := rfl
@[simp] theorem State.setSpur_pins (p : SpurId) (x : Spur) : (s.setSpur p x).pins = s.pins := rfl
@[simp] theorem State.setSpur_freeCount (p : SpurId) (x : Spur) : (s.setSpur p x).freeCount = s.freeCount := rfl

/-! ### setRefuge -/

@[simp] theorem State.setRefuge_pending (r : PairIx) (x : Refuge) : (s.setRefuge r x).pending = s.pending := rfl
@[simp] theorem State.setRefuge_powered (r : PairIx) (x : Refuge) : (s.setRefuge r x).powered = s.powered := rfl
@[simp] theorem State.setRefuge_working (r : PairIx) (x : Refuge) : (s.setRefuge r x).working = s.working := rfl
@[simp] theorem State.setRefuge_store (r : PairIx) (x : Refuge) : (s.setRefuge r x).store = s.store := rfl
@[simp] theorem State.setRefuge_level (r : PairIx) (x : Refuge) : (s.setRefuge r x).level = s.level := rfl
@[simp] theorem State.setRefuge_air (r : PairIx) (x : Refuge) : (s.setRefuge r x).air = s.air := rfl
@[simp] theorem State.setRefuge_line (r : PairIx) (x : Refuge) : (s.setRefuge r x).line = s.line := rfl
@[simp] theorem State.setRefuge_slots (r : PairIx) (x : Refuge) : (s.setRefuge r x).slots = s.slots := rfl
@[simp] theorem State.setRefuge_calls (r : PairIx) (x : Refuge) : (s.setRefuge r x).calls = s.calls := rfl
@[simp] theorem State.setRefuge_blocks (r : PairIx) (x : Refuge) : (s.setRefuge r x).blocks = s.blocks := rfl
@[simp] theorem State.setRefuge_refuges (r : PairIx) (x : Refuge) : (s.setRefuge r x).refuges = s.refuges.put r x := rfl
@[simp] theorem State.setRefuge_action (r : PairIx) (x : Refuge) : (s.setRefuge r x).action = s.action := rfl
@[simp] theorem State.setRefuge_spurs (r : PairIx) (x : Refuge) : (s.setRefuge r x).spurs = s.spurs := rfl
@[simp] theorem State.setRefuge_mgmt (r : PairIx) (x : Refuge) : (s.setRefuge r x).mgmt = s.mgmt := rfl
@[simp] theorem State.setRefuge_pins (r : PairIx) (x : Refuge) : (s.setRefuge r x).pins = s.pins := rfl
@[simp] theorem State.setRefuge_freeCount (r : PairIx) (x : Refuge) : (s.setRefuge r x).freeCount = s.freeCount := rfl

/-! ### setCall -/

@[simp] theorem State.setCall_pending (r : RecId) (x : CallRec) : (s.setCall r x).pending = s.pending := rfl
@[simp] theorem State.setCall_powered (r : RecId) (x : CallRec) : (s.setCall r x).powered = s.powered := rfl
@[simp] theorem State.setCall_working (r : RecId) (x : CallRec) : (s.setCall r x).working = s.working := rfl
@[simp] theorem State.setCall_store (r : RecId) (x : CallRec) : (s.setCall r x).store = s.store := rfl
@[simp] theorem State.setCall_level (r : RecId) (x : CallRec) : (s.setCall r x).level = s.level := rfl
@[simp] theorem State.setCall_air (r : RecId) (x : CallRec) : (s.setCall r x).air = s.air := rfl
@[simp] theorem State.setCall_line (r : RecId) (x : CallRec) : (s.setCall r x).line = s.line := rfl
@[simp] theorem State.setCall_slots (r : RecId) (x : CallRec) : (s.setCall r x).slots = s.slots := rfl
@[simp] theorem State.setCall_calls (r : RecId) (x : CallRec) : (s.setCall r x).calls = { s.calls with recs := s.calls.recs.put r x } := rfl
@[simp] theorem State.setCall_blocks (r : RecId) (x : CallRec) : (s.setCall r x).blocks = s.blocks := rfl
@[simp] theorem State.setCall_refuges (r : RecId) (x : CallRec) : (s.setCall r x).refuges = s.refuges := rfl
@[simp] theorem State.setCall_action (r : RecId) (x : CallRec) : (s.setCall r x).action = s.action := rfl
@[simp] theorem State.setCall_spurs (r : RecId) (x : CallRec) : (s.setCall r x).spurs = s.spurs := rfl
@[simp] theorem State.setCall_mgmt (r : RecId) (x : CallRec) : (s.setCall r x).mgmt = s.mgmt := rfl
@[simp] theorem State.setCall_pins (r : RecId) (x : CallRec) : (s.setCall r x).pins = s.pins := rfl
@[simp] theorem State.setCall_freeCount (r : RecId) (x : CallRec) : (s.setCall r x).freeCount = s.freeCount := rfl

/-! ### setHook -/

@[simp] theorem State.setHook_pending (p : SpurId) (b : Bool) : (s.setHook p b).pending = s.pending := rfl
@[simp] theorem State.setHook_powered (p : SpurId) (b : Bool) : (s.setHook p b).powered = s.powered := rfl
@[simp] theorem State.setHook_working (p : SpurId) (b : Bool) : (s.setHook p b).working = s.working := rfl
@[simp] theorem State.setHook_store (p : SpurId) (b : Bool) : (s.setHook p b).store = s.store := rfl
@[simp] theorem State.setHook_level (p : SpurId) (b : Bool) : (s.setHook p b).level = s.level := rfl
@[simp] theorem State.setHook_air (p : SpurId) (b : Bool) : (s.setHook p b).air = s.air := rfl
@[simp] theorem State.setHook_line (p : SpurId) (b : Bool) : (s.setHook p b).line = s.line := rfl
@[simp] theorem State.setHook_slots (p : SpurId) (b : Bool) : (s.setHook p b).slots = s.slots := rfl
@[simp] theorem State.setHook_calls (p : SpurId) (b : Bool) : (s.setHook p b).calls = { s.calls with hooks := s.calls.hooks.put p b } := rfl
@[simp] theorem State.setHook_blocks (p : SpurId) (b : Bool) : (s.setHook p b).blocks = s.blocks := rfl
@[simp] theorem State.setHook_refuges (p : SpurId) (b : Bool) : (s.setHook p b).refuges = s.refuges := rfl
@[simp] theorem State.setHook_action (p : SpurId) (b : Bool) : (s.setHook p b).action = s.action := rfl
@[simp] theorem State.setHook_spurs (p : SpurId) (b : Bool) : (s.setHook p b).spurs = s.spurs := rfl
@[simp] theorem State.setHook_mgmt (p : SpurId) (b : Bool) : (s.setHook p b).mgmt = s.mgmt := rfl
@[simp] theorem State.setHook_pins (p : SpurId) (b : Bool) : (s.setHook p b).pins = s.pins := rfl
@[simp] theorem State.setHook_freeCount (p : SpurId) (b : Bool) : (s.setHook p b).freeCount = s.freeCount := rfl

/-! ### setSlot -/

@[simp] theorem State.setSlot_pending (e : SlotIx) (x : SlotEntry) : (s.setSlot e x).pending = s.pending := rfl
@[simp] theorem State.setSlot_powered (e : SlotIx) (x : SlotEntry) : (s.setSlot e x).powered = s.powered := rfl
@[simp] theorem State.setSlot_working (e : SlotIx) (x : SlotEntry) : (s.setSlot e x).working = s.working := rfl
@[simp] theorem State.setSlot_store (e : SlotIx) (x : SlotEntry) : (s.setSlot e x).store = s.store := rfl
@[simp] theorem State.setSlot_level (e : SlotIx) (x : SlotEntry) : (s.setSlot e x).level = s.level := rfl
@[simp] theorem State.setSlot_air (e : SlotIx) (x : SlotEntry) : (s.setSlot e x).air = s.air := rfl
@[simp] theorem State.setSlot_line (e : SlotIx) (x : SlotEntry) : (s.setSlot e x).line = s.line := rfl
@[simp] theorem State.setSlot_slots (e : SlotIx) (x : SlotEntry) : (s.setSlot e x).slots = { s.slots with map := s.slots.map.put e x } := rfl
@[simp] theorem State.setSlot_calls (e : SlotIx) (x : SlotEntry) : (s.setSlot e x).calls = s.calls := rfl
@[simp] theorem State.setSlot_blocks (e : SlotIx) (x : SlotEntry) : (s.setSlot e x).blocks = s.blocks := rfl
@[simp] theorem State.setSlot_refuges (e : SlotIx) (x : SlotEntry) : (s.setSlot e x).refuges = s.refuges := rfl
@[simp] theorem State.setSlot_action (e : SlotIx) (x : SlotEntry) : (s.setSlot e x).action = s.action := rfl
@[simp] theorem State.setSlot_spurs (e : SlotIx) (x : SlotEntry) : (s.setSlot e x).spurs = s.spurs := rfl
@[simp] theorem State.setSlot_mgmt (e : SlotIx) (x : SlotEntry) : (s.setSlot e x).mgmt = s.mgmt := rfl
@[simp] theorem State.setSlot_pins (e : SlotIx) (x : SlotEntry) : (s.setSlot e x).pins = s.pins := rfl
@[simp] theorem State.setSlot_freeCount (e : SlotIx) (x : SlotEntry) : (s.setSlot e x).freeCount = s.freeCount := rfl

/-! ### setMaster -/

@[simp] theorem State.setMaster_pending (i : BlockIx) (m : Master) : (s.setMaster i m).pending = s.pending := rfl
@[simp] theorem State.setMaster_powered (i : BlockIx) (m : Master) : (s.setMaster i m).powered = s.powered := rfl
@[simp] theorem State.setMaster_working (i : BlockIx) (m : Master) : (s.setMaster i m).working = s.working := rfl
@[simp] theorem State.setMaster_store (i : BlockIx) (m : Master) : (s.setMaster i m).store = s.store := rfl
@[simp] theorem State.setMaster_level (i : BlockIx) (m : Master) : (s.setMaster i m).level = s.level := rfl
@[simp] theorem State.setMaster_air (i : BlockIx) (m : Master) : (s.setMaster i m).air = s.air := rfl
@[simp] theorem State.setMaster_line (i : BlockIx) (m : Master) : (s.setMaster i m).line = s.line := rfl
@[simp] theorem State.setMaster_slots (i : BlockIx) (m : Master) : (s.setMaster i m).slots = s.slots := rfl
@[simp] theorem State.setMaster_calls (i : BlockIx) (m : Master) : (s.setMaster i m).calls = s.calls := rfl
@[simp] theorem State.setMaster_blocks (i : BlockIx) (m : Master) : (s.setMaster i m).blocks = { s.blocks with entries := s.blocks.entries.put i { s.blocks.entries.get i with master := m } } := rfl
@[simp] theorem State.setMaster_refuges (i : BlockIx) (m : Master) : (s.setMaster i m).refuges = s.refuges := rfl
@[simp] theorem State.setMaster_action (i : BlockIx) (m : Master) : (s.setMaster i m).action = s.action := rfl
@[simp] theorem State.setMaster_spurs (i : BlockIx) (m : Master) : (s.setMaster i m).spurs = s.spurs := rfl
@[simp] theorem State.setMaster_mgmt (i : BlockIx) (m : Master) : (s.setMaster i m).mgmt = s.mgmt := rfl
@[simp] theorem State.setMaster_pins (i : BlockIx) (m : Master) : (s.setMaster i m).pins = s.pins := rfl
@[simp] theorem State.setMaster_freeCount (i : BlockIx) (m : Master) : (s.setMaster i m).freeCount = s.freeCount := rfl

/-! ### setFar -/

@[simp] theorem State.setFar_pending (i : BlockIx) (f : FarEnd) : (s.setFar i f).pending = s.pending := rfl
@[simp] theorem State.setFar_powered (i : BlockIx) (f : FarEnd) : (s.setFar i f).powered = s.powered := rfl
@[simp] theorem State.setFar_working (i : BlockIx) (f : FarEnd) : (s.setFar i f).working = s.working := rfl
@[simp] theorem State.setFar_store (i : BlockIx) (f : FarEnd) : (s.setFar i f).store = s.store := rfl
@[simp] theorem State.setFar_level (i : BlockIx) (f : FarEnd) : (s.setFar i f).level = s.level := rfl
@[simp] theorem State.setFar_air (i : BlockIx) (f : FarEnd) : (s.setFar i f).air = s.air := rfl
@[simp] theorem State.setFar_line (i : BlockIx) (f : FarEnd) : (s.setFar i f).line = s.line := rfl
@[simp] theorem State.setFar_slots (i : BlockIx) (f : FarEnd) : (s.setFar i f).slots = s.slots := rfl
@[simp] theorem State.setFar_calls (i : BlockIx) (f : FarEnd) : (s.setFar i f).calls = s.calls := rfl
@[simp] theorem State.setFar_blocks (i : BlockIx) (f : FarEnd) : (s.setFar i f).blocks = { s.blocks with entries := s.blocks.entries.put i { s.blocks.entries.get i with far := f } } := rfl
@[simp] theorem State.setFar_refuges (i : BlockIx) (f : FarEnd) : (s.setFar i f).refuges = s.refuges := rfl
@[simp] theorem State.setFar_action (i : BlockIx) (f : FarEnd) : (s.setFar i f).action = s.action := rfl
@[simp] theorem State.setFar_spurs (i : BlockIx) (f : FarEnd) : (s.setFar i f).spurs = s.spurs := rfl
@[simp] theorem State.setFar_mgmt (i : BlockIx) (f : FarEnd) : (s.setFar i f).mgmt = s.mgmt := rfl
@[simp] theorem State.setFar_pins (i : BlockIx) (f : FarEnd) : (s.setFar i f).pins = s.pins := rfl
@[simp] theorem State.setFar_freeCount (i : BlockIx) (f : FarEnd) : (s.setFar i f).freeCount = s.freeCount := rfl

/-! ### setMgmt -/

@[simp] theorem State.setMgmt_pending (m : Mgmt) : (s.setMgmt m).pending = s.pending := rfl
@[simp] theorem State.setMgmt_powered (m : Mgmt) : (s.setMgmt m).powered = s.powered := rfl
@[simp] theorem State.setMgmt_working (m : Mgmt) : (s.setMgmt m).working = s.working := rfl
@[simp] theorem State.setMgmt_store (m : Mgmt) : (s.setMgmt m).store = s.store := rfl
@[simp] theorem State.setMgmt_level (m : Mgmt) : (s.setMgmt m).level = s.level := rfl
@[simp] theorem State.setMgmt_air (m : Mgmt) : (s.setMgmt m).air = s.air := rfl
@[simp] theorem State.setMgmt_line (m : Mgmt) : (s.setMgmt m).line = s.line := rfl
@[simp] theorem State.setMgmt_slots (m : Mgmt) : (s.setMgmt m).slots = s.slots := rfl
@[simp] theorem State.setMgmt_calls (m : Mgmt) : (s.setMgmt m).calls = s.calls := rfl
@[simp] theorem State.setMgmt_blocks (m : Mgmt) : (s.setMgmt m).blocks = s.blocks := rfl
@[simp] theorem State.setMgmt_refuges (m : Mgmt) : (s.setMgmt m).refuges = s.refuges := rfl
@[simp] theorem State.setMgmt_action (m : Mgmt) : (s.setMgmt m).action = s.action := rfl
@[simp] theorem State.setMgmt_spurs (m : Mgmt) : (s.setMgmt m).spurs = s.spurs := rfl
@[simp] theorem State.setMgmt_mgmt (m : Mgmt) : (s.setMgmt m).mgmt = m := rfl
@[simp] theorem State.setMgmt_pins (m : Mgmt) : (s.setMgmt m).pins = s.pins := rfl
@[simp] theorem State.setMgmt_freeCount (m : Mgmt) : (s.setMgmt m).freeCount = s.freeCount := rfl

/-! ### setLevel -/

@[simp] theorem State.setLevel_pending (l : LevelUnit) : (s.setLevel l).pending = s.pending := rfl
@[simp] theorem State.setLevel_powered (l : LevelUnit) : (s.setLevel l).powered = s.powered := rfl
@[simp] theorem State.setLevel_working (l : LevelUnit) : (s.setLevel l).working = s.working := rfl
@[simp] theorem State.setLevel_store (l : LevelUnit) : (s.setLevel l).store = s.store := rfl
@[simp] theorem State.setLevel_level (l : LevelUnit) : (s.setLevel l).level = l := rfl
@[simp] theorem State.setLevel_air (l : LevelUnit) : (s.setLevel l).air = s.air := rfl
@[simp] theorem State.setLevel_line (l : LevelUnit) : (s.setLevel l).line = s.line := rfl
@[simp] theorem State.setLevel_slots (l : LevelUnit) : (s.setLevel l).slots = s.slots := rfl
@[simp] theorem State.setLevel_calls (l : LevelUnit) : (s.setLevel l).calls = s.calls := rfl
@[simp] theorem State.setLevel_blocks (l : LevelUnit) : (s.setLevel l).blocks = s.blocks := rfl
@[simp] theorem State.setLevel_refuges (l : LevelUnit) : (s.setLevel l).refuges = s.refuges := rfl
@[simp] theorem State.setLevel_action (l : LevelUnit) : (s.setLevel l).action = s.action := rfl
@[simp] theorem State.setLevel_spurs (l : LevelUnit) : (s.setLevel l).spurs = s.spurs := rfl
@[simp] theorem State.setLevel_mgmt (l : LevelUnit) : (s.setLevel l).mgmt = s.mgmt := rfl
@[simp] theorem State.setLevel_pins (l : LevelUnit) : (s.setLevel l).pins = s.pins := rfl
@[simp] theorem State.setLevel_freeCount (l : LevelUnit) : (s.setLevel l).freeCount = s.freeCount := rfl

/-! ### setLine -/

@[simp] theorem State.setLine_pending (l : Line) : (s.setLine l).pending = s.pending := rfl
@[simp] theorem State.setLine_powered (l : Line) : (s.setLine l).powered = s.powered := rfl
@[simp] theorem State.setLine_working (l : Line) : (s.setLine l).working = s.working := rfl
@[simp] theorem State.setLine_store (l : Line) : (s.setLine l).store = s.store := rfl
@[simp] theorem State.setLine_level (l : Line) : (s.setLine l).level = s.level := rfl
@[simp] theorem State.setLine_air (l : Line) : (s.setLine l).air = s.air := rfl
@[simp] theorem State.setLine_line (l : Line) : (s.setLine l).line = l := rfl
@[simp] theorem State.setLine_slots (l : Line) : (s.setLine l).slots = s.slots := rfl
@[simp] theorem State.setLine_calls (l : Line) : (s.setLine l).calls = s.calls := rfl
@[simp] theorem State.setLine_blocks (l : Line) : (s.setLine l).blocks = s.blocks := rfl
@[simp] theorem State.setLine_refuges (l : Line) : (s.setLine l).refuges = s.refuges := rfl
@[simp] theorem State.setLine_action (l : Line) : (s.setLine l).action = s.action := rfl
@[simp] theorem State.setLine_spurs (l : Line) : (s.setLine l).spurs = s.spurs := rfl
@[simp] theorem State.setLine_mgmt (l : Line) : (s.setLine l).mgmt = s.mgmt := rfl
@[simp] theorem State.setLine_pins (l : Line) : (s.setLine l).pins = s.pins := rfl
@[simp] theorem State.setLine_freeCount (l : Line) : (s.setLine l).freeCount = s.freeCount := rfl

/-! ### setAction -/

@[simp] theorem State.setAction_pending (a : ActionUnit) : (s.setAction a).pending = s.pending := rfl
@[simp] theorem State.setAction_powered (a : ActionUnit) : (s.setAction a).powered = s.powered := rfl
@[simp] theorem State.setAction_working (a : ActionUnit) : (s.setAction a).working = s.working := rfl
@[simp] theorem State.setAction_store (a : ActionUnit) : (s.setAction a).store = s.store := rfl
@[simp] theorem State.setAction_level (a : ActionUnit) : (s.setAction a).level = s.level := rfl
@[simp] theorem State.setAction_air (a : ActionUnit) : (s.setAction a).air = s.air := rfl
@[simp] theorem State.setAction_line (a : ActionUnit) : (s.setAction a).line = s.line := rfl
@[simp] theorem State.setAction_slots (a : ActionUnit) : (s.setAction a).slots = s.slots := rfl
@[simp] theorem State.setAction_calls (a : ActionUnit) : (s.setAction a).calls = s.calls := rfl
@[simp] theorem State.setAction_blocks (a : ActionUnit) : (s.setAction a).blocks = s.blocks := rfl
@[simp] theorem State.setAction_refuges (a : ActionUnit) : (s.setAction a).refuges = s.refuges := rfl
@[simp] theorem State.setAction_action (a : ActionUnit) : (s.setAction a).action = a := rfl
@[simp] theorem State.setAction_spurs (a : ActionUnit) : (s.setAction a).spurs = s.spurs := rfl
@[simp] theorem State.setAction_mgmt (a : ActionUnit) : (s.setAction a).mgmt = s.mgmt := rfl
@[simp] theorem State.setAction_pins (a : ActionUnit) : (s.setAction a).pins = s.pins := rfl
@[simp] theorem State.setAction_freeCount (a : ActionUnit) : (s.setAction a).freeCount = s.freeCount := rfl

/-! ### setBlocks -/

@[simp] theorem State.setBlocks_pending (b : Blocks) : (s.setBlocks b).pending = s.pending := rfl
@[simp] theorem State.setBlocks_powered (b : Blocks) : (s.setBlocks b).powered = s.powered := rfl
@[simp] theorem State.setBlocks_working (b : Blocks) : (s.setBlocks b).working = s.working := rfl
@[simp] theorem State.setBlocks_store (b : Blocks) : (s.setBlocks b).store = s.store := rfl
@[simp] theorem State.setBlocks_level (b : Blocks) : (s.setBlocks b).level = s.level := rfl
@[simp] theorem State.setBlocks_air (b : Blocks) : (s.setBlocks b).air = s.air := rfl
@[simp] theorem State.setBlocks_line (b : Blocks) : (s.setBlocks b).line = s.line := rfl
@[simp] theorem State.setBlocks_slots (b : Blocks) : (s.setBlocks b).slots = s.slots := rfl
@[simp] theorem State.setBlocks_calls (b : Blocks) : (s.setBlocks b).calls = s.calls := rfl
@[simp] theorem State.setBlocks_blocks (b : Blocks) : (s.setBlocks b).blocks = b := rfl
@[simp] theorem State.setBlocks_refuges (b : Blocks) : (s.setBlocks b).refuges = s.refuges := rfl
@[simp] theorem State.setBlocks_action (b : Blocks) : (s.setBlocks b).action = s.action := rfl
@[simp] theorem State.setBlocks_spurs (b : Blocks) : (s.setBlocks b).spurs = s.spurs := rfl
@[simp] theorem State.setBlocks_mgmt (b : Blocks) : (s.setBlocks b).mgmt = s.mgmt := rfl
@[simp] theorem State.setBlocks_pins (b : Blocks) : (s.setBlocks b).pins = s.pins := rfl
@[simp] theorem State.setBlocks_freeCount (b : Blocks) : (s.setBlocks b).freeCount = s.freeCount := rfl

/-! ### setCalls -/

@[simp] theorem State.setCalls_pending (c : Calls) : (s.setCalls c).pending = s.pending := rfl
@[simp] theorem State.setCalls_powered (c : Calls) : (s.setCalls c).powered = s.powered := rfl
@[simp] theorem State.setCalls_working (c : Calls) : (s.setCalls c).working = s.working := rfl
@[simp] theorem State.setCalls_store (c : Calls) : (s.setCalls c).store = s.store := rfl
@[simp] theorem State.setCalls_level (c : Calls) : (s.setCalls c).level = s.level := rfl
@[simp] theorem State.setCalls_air (c : Calls) : (s.setCalls c).air = s.air := rfl
@[simp] theorem State.setCalls_line (c : Calls) : (s.setCalls c).line = s.line := rfl
@[simp] theorem State.setCalls_slots (c : Calls) : (s.setCalls c).slots = s.slots := rfl
@[simp] theorem State.setCalls_calls (c : Calls) : (s.setCalls c).calls = c := rfl
@[simp] theorem State.setCalls_blocks (c : Calls) : (s.setCalls c).blocks = s.blocks := rfl
@[simp] theorem State.setCalls_refuges (c : Calls) : (s.setCalls c).refuges = s.refuges := rfl
@[simp] theorem State.setCalls_action (c : Calls) : (s.setCalls c).action = s.action := rfl
@[simp] theorem State.setCalls_spurs (c : Calls) : (s.setCalls c).spurs = s.spurs := rfl
@[simp] theorem State.setCalls_mgmt (c : Calls) : (s.setCalls c).mgmt = s.mgmt := rfl
@[simp] theorem State.setCalls_pins (c : Calls) : (s.setCalls c).pins = s.pins := rfl
@[simp] theorem State.setCalls_freeCount (c : Calls) : (s.setCalls c).freeCount = s.freeCount := rfl

/-! ### setSlots -/

@[simp] theorem State.setSlots_pending (x : SlotSwitch) : (s.setSlots x).pending = s.pending := rfl
@[simp] theorem State.setSlots_powered (x : SlotSwitch) : (s.setSlots x).powered = s.powered := rfl
@[simp] theorem State.setSlots_working (x : SlotSwitch) : (s.setSlots x).working = s.working := rfl
@[simp] theorem State.setSlots_store (x : SlotSwitch) : (s.setSlots x).store = s.store := rfl
@[simp] theorem State.setSlots_level (x : SlotSwitch) : (s.setSlots x).level = s.level := rfl
@[simp] theorem State.setSlots_air (x : SlotSwitch) : (s.setSlots x).air = s.air := rfl
@[simp] theorem State.setSlots_line (x : SlotSwitch) : (s.setSlots x).line = s.line := rfl
@[simp] theorem State.setSlots_slots (x : SlotSwitch) : (s.setSlots x).slots = x := rfl
@[simp] theorem State.setSlots_calls (x : SlotSwitch) : (s.setSlots x).calls = s.calls := rfl
@[simp] theorem State.setSlots_blocks (x : SlotSwitch) : (s.setSlots x).blocks = s.blocks := rfl
@[simp] theorem State.setSlots_refuges (x : SlotSwitch) : (s.setSlots x).refuges = s.refuges := rfl
@[simp] theorem State.setSlots_action (x : SlotSwitch) : (s.setSlots x).action = s.action := rfl
@[simp] theorem State.setSlots_spurs (x : SlotSwitch) : (s.setSlots x).spurs = s.spurs := rfl
@[simp] theorem State.setSlots_mgmt (x : SlotSwitch) : (s.setSlots x).mgmt = s.mgmt := rfl
@[simp] theorem State.setSlots_pins (x : SlotSwitch) : (s.setSlots x).pins = s.pins := rfl
@[simp] theorem State.setSlots_freeCount (x : SlotSwitch) : (s.setSlots x).freeCount = s.freeCount := rfl

/-! ### setWorking -/

@[simp] theorem State.setWorking_pending (t : Tables) : (s.setWorking t).pending = s.pending := rfl
@[simp] theorem State.setWorking_powered (t : Tables) : (s.setWorking t).powered = s.powered := rfl
@[simp] theorem State.setWorking_working (t : Tables) : (s.setWorking t).working = t := rfl
@[simp] theorem State.setWorking_store (t : Tables) : (s.setWorking t).store = s.store := rfl
@[simp] theorem State.setWorking_level (t : Tables) : (s.setWorking t).level = s.level := rfl
@[simp] theorem State.setWorking_air (t : Tables) : (s.setWorking t).air = s.air := rfl
@[simp] theorem State.setWorking_line (t : Tables) : (s.setWorking t).line = s.line := rfl
@[simp] theorem State.setWorking_slots (t : Tables) : (s.setWorking t).slots = s.slots := rfl
@[simp] theorem State.setWorking_calls (t : Tables) : (s.setWorking t).calls = s.calls := rfl
@[simp] theorem State.setWorking_blocks (t : Tables) : (s.setWorking t).blocks = s.blocks := rfl
@[simp] theorem State.setWorking_refuges (t : Tables) : (s.setWorking t).refuges = s.refuges := rfl
@[simp] theorem State.setWorking_action (t : Tables) : (s.setWorking t).action = s.action := rfl
@[simp] theorem State.setWorking_spurs (t : Tables) : (s.setWorking t).spurs = s.spurs := rfl
@[simp] theorem State.setWorking_mgmt (t : Tables) : (s.setWorking t).mgmt = s.mgmt := rfl
@[simp] theorem State.setWorking_pins (t : Tables) : (s.setWorking t).pins = s.pins := rfl
@[simp] theorem State.setWorking_freeCount (t : Tables) : (s.setWorking t).freeCount = s.freeCount := rfl

/-! ### mark -/

@[simp] theorem State.mark_pending (x : Source) : (s.mark x).pending = s.pending := rfl
@[simp] theorem State.mark_powered (x : Source) : (s.mark x).powered = s.powered := rfl
@[simp] theorem State.mark_working (x : Source) : (s.mark x).working = s.working := rfl
@[simp] theorem State.mark_store (x : Source) : (s.mark x).store = s.store := rfl
@[simp] theorem State.mark_level (x : Source) : (s.mark x).level = s.level := rfl
@[simp] theorem State.mark_air (x : Source) : (s.mark x).air = s.air := rfl
@[simp] theorem State.mark_line (x : Source) : (s.mark x).line = s.line := rfl
@[simp] theorem State.mark_slots (x : Source) : (s.mark x).slots = s.slots := rfl
@[simp] theorem State.mark_calls (x : Source) : (s.mark x).calls = s.calls := rfl
@[simp] theorem State.mark_blocks (x : Source) : (s.mark x).blocks = s.blocks := rfl
@[simp] theorem State.mark_refuges (x : Source) : (s.mark x).refuges = s.refuges := rfl
@[simp] theorem State.mark_action (x : Source) : (s.mark x).action = s.action := rfl
@[simp] theorem State.mark_spurs (x : Source) : (s.mark x).spurs = s.spurs := rfl
@[simp] theorem State.mark_mgmt (x : Source) : (s.mark x).mgmt = { s.mgmt with holding := s.mgmt.holding.put x.ix (markHeld (s.held x)) } := rfl
@[simp] theorem State.mark_pins (x : Source) : (s.mark x).pins = s.pins := rfl
@[simp] theorem State.mark_freeCount (x : Source) : (s.mark x).freeCount = s.freeCount := rfl

/-! ### withdraw -/

@[simp] theorem State.withdraw_pending (x : Source) : (s.withdraw x).pending = s.pending := rfl
@[simp] theorem State.withdraw_powered (x : Source) : (s.withdraw x).powered = s.powered := rfl
@[simp] theorem State.withdraw_working (x : Source) : (s.withdraw x).working = s.working := rfl
@[simp] theorem State.withdraw_store (x : Source) : (s.withdraw x).store = s.store := rfl
@[simp] theorem State.withdraw_level (x : Source) : (s.withdraw x).level = s.level := rfl
@[simp] theorem State.withdraw_air (x : Source) : (s.withdraw x).air = s.air := rfl
@[simp] theorem State.withdraw_line (x : Source) : (s.withdraw x).line = s.line := rfl
@[simp] theorem State.withdraw_slots (x : Source) : (s.withdraw x).slots = s.slots := rfl
@[simp] theorem State.withdraw_calls (x : Source) : (s.withdraw x).calls = s.calls := rfl
@[simp] theorem State.withdraw_blocks (x : Source) : (s.withdraw x).blocks = s.blocks := rfl
@[simp] theorem State.withdraw_refuges (x : Source) : (s.withdraw x).refuges = s.refuges := rfl
@[simp] theorem State.withdraw_action (x : Source) : (s.withdraw x).action = s.action := rfl
@[simp] theorem State.withdraw_spurs (x : Source) : (s.withdraw x).spurs = s.spurs := rfl
@[simp] theorem State.withdraw_mgmt (x : Source) : (s.withdraw x).mgmt = { s.mgmt with holding := s.mgmt.holding.put x.ix none } := rfl
@[simp] theorem State.withdraw_pins (x : Source) : (s.withdraw x).pins = s.pins := rfl
@[simp] theorem State.withdraw_freeCount (x : Source) : (s.withdraw x).freeCount = s.freeCount := rfl

/-! ### notify -/

@[simp] theorem State.notify_pending (n : Notice) : (s.notify n).pending = s.pending := rfl
@[simp] theorem State.notify_powered (n : Notice) : (s.notify n).powered = s.powered := rfl
@[simp] theorem State.notify_working (n : Notice) : (s.notify n).working = s.working := rfl
@[simp] theorem State.notify_store (n : Notice) : (s.notify n).store = s.store := rfl
@[simp] theorem State.notify_level (n : Notice) : (s.notify n).level = s.level := rfl
@[simp] theorem State.notify_air (n : Notice) : (s.notify n).air = s.air := rfl
@[simp] theorem State.notify_line (n : Notice) : (s.notify n).line = s.line := rfl
@[simp] theorem State.notify_slots (n : Notice) : (s.notify n).slots = s.slots := rfl
@[simp] theorem State.notify_calls (n : Notice) : (s.notify n).calls = s.calls := rfl
@[simp] theorem State.notify_blocks (n : Notice) : (s.notify n).blocks = s.blocks := rfl
@[simp] theorem State.notify_refuges (n : Notice) : (s.notify n).refuges = s.refuges := rfl
@[simp] theorem State.notify_action (n : Notice) : (s.notify n).action = { s.action with notices := s.action.notices ++ [n] } := rfl
@[simp] theorem State.notify_spurs (n : Notice) : (s.notify n).spurs = s.spurs := rfl
@[simp] theorem State.notify_mgmt (n : Notice) : (s.notify n).mgmt = s.mgmt := rfl
@[simp] theorem State.notify_pins (n : Notice) : (s.notify n).pins = s.pins := rfl
@[simp] theorem State.notify_freeCount (n : Notice) : (s.notify n).freeCount = s.freeCount := rfl

/-! ### setPort -/

@[simp] theorem State.setPort_pending (d : Side) (x : LinePort) : (s.setPort d x).pending = s.pending := by cases d <;> rfl
@[simp] theorem State.setPort_powered (d : Side) (x : LinePort) : (s.setPort d x).powered = s.powered := by cases d <;> rfl
@[simp] theorem State.setPort_working (d : Side) (x : LinePort) : (s.setPort d x).working = s.working := by cases d <;> rfl
@[simp] theorem State.setPort_store (d : Side) (x : LinePort) : (s.setPort d x).store = s.store := by cases d <;> rfl
@[simp] theorem State.setPort_level (d : Side) (x : LinePort) : (s.setPort d x).level = s.level := by cases d <;> rfl
@[simp] theorem State.setPort_air (d : Side) (x : LinePort) : (s.setPort d x).air = s.air := by cases d <;> rfl
@[simp] theorem State.setPort_line_inbye (x : LinePort) : (s.setPort .inbye x).line = { s.line with inPort := x } := rfl
@[simp] theorem State.setPort_line_outbye (x : LinePort) : (s.setPort .outbye x).line = { s.line with outPort := x } := rfl
@[simp] theorem State.setPort_slots (d : Side) (x : LinePort) : (s.setPort d x).slots = s.slots := by cases d <;> rfl
@[simp] theorem State.setPort_calls (d : Side) (x : LinePort) : (s.setPort d x).calls = s.calls := by cases d <;> rfl
@[simp] theorem State.setPort_blocks (d : Side) (x : LinePort) : (s.setPort d x).blocks = s.blocks := by cases d <;> rfl
@[simp] theorem State.setPort_refuges (d : Side) (x : LinePort) : (s.setPort d x).refuges = s.refuges := by cases d <;> rfl
@[simp] theorem State.setPort_action (d : Side) (x : LinePort) : (s.setPort d x).action = s.action := by cases d <;> rfl
@[simp] theorem State.setPort_spurs (d : Side) (x : LinePort) : (s.setPort d x).spurs = s.spurs := by cases d <;> rfl
@[simp] theorem State.setPort_mgmt (d : Side) (x : LinePort) : (s.setPort d x).mgmt = s.mgmt := by cases d <;> rfl
@[simp] theorem State.setPort_pins (d : Side) (x : LinePort) : (s.setPort d x).pins = s.pins := by cases d <;> rfl
@[simp] theorem State.setPort_freeCount (d : Side) (x : LinePort) : (s.setPort d x).freeCount = s.freeCount := by cases d <;> rfl
@[simp] theorem State.setPort_port (d : Side) (x : LinePort) : (s.setPort d x).port d = x := by cases d <;> rfl
@[simp] theorem State.setPort_port_self (d : Side) : s.setPort d (s.port d) = s := by cases d <;> rfl

/-! ### Reading a record that has been written -/

@[simp] theorem State.setCall_call (r : RecId) (x : CallRec) : (s.setCall r x).call r = x := by simp [State.call]
theorem State.setCall_call_ne {r q : RecId} (x : CallRec) (h : q ≠ r) : (s.setCall r x).call q = s.call q := by
  simp [State.call, Tab.get_put_ne _ _ h]
@[simp] theorem State.setMaster_master (i : BlockIx) (m : Master) : (s.setMaster i m).master i = m := by simp [State.master]
@[simp] theorem State.setFar_farEnd (i : BlockIx) (f : FarEnd) : (s.setFar i f).farEnd i = f := by simp [State.farEnd]
@[simp] theorem State.setMaster_farEnd (i j : BlockIx) (m : Master) : (s.setMaster i m).farEnd j = s.farEnd j := by
  simp only [State.farEnd, State.setMaster_blocks, Tab.get_put]; split <;> simp_all
@[simp] theorem State.setFar_master (i j : BlockIx) (f : FarEnd) : (s.setFar i f).master j = s.master j := by
  simp only [State.master, State.setFar_blocks, Tab.get_put]; split <;> simp_all

/-! ### Marks made on a condition -/

@[simp] theorem State.markIf_pending (b : Bool) (x : Source) : (s.markIf b x).pending = s.pending := by cases b <;> rfl
@[simp] theorem State.markIf_powered (b : Bool) (x : Source) : (s.markIf b x).powered = s.powered := by cases b <;> rfl
@[simp] theorem State.markIf_working (b : Bool) (x : Source) : (s.markIf b x).working = s.working := by cases b <;> rfl
@[simp] theorem State.markIf_store (b : Bool) (x : Source) : (s.markIf b x).store = s.store := by cases b <;> rfl
@[simp] theorem State.markIf_level (b : Bool) (x : Source) : (s.markIf b x).level = s.level := by cases b <;> rfl
@[simp] theorem State.markIf_air (b : Bool) (x : Source) : (s.markIf b x).air = s.air := by cases b <;> rfl
@[simp] theorem State.markIf_line (b : Bool) (x : Source) : (s.markIf b x).line = s.line := by cases b <;> rfl
@[simp] theorem State.markIf_slots (b : Bool) (x : Source) : (s.markIf b x).slots = s.slots := by cases b <;> rfl
@[simp] theorem State.markIf_calls (b : Bool) (x : Source) : (s.markIf b x).calls = s.calls := by cases b <;> rfl
@[simp] theorem State.markIf_blocks (b : Bool) (x : Source) : (s.markIf b x).blocks = s.blocks := by cases b <;> rfl
@[simp] theorem State.markIf_refuges (b : Bool) (x : Source) : (s.markIf b x).refuges = s.refuges := by cases b <;> rfl
@[simp] theorem State.markIf_action (b : Bool) (x : Source) : (s.markIf b x).action = s.action := by cases b <;> rfl
@[simp] theorem State.markIf_spurs (b : Bool) (x : Source) : (s.markIf b x).spurs = s.spurs := by cases b <;> rfl
@[simp] theorem State.markIf_pins (b : Bool) (x : Source) : (s.markIf b x).pins = s.pins := by cases b <;> rfl
@[simp] theorem State.markIf_freeCount (b : Bool) (x : Source) : (s.markIf b x).freeCount = s.freeCount := by cases b <;> rfl
@[simp] theorem State.markIf_true (x : Source) : s.markIf true x = s.mark x := rfl
@[simp] theorem State.markIf_false (x : Source) : s.markIf false x = s := rfl

/-! ### Conditions read from the working tables -/

@[simp] theorem State.setChan_commissioned (c : ChanId) (x : Channel) : (s.setChan c x).commissioned = s.commissioned := rfl
@[simp] theorem State.setChan_spurType (c : ChanId) (x : Channel) (q : SpurId) : (s.setChan c x).spurType q = s.spurType q := rfl
@[simp] theorem State.setChan_refugeOn (c : ChanId) (x : Channel) (k : PairIx) : (s.setChan c x).refugeOn k = s.refugeOn k := rfl
@[simp] theorem State.setChan_blockOn (c : ChanId) (x : Channel) (j : BlockIx) : (s.setChan c x).blockOn j = s.blockOn j := rfl
@[simp] theorem State.setChan_isMaster (c : ChanId) (x : Channel) (j : BlockIx) : (s.setChan c x).isMaster j = s.isMaster j := rfl
@[simp] theorem State.setChan_isFar (c : ChanId) (x : Channel) (j : BlockIx) : (s.setChan c x).isFar j = s.isFar j := rfl
@[simp] theorem State.setChan_chanUsed (c : ChanId) (x : Channel) (d : ChanId) : (s.setChan c x).chanUsed d = s.chanUsed d := rfl
@[simp] theorem State.setChan_roleInForce (c : ChanId) (x : Channel) (j : PairIx) : (s.setChan c x).roleInForce j = s.roleInForce j := rfl
@[simp] theorem State.setSpur_commissioned (p : SpurId) (x : Spur) : (s.setSpur p x).commissioned = s.commissioned := rfl
@[simp] theorem State.setSpur_spurType (p : SpurId) (x : Spur) (q : SpurId) : (s.setSpur p x).spurType q = s.spurType q := rfl
@[simp] theorem State.setSpur_refugeOn (p : SpurId) (x : Spur) (k : PairIx) : (s.setSpur p x).refugeOn k = s.refugeOn k := rfl
@[simp] theorem State.setSpur_blockOn (p : SpurId) (x : Spur) (j : BlockIx) : (s.setSpur p x).blockOn j = s.blockOn j := rfl
@[simp] theorem State.setSpur_isMaster (p : SpurId) (x : Spur) (j : BlockIx) : (s.setSpur p x).isMaster j = s.isMaster j := rfl
@[simp] theorem State.setSpur_isFar (p : SpurId) (x : Spur) (j : BlockIx) : (s.setSpur p x).isFar j = s.isFar j := rfl
@[simp] theorem State.setSpur_chanUsed (p : SpurId) (x : Spur) (d : ChanId) : (s.setSpur p x).chanUsed d = s.chanUsed d := rfl
@[simp] theorem State.setSpur_roleInForce (p : SpurId) (x : Spur) (j : PairIx) : (s.setSpur p x).roleInForce j = s.roleInForce j := rfl
@[simp] theorem State.setRefuge_commissioned (r : PairIx) (x : Refuge) : (s.setRefuge r x).commissioned = s.commissioned := rfl
@[simp] theorem State.setRefuge_spurType (r : PairIx) (x : Refuge) (q : SpurId) : (s.setRefuge r x).spurType q = s.spurType q := rfl
@[simp] theorem State.setRefuge_refugeOn (r : PairIx) (x : Refuge) (k : PairIx) : (s.setRefuge r x).refugeOn k = s.refugeOn k := rfl
@[simp] theorem State.setRefuge_blockOn (r : PairIx) (x : Refuge) (j : BlockIx) : (s.setRefuge r x).blockOn j = s.blockOn j := rfl
@[simp] theorem State.setRefuge_isMaster (r : PairIx) (x : Refuge) (j : BlockIx) : (s.setRefuge r x).isMaster j = s.isMaster j := rfl
@[simp] theorem State.setRefuge_isFar (r : PairIx) (x : Refuge) (j : BlockIx) : (s.setRefuge r x).isFar j = s.isFar j := rfl
@[simp] theorem State.setRefuge_chanUsed (r : PairIx) (x : Refuge) (d : ChanId) : (s.setRefuge r x).chanUsed d = s.chanUsed d := rfl
@[simp] theorem State.setRefuge_roleInForce (r : PairIx) (x : Refuge) (j : PairIx) : (s.setRefuge r x).roleInForce j = s.roleInForce j := rfl
@[simp] theorem State.setCall_commissioned (r : RecId) (x : CallRec) : (s.setCall r x).commissioned = s.commissioned := rfl
@[simp] theorem State.setCall_spurType (r : RecId) (x : CallRec) (q : SpurId) : (s.setCall r x).spurType q = s.spurType q := rfl
@[simp] theorem State.setCall_refugeOn (r : RecId) (x : CallRec) (k : PairIx) : (s.setCall r x).refugeOn k = s.refugeOn k := rfl
@[simp] theorem State.setCall_blockOn (r : RecId) (x : CallRec) (j : BlockIx) : (s.setCall r x).blockOn j = s.blockOn j := rfl
@[simp] theorem State.setCall_isMaster (r : RecId) (x : CallRec) (j : BlockIx) : (s.setCall r x).isMaster j = s.isMaster j := rfl
@[simp] theorem State.setCall_isFar (r : RecId) (x : CallRec) (j : BlockIx) : (s.setCall r x).isFar j = s.isFar j := rfl
@[simp] theorem State.setCall_chanUsed (r : RecId) (x : CallRec) (d : ChanId) : (s.setCall r x).chanUsed d = s.chanUsed d := rfl
@[simp] theorem State.setCall_roleInForce (r : RecId) (x : CallRec) (j : PairIx) : (s.setCall r x).roleInForce j = s.roleInForce j := rfl
@[simp] theorem State.setHook_commissioned (p : SpurId) (b : Bool) : (s.setHook p b).commissioned = s.commissioned := rfl
@[simp] theorem State.setHook_spurType (p : SpurId) (b : Bool) (q : SpurId) : (s.setHook p b).spurType q = s.spurType q := rfl
@[simp] theorem State.setHook_refugeOn (p : SpurId) (b : Bool) (k : PairIx) : (s.setHook p b).refugeOn k = s.refugeOn k := rfl
@[simp] theorem State.setHook_blockOn (p : SpurId) (b : Bool) (j : BlockIx) : (s.setHook p b).blockOn j = s.blockOn j := rfl
@[simp] theorem State.setHook_isMaster (p : SpurId) (b : Bool) (j : BlockIx) : (s.setHook p b).isMaster j = s.isMaster j := rfl
@[simp] theorem State.setHook_isFar (p : SpurId) (b : Bool) (j : BlockIx) : (s.setHook p b).isFar j = s.isFar j := rfl
@[simp] theorem State.setHook_chanUsed (p : SpurId) (b : Bool) (d : ChanId) : (s.setHook p b).chanUsed d = s.chanUsed d := rfl
@[simp] theorem State.setHook_roleInForce (p : SpurId) (b : Bool) (j : PairIx) : (s.setHook p b).roleInForce j = s.roleInForce j := rfl
@[simp] theorem State.setSlot_commissioned (e : SlotIx) (x : SlotEntry) : (s.setSlot e x).commissioned = s.commissioned := rfl
@[simp] theorem State.setSlot_spurType (e : SlotIx) (x : SlotEntry) (q : SpurId) : (s.setSlot e x).spurType q = s.spurType q := rfl
@[simp] theorem State.setSlot_refugeOn (e : SlotIx) (x : SlotEntry) (k : PairIx) : (s.setSlot e x).refugeOn k = s.refugeOn k := rfl
@[simp] theorem State.setSlot_blockOn (e : SlotIx) (x : SlotEntry) (j : BlockIx) : (s.setSlot e x).blockOn j = s.blockOn j := rfl
@[simp] theorem State.setSlot_isMaster (e : SlotIx) (x : SlotEntry) (j : BlockIx) : (s.setSlot e x).isMaster j = s.isMaster j := rfl
@[simp] theorem State.setSlot_isFar (e : SlotIx) (x : SlotEntry) (j : BlockIx) : (s.setSlot e x).isFar j = s.isFar j := rfl
@[simp] theorem State.setSlot_chanUsed (e : SlotIx) (x : SlotEntry) (d : ChanId) : (s.setSlot e x).chanUsed d = s.chanUsed d := rfl
@[simp] theorem State.setSlot_roleInForce (e : SlotIx) (x : SlotEntry) (j : PairIx) : (s.setSlot e x).roleInForce j = s.roleInForce j := rfl
@[simp] theorem State.setMaster_commissioned (i : BlockIx) (m : Master) : (s.setMaster i m).commissioned = s.commissioned := rfl
@[simp] theorem State.setMaster_spurType (i : BlockIx) (m : Master) (q : SpurId) : (s.setMaster i m).spurType q = s.spurType q := rfl
@[simp] theorem State.setMaster_refugeOn (i : BlockIx) (m : Master) (k : PairIx) : (s.setMaster i m).refugeOn k = s.refugeOn k := rfl
@[simp] theorem State.setMaster_blockOn (i : BlockIx) (m : Master) (j : BlockIx) : (s.setMaster i m).blockOn j = s.blockOn j := rfl
@[simp] theorem State.setMaster_isMaster (i : BlockIx) (m : Master) (j : BlockIx) : (s.setMaster i m).isMaster j = s.isMaster j := rfl
@[simp] theorem State.setMaster_isFar (i : BlockIx) (m : Master) (j : BlockIx) : (s.setMaster i m).isFar j = s.isFar j := rfl
@[simp] theorem State.setMaster_chanUsed (i : BlockIx) (m : Master) (d : ChanId) : (s.setMaster i m).chanUsed d = s.chanUsed d := rfl
@[simp] theorem State.setMaster_roleInForce (i : BlockIx) (m : Master) (j : PairIx) : (s.setMaster i m).roleInForce j = s.roleInForce j := rfl
@[simp] theorem State.setFar_commissioned (i : BlockIx) (f : FarEnd) : (s.setFar i f).commissioned = s.commissioned := rfl
@[simp] theorem State.setFar_spurType (i : BlockIx) (f : FarEnd) (q : SpurId) : (s.setFar i f).spurType q = s.spurType q := rfl
@[simp] theorem State.setFar_refugeOn (i : BlockIx) (f : FarEnd) (k : PairIx) : (s.setFar i f).refugeOn k = s.refugeOn k := rfl
@[simp] theorem State.setFar_blockOn (i : BlockIx) (f : FarEnd) (j : BlockIx) : (s.setFar i f).blockOn j = s.blockOn j := rfl
@[simp] theorem State.setFar_isMaster (i : BlockIx) (f : FarEnd) (j : BlockIx) : (s.setFar i f).isMaster j = s.isMaster j := rfl
@[simp] theorem State.setFar_isFar (i : BlockIx) (f : FarEnd) (j : BlockIx) : (s.setFar i f).isFar j = s.isFar j := rfl
@[simp] theorem State.setFar_chanUsed (i : BlockIx) (f : FarEnd) (d : ChanId) : (s.setFar i f).chanUsed d = s.chanUsed d := rfl
@[simp] theorem State.setFar_roleInForce (i : BlockIx) (f : FarEnd) (j : PairIx) : (s.setFar i f).roleInForce j = s.roleInForce j := rfl
@[simp] theorem State.setMgmt_commissioned (m : Mgmt) : (s.setMgmt m).commissioned = s.commissioned := rfl
@[simp] theorem State.setMgmt_spurType (m : Mgmt) (q : SpurId) : (s.setMgmt m).spurType q = s.spurType q := rfl
@[simp] theorem State.setMgmt_refugeOn (m : Mgmt) (k : PairIx) : (s.setMgmt m).refugeOn k = s.refugeOn k := rfl
@[simp] theorem State.setMgmt_blockOn (m : Mgmt) (j : BlockIx) : (s.setMgmt m).blockOn j = s.blockOn j := rfl
@[simp] theorem State.setMgmt_isMaster (m : Mgmt) (j : BlockIx) : (s.setMgmt m).isMaster j = s.isMaster j := rfl
@[simp] theorem State.setMgmt_isFar (m : Mgmt) (j : BlockIx) : (s.setMgmt m).isFar j = s.isFar j := rfl
@[simp] theorem State.setMgmt_chanUsed (m : Mgmt) (d : ChanId) : (s.setMgmt m).chanUsed d = s.chanUsed d := rfl
@[simp] theorem State.setMgmt_roleInForce (m : Mgmt) (j : PairIx) : (s.setMgmt m).roleInForce j = s.roleInForce j := rfl
@[simp] theorem State.setLevel_commissioned (l : LevelUnit) : (s.setLevel l).commissioned = s.commissioned := rfl
@[simp] theorem State.setLevel_spurType (l : LevelUnit) (q : SpurId) : (s.setLevel l).spurType q = s.spurType q := rfl
@[simp] theorem State.setLevel_refugeOn (l : LevelUnit) (k : PairIx) : (s.setLevel l).refugeOn k = s.refugeOn k := rfl
@[simp] theorem State.setLevel_blockOn (l : LevelUnit) (j : BlockIx) : (s.setLevel l).blockOn j = s.blockOn j := rfl
@[simp] theorem State.setLevel_isMaster (l : LevelUnit) (j : BlockIx) : (s.setLevel l).isMaster j = s.isMaster j := rfl
@[simp] theorem State.setLevel_isFar (l : LevelUnit) (j : BlockIx) : (s.setLevel l).isFar j = s.isFar j := rfl
@[simp] theorem State.setLevel_chanUsed (l : LevelUnit) (d : ChanId) : (s.setLevel l).chanUsed d = s.chanUsed d := rfl
@[simp] theorem State.setLevel_roleInForce (l : LevelUnit) (j : PairIx) : (s.setLevel l).roleInForce j = s.roleInForce j := rfl
@[simp] theorem State.setLine_commissioned (l : Line) : (s.setLine l).commissioned = s.commissioned := rfl
@[simp] theorem State.setLine_spurType (l : Line) (q : SpurId) : (s.setLine l).spurType q = s.spurType q := rfl
@[simp] theorem State.setLine_refugeOn (l : Line) (k : PairIx) : (s.setLine l).refugeOn k = s.refugeOn k := rfl
@[simp] theorem State.setLine_blockOn (l : Line) (j : BlockIx) : (s.setLine l).blockOn j = s.blockOn j := rfl
@[simp] theorem State.setLine_isMaster (l : Line) (j : BlockIx) : (s.setLine l).isMaster j = s.isMaster j := rfl
@[simp] theorem State.setLine_isFar (l : Line) (j : BlockIx) : (s.setLine l).isFar j = s.isFar j := rfl
@[simp] theorem State.setLine_chanUsed (l : Line) (d : ChanId) : (s.setLine l).chanUsed d = s.chanUsed d := rfl
@[simp] theorem State.setLine_roleInForce (l : Line) (j : PairIx) : (s.setLine l).roleInForce j = s.roleInForce j := rfl
@[simp] theorem State.setAction_commissioned (a : ActionUnit) : (s.setAction a).commissioned = s.commissioned := rfl
@[simp] theorem State.setAction_spurType (a : ActionUnit) (q : SpurId) : (s.setAction a).spurType q = s.spurType q := rfl
@[simp] theorem State.setAction_refugeOn (a : ActionUnit) (k : PairIx) : (s.setAction a).refugeOn k = s.refugeOn k := rfl
@[simp] theorem State.setAction_blockOn (a : ActionUnit) (j : BlockIx) : (s.setAction a).blockOn j = s.blockOn j := rfl
@[simp] theorem State.setAction_isMaster (a : ActionUnit) (j : BlockIx) : (s.setAction a).isMaster j = s.isMaster j := rfl
@[simp] theorem State.setAction_isFar (a : ActionUnit) (j : BlockIx) : (s.setAction a).isFar j = s.isFar j := rfl
@[simp] theorem State.setAction_chanUsed (a : ActionUnit) (d : ChanId) : (s.setAction a).chanUsed d = s.chanUsed d := rfl
@[simp] theorem State.setAction_roleInForce (a : ActionUnit) (j : PairIx) : (s.setAction a).roleInForce j = s.roleInForce j := rfl
@[simp] theorem State.setBlocks_commissioned (b : Blocks) : (s.setBlocks b).commissioned = s.commissioned := rfl
@[simp] theorem State.setBlocks_spurType (b : Blocks) (q : SpurId) : (s.setBlocks b).spurType q = s.spurType q := rfl
@[simp] theorem State.setBlocks_refugeOn (b : Blocks) (k : PairIx) : (s.setBlocks b).refugeOn k = s.refugeOn k := rfl
@[simp] theorem State.setBlocks_blockOn (b : Blocks) (j : BlockIx) : (s.setBlocks b).blockOn j = s.blockOn j := rfl
@[simp] theorem State.setBlocks_isMaster (b : Blocks) (j : BlockIx) : (s.setBlocks b).isMaster j = s.isMaster j := rfl
@[simp] theorem State.setBlocks_isFar (b : Blocks) (j : BlockIx) : (s.setBlocks b).isFar j = s.isFar j := rfl
@[simp] theorem State.setBlocks_chanUsed (b : Blocks) (d : ChanId) : (s.setBlocks b).chanUsed d = s.chanUsed d := rfl
@[simp] theorem State.setBlocks_roleInForce (b : Blocks) (j : PairIx) : (s.setBlocks b).roleInForce j = s.roleInForce j := rfl
@[simp] theorem State.setCalls_commissioned (c : Calls) : (s.setCalls c).commissioned = s.commissioned := rfl
@[simp] theorem State.setCalls_spurType (c : Calls) (q : SpurId) : (s.setCalls c).spurType q = s.spurType q := rfl
@[simp] theorem State.setCalls_refugeOn (c : Calls) (k : PairIx) : (s.setCalls c).refugeOn k = s.refugeOn k := rfl
@[simp] theorem State.setCalls_blockOn (c : Calls) (j : BlockIx) : (s.setCalls c).blockOn j = s.blockOn j := rfl
@[simp] theorem State.setCalls_isMaster (c : Calls) (j : BlockIx) : (s.setCalls c).isMaster j = s.isMaster j := rfl
@[simp] theorem State.setCalls_isFar (c : Calls) (j : BlockIx) : (s.setCalls c).isFar j = s.isFar j := rfl
@[simp] theorem State.setCalls_chanUsed (c : Calls) (d : ChanId) : (s.setCalls c).chanUsed d = s.chanUsed d := rfl
@[simp] theorem State.setCalls_roleInForce (c : Calls) (j : PairIx) : (s.setCalls c).roleInForce j = s.roleInForce j := rfl
@[simp] theorem State.setSlots_commissioned (x : SlotSwitch) : (s.setSlots x).commissioned = s.commissioned := rfl
@[simp] theorem State.setSlots_spurType (x : SlotSwitch) (q : SpurId) : (s.setSlots x).spurType q = s.spurType q := rfl
@[simp] theorem State.setSlots_refugeOn (x : SlotSwitch) (k : PairIx) : (s.setSlots x).refugeOn k = s.refugeOn k := rfl
@[simp] theorem State.setSlots_blockOn (x : SlotSwitch) (j : BlockIx) : (s.setSlots x).blockOn j = s.blockOn j := rfl
@[simp] theorem State.setSlots_isMaster (x : SlotSwitch) (j : BlockIx) : (s.setSlots x).isMaster j = s.isMaster j := rfl
@[simp] theorem State.setSlots_isFar (x : SlotSwitch) (j : BlockIx) : (s.setSlots x).isFar j = s.isFar j := rfl
@[simp] theorem State.setSlots_chanUsed (x : SlotSwitch) (d : ChanId) : (s.setSlots x).chanUsed d = s.chanUsed d := rfl
@[simp] theorem State.setSlots_roleInForce (x : SlotSwitch) (j : PairIx) : (s.setSlots x).roleInForce j = s.roleInForce j := rfl
@[simp] theorem State.mark_commissioned (x : Source) : (s.mark x).commissioned = s.commissioned := rfl
@[simp] theorem State.mark_spurType (x : Source) (q : SpurId) : (s.mark x).spurType q = s.spurType q := rfl
@[simp] theorem State.mark_refugeOn (x : Source) (k : PairIx) : (s.mark x).refugeOn k = s.refugeOn k := rfl
@[simp] theorem State.mark_blockOn (x : Source) (j : BlockIx) : (s.mark x).blockOn j = s.blockOn j := rfl
@[simp] theorem State.mark_isMaster (x : Source) (j : BlockIx) : (s.mark x).isMaster j = s.isMaster j := rfl
@[simp] theorem State.mark_isFar (x : Source) (j : BlockIx) : (s.mark x).isFar j = s.isFar j := rfl
@[simp] theorem State.mark_chanUsed (x : Source) (d : ChanId) : (s.mark x).chanUsed d = s.chanUsed d := rfl
@[simp] theorem State.mark_roleInForce (x : Source) (j : PairIx) : (s.mark x).roleInForce j = s.roleInForce j := rfl
@[simp] theorem State.withdraw_commissioned (x : Source) : (s.withdraw x).commissioned = s.commissioned := rfl
@[simp] theorem State.withdraw_spurType (x : Source) (q : SpurId) : (s.withdraw x).spurType q = s.spurType q := rfl
@[simp] theorem State.withdraw_refugeOn (x : Source) (k : PairIx) : (s.withdraw x).refugeOn k = s.refugeOn k := rfl
@[simp] theorem State.withdraw_blockOn (x : Source) (j : BlockIx) : (s.withdraw x).blockOn j = s.blockOn j := rfl
@[simp] theorem State.withdraw_isMaster (x : Source) (j : BlockIx) : (s.withdraw x).isMaster j = s.isMaster j := rfl
@[simp] theorem State.withdraw_isFar (x : Source) (j : BlockIx) : (s.withdraw x).isFar j = s.isFar j := rfl
@[simp] theorem State.withdraw_chanUsed (x : Source) (d : ChanId) : (s.withdraw x).chanUsed d = s.chanUsed d := rfl
@[simp] theorem State.withdraw_roleInForce (x : Source) (j : PairIx) : (s.withdraw x).roleInForce j = s.roleInForce j := rfl
@[simp] theorem State.notify_commissioned (n : Notice) : (s.notify n).commissioned = s.commissioned := rfl
@[simp] theorem State.notify_spurType (n : Notice) (q : SpurId) : (s.notify n).spurType q = s.spurType q := rfl
@[simp] theorem State.notify_refugeOn (n : Notice) (k : PairIx) : (s.notify n).refugeOn k = s.refugeOn k := rfl
@[simp] theorem State.notify_blockOn (n : Notice) (j : BlockIx) : (s.notify n).blockOn j = s.blockOn j := rfl
@[simp] theorem State.notify_isMaster (n : Notice) (j : BlockIx) : (s.notify n).isMaster j = s.isMaster j := rfl
@[simp] theorem State.notify_isFar (n : Notice) (j : BlockIx) : (s.notify n).isFar j = s.isFar j := rfl
@[simp] theorem State.notify_chanUsed (n : Notice) (d : ChanId) : (s.notify n).chanUsed d = s.chanUsed d := rfl
@[simp] theorem State.notify_roleInForce (n : Notice) (j : PairIx) : (s.notify n).roleInForce j = s.roleInForce j := rfl
@[simp] theorem State.setPort_commissioned (d : Side) (x : LinePort) : (s.setPort d x).commissioned = s.commissioned := by cases d <;> rfl
@[simp] theorem State.markIf_commissioned (b : Bool) (x : Source) : (s.markIf b x).commissioned = s.commissioned := by cases b <;> rfl
@[simp] theorem State.setPort_spurType (d : Side) (x : LinePort) (p : SpurId) : (s.setPort d x).spurType p = s.spurType p := by cases d <;> rfl
@[simp] theorem State.markIf_spurType (b : Bool) (x : Source) (p : SpurId) : (s.markIf b x).spurType p = s.spurType p := by cases b <;> rfl
@[simp] theorem State.setPort_refugeOn (d : Side) (x : LinePort) (r : PairIx) : (s.setPort d x).refugeOn r = s.refugeOn r := by cases d <;> rfl
@[simp] theorem State.markIf_refugeOn (b : Bool) (x : Source) (r : PairIx) : (s.markIf b x).refugeOn r = s.refugeOn r := by cases b <;> rfl
@[simp] theorem State.setPort_blockOn (d : Side) (x : LinePort) (i : BlockIx) : (s.setPort d x).blockOn i = s.blockOn i := by cases d <;> rfl
@[simp] theorem State.markIf_blockOn (b : Bool) (x : Source) (i : BlockIx) : (s.markIf b x).blockOn i = s.blockOn i := by cases b <;> rfl
@[simp] theorem State.setPort_isMaster (d : Side) (x : LinePort) (i : BlockIx) : (s.setPort d x).isMaster i = s.isMaster i := by cases d <;> rfl
@[simp] theorem State.markIf_isMaster (b : Bool) (x : Source) (i : BlockIx) : (s.markIf b x).isMaster i = s.isMaster i := by cases b <;> rfl
@[simp] theorem State.setPort_isFar (d : Side) (x : LinePort) (i : BlockIx) : (s.setPort d x).isFar i = s.isFar i := by cases d <;> rfl
@[simp] theorem State.markIf_isFar (b : Bool) (x : Source) (i : BlockIx) : (s.markIf b x).isFar i = s.isFar i := by cases b <;> rfl
@[simp] theorem State.setPort_chanUsed (d : Side) (x : LinePort) (k : ChanId) : (s.setPort d x).chanUsed k = s.chanUsed k := by cases d <;> rfl
@[simp] theorem State.markIf_chanUsed (b : Bool) (x : Source) (c : ChanId) : (s.markIf b x).chanUsed c = s.chanUsed c := by cases b <;> rfl
@[simp] theorem State.setPort_roleInForce (d : Side) (x : LinePort) (i : PairIx) : (s.setPort d x).roleInForce i = s.roleInForce i := by cases d <;> rfl
@[simp] theorem State.markIf_roleInForce (b : Bool) (x : Source) (i : PairIx) : (s.markIf b x).roleInForce i = s.roleInForce i := by cases b <;> rfl

end Sys2Proof.Machine
end

