-- ==== Sys2Proof/Laws/Cells.lean ====
section
/-! SUPPORT. What the arrival of a line cell can do: the port's own record case by case, the owner of the expected slot, and the
one form that the four rows of cells share. -/

namespace Sys2Proof.Machine

/-! ## The port (R48) -/

theorem LinePort.atCell_due {x : LinePort} (h : x.framed = true) (he : x.errRun = 32) : x.atCell = { x with framed := false, shift := 0 } := by
  simp [LinePort.atCell, LinePort.framingDue, LinePort.unframe, h, he]
theorem LinePort.atCell_hunt {x : LinePort} (h : x.framed = false) : x.atCell = x := by
  simp [LinePort.atCell, LinePort.framingDue, h]
theorem LinePort.atCell_run {x : LinePort} (h : x.errRun ≠ 32) : x.atCell = x := by
  simp [LinePort.atCell, LinePort.framingDue, h]
theorem LinePort.handed_hunt {x : LinePort} (h : x.framed = false) (place : Nat) (c : List Octet) : x.handed place c = .vacant := by
  simp [LinePort.handed, h]
theorem LinePort.handed_framed {x : LinePort} (h : x.framed = true) (place : Nat) (c : List Octet) :
    x.handed place c = judgeCell (x.expected place) c := by simp [LinePort.handed, h]
theorem LinePort.arrive_hunt {x : LinePort} (h : x.framed = false) (place : Nat) (c : List Octet) :
    x.arrive place c = if cellGood c then { x with framed := true, errRun := 0, shift := (cellSlot c + 32 - place % 32) % 32 } else x := by
  simp [LinePort.arrive, h]
theorem LinePort.arrive_errored {x : LinePort} (h : x.framed = true) {place : Nat} {c : List Octet}
    (hc : judgeCell (x.expected place) c = .errored) : x.arrive place c = x.erroredCell := by simp [LinePort.arrive, h, hc]
theorem LinePort.arrive_good {x : LinePort} (h : x.framed = true) {place : Nat} {c : List Octet}
    (hc : judgeCell (x.expected place) c ≠ .errored) : x.arrive place c = { x with errRun := 0 } := by
  simp only [LinePort.arrive, h, if_true]
/-- A cell is errored where its check or its slot is wrong. -/
theorem judgeCell_errored {slot : Nat} {c : List Octet} (h : cellGood c = false ∨ cellSlot c ≠ slot) : judgeCell slot c = .errored := by
  unfold judgeCell
  rcases h with h | h <;> simp [h]
/-- A good cell of the slot is occupied or vacant. -/
theorem judgeCell_good {slot : Nat} {c : List Octet} (h : cellGood c = true) (hs : cellSlot c = slot) :
    judgeCell slot c = if cellOccupied c then .occupied (cellPayload c) else .vacant := by
  simp [judgeCell, h, hs]

/-! ## The owner of the expected slot (R49) -/

theorem cellArrives_management {d : Side} {place : Nat} {s : State} (h : (s.port d).atCell.expected place = 0) (c : List Octet) :
    cellArrives d place c s = mgmtHanded d ((s.port d).atCell.maskLost ((s.port d).atCell.handed place c)) (s.setPort d ((s.port d).atCell.arrive place c)) := by
  simp [cellArrives, h, slotOf]
theorem cellArrives_segment {d : Side} {place : Nat} {s : State} (h : (s.port d).atCell.expected place = 1) (c : List Octet) :
    cellArrives d place c s = segmentHanded d ((s.port d).atCell.handed place c) (s.setPort d ((s.port d).atCell.arrive place c)) := by
  simp [cellArrives, h, slotOf]
theorem cellArrives_traffic {d : Side} {place : Nat} {s : State} {sl : Slot} (h : (s.port d).atCell.expected place = sl.val + 2)
    (c : List Octet) : cellArrives d place c s =
      switchCell (slotIx (travelFrom d) sl) ((s.port d).atCell.maskLost ((s.port d).atCell.handed place c)) (s.setPort d ((s.port d).atCell.arrive place c)) := by
  have hs : slotOf (sl.val + 2) = some sl := by
    have := sl.isLt
    simp [slotOf]
  simp [cellArrives, h, hs]

/-! ## The four rows of cells -/

/-- A cell in any place of the cycle is one arrival, whichever row its place has. -/
theorem exec_cellRow (d : Side) (place : Fin 32) (c : List Octet) (s : State) :
    exec (cellRow d place c) s = settled (cellArrives d place.val c) s := by
  unfold cellRow
  split
  · simp only [exec, execTrafficCell]
    congr 2
    omega
  · split
    · next h => simp [exec, execManagementCell, h]
    · have h1 : place.val = 1 := by omega
      cases d <;> simp [exec, execInbyeSegmentCell, execOutbyeSegmentCell, h1]

end Sys2Proof.Machine
end

