-- ==== Sys2Proof/Laws/Frames.lean ====
section
/-! SUPPORT. What the hand-overs of a level, of the latch, of a call, of a block and of an action leave alone: one lemma per
shared operation, saying that `outsideLevel` or `outsideActions` is as it was. -/

namespace Sys2Proof.Safety
open Sys2Proof.Machine

/-! ## The writes of one record -/

@[simp] theorem outsideLevel_setCall (s : State) (r : RecId) (x : CallRec) : outsideLevel (s.setCall r x) = outsideLevel s := by
  simp [outsideLevel, State.setCall]

@[simp] theorem outsideLevel_mark (s : State) (x : Source) : outsideLevel (s.mark x) = outsideLevel s := by
  simp [outsideLevel, State.mark, State.setMgmt]
@[simp] theorem outsideLevel_markIf (s : State) (b : Bool) (x : Source) : outsideLevel (s.markIf b x) = outsideLevel s := by
  cases b <;> simp
@[simp] theorem outsideLevel_withdraw (s : State) (x : Source) : outsideLevel (s.withdraw x) = outsideLevel s := by
  simp [outsideLevel, State.withdraw, State.setMgmt]
@[simp] theorem outsideLevel_notify (s : State) (n : Notice) : outsideLevel (s.notify n) = outsideLevel s := by
  simp [outsideLevel, State.notify, State.setAction]
@[simp] theorem outsideLevel_setMaster (s : State) (i : BlockIx) (m : Master) :
    outsideLevel (s.setMaster i m) = outsideLevel s := by
  simp [outsideLevel, State.setMaster]
@[simp] theorem outsideLevel_setFar (s : State) (i : BlockIx) (f : FarEnd) : outsideLevel (s.setFar i f) = outsideLevel s := by
  simp [outsideLevel, State.setFar]

/-- The calls but for the records and their orders. -/
theorem outsideLevel_setCalls (s : State) (c : Calls)
    (h : c.counter = s.calls.counter ∧ c.hooks = s.calls.hooks ∧ c.refused = s.calls.refused) :
    outsideLevel (s.setCalls c) = outsideLevel s := by
  obtain ⟨h1, h2, h3⟩ := h
  simp [outsideLevel, State.setCalls, h1, h2, h3]

theorem outsideLevel_setSpur (s : State) (p : SpurId) (x : Spur)
    (h : { x with queue := (s.spurs.get p).queue, outDiscard := (s.spurs.get p).outDiscard } = s.spurs.get p) :
    outsideLevel (s.setSpur p x) = outsideLevel s := by
  have : (s.spurs.put p x).mapIx (fun _ x => { x with queue := [], outDiscard := 0 })
      = s.spurs.mapIx fun _ x => { x with queue := [], outDiscard := 0 } := by
    apply Tab.mapIx_put
    rw [← h]
  simp [outsideLevel, State.setSpur, this]

theorem outsideLevel_setSlot (s : State) (e : SlotIx) (x : SlotEntry) (h : x.out = (s.slots.map.get e).out) :
    outsideLevel (s.setSlot e x) = outsideLevel s := by
  have : (s.slots.map.put e x).mapIx (fun _ (x : SlotEntry) => { x with drop := none, add := none, continuity := 0 })
      = s.slots.map.mapIx fun _ x => { x with drop := none, add := none, continuity := 0 } := by
    apply Tab.mapIx_put
    rw [h]
  simp [outsideLevel, State.setSlot, this]

theorem outsideLevel_setRefuge (s : State) (r : PairIx) (x : Refuge)
    (h : { x with state := (s.refuges.get r).state, prepared := (s.refuges.get r).prepared } = s.refuges.get r) :
    outsideLevel (s.setRefuge r x) = outsideLevel s := by
  have : (s.refuges.put r x).mapIx (fun _ x => { x with state := .standby, prepared := false })
      = s.refuges.mapIx fun _ x => { x with state := .standby, prepared := false } := by
    apply Tab.mapIx_put
    rw [← h]
  simp [outsideLevel, State.setRefuge, this]

theorem outsideLevel_setLevel (s : State) (l : LevelUnit)
    (h : l.ordered = s.level.ordered ∧ l.received = s.level.received ∧ l.hold = s.level.hold ∧ l.contacts = s.level.contacts ∧
      l.force = s.level.force) : outsideLevel (s.setLevel l) = outsideLevel s := by
  obtain ⟨h1, h2, h3, h4, h5⟩ := h
  simp [outsideLevel, State.setLevel, h1, h2, h3, h4, h5]

theorem outsideLevel_setMgmt_prepare (s : State) (b : Bool) :
    outsideLevel (s.setMgmt { s.mgmt with prepare := b }) = outsideLevel s := by
  simp [outsideLevel, State.setMgmt]

theorem outsideLevel_setBlocks (s : State) (b : Blocks)
    (h : b.truckLast = s.blocks.truckLast ∧ b.truckAlarm = s.blocks.truckAlarm ∧ b.period = s.blocks.period ∧
      b.turnOpen = s.blocks.turnOpen) : outsideLevel (s.setBlocks b) = outsideLevel s := by
  obtain ⟨h1, h2, h3, h4⟩ := h
  simp [outsideLevel, State.setBlocks, h1, h2, h3, h4]

theorem outsideLevel_setBridge (s : State) (b : List (SpurId × SpurId)) :
    outsideLevel (s.setSlots { s.slots with bridge := b }) = outsideLevel s := by
  simp [outsideLevel, State.setSlots]

/-- The walk over a table keeps what its turns keep. -/
@[simp] theorem outsideLevel_forEach (n : Nat) (f : Fin n → State → State) (s : State)
    (h : ∀ i s, outsideLevel (f i s) = outsideLevel s) : outsideLevel (forEach n f s) = outsideLevel s :=
  forEach_keeps outsideLevel n f h s

/-! ## Messages offered and posted -/

/-- R169: an offer touches the queue or the outbound discard count, and nothing else. -/
theorem offerTo_cases (t : SpurType) (m : OutMsg) (x : Spur) :
    offerTo t m x = { x with outDiscard := bump16 x.outDiscard } ∨ ∃ q, offerTo t m x = { x with queue := q } := by
  unfold offerTo
  repeat' split
  · exact .inl rfl
  · exact .inr ⟨_, rfl⟩
  · exact .inr ⟨_, rfl⟩
  · exact .inl rfl
theorem offerTo_rest (t : SpurType) (m : OutMsg) (x : Spur) :
    { offerTo t m x with queue := x.queue, outDiscard := x.outDiscard } = x := by
  rcases offerTo_cases t m x with h | ⟨q, h⟩ <;> rw [h]

@[simp] theorem outsideLevel_offer (p : SpurId) (m : OutMsg) (s : State) : outsideLevel (offer p m s) = outsideLevel s := by
  unfold offer; split
  · exact outsideLevel_setSpur s p _ (offerTo_rest _ _ _)
  · rfl
@[simp] theorem outsideLevel_tone (p : SpurId) (t : Tone) (s : State) : outsideLevel (tone p t s) = outsideLevel s :=
  outsideLevel_offer p _ s
@[simp] theorem outsideLevel_toneOpt (p : Option SpurId) (t : Tone) (s : State) :
    outsideLevel (toneOpt p t s) = outsideLevel s := by
  unfold toneOpt; split <;> simp
@[simp] theorem outsideLevel_ringOpt (p : Option SpurId) (b : Bool) (s : State) :
    outsideLevel (ringOpt p b s) = outsideLevel s := by
  unfold ringOpt; split <;> simp

/-- R62: a post touches the queue of its port and the discard count alone. -/
@[simp] theorem outsideLevel_post (d : Side) (m : NMsg) (s : State) : outsideLevel (post d m s) = outsideLevel s := by
  unfold post; split
  · cases d <;> simp [outsideLevel, State.setPort, State.port]
  · simp [outsideLevel, State.setLine]

/-! ## Calls -/

@[simp] theorem outsideLevel_enterCall (r : RecId) (st : CallState) (f : CallRec → CallRec) (s : State) :
    outsideLevel (enterCall r st f s) = outsideLevel s := by
  simp only [enterCall, outsideLevel_mark]
  rw [outsideLevel_setCalls (h := by simp), outsideLevel_setCall]
@[simp] theorem outsideLevel_removePair (far : Side) (sl : Slot) (s : State) :
    outsideLevel (removePair far sl s) = outsideLevel s := by
  simp only [removePair]
  rw [outsideLevel_setSlot, outsideLevel_setSlot] <;> rfl
@[simp] theorem outsideLevel_dropPair (x : CallRec) (s : State) : outsideLevel (dropPair x s) = outsideLevel s := by
  unfold dropPair; split <;> (try split) <;> simp
@[simp] theorem outsideLevel_dropBridge (x : CallRec) (s : State) : outsideLevel (dropBridge x s) = outsideLevel s := by
  unfold dropBridge; split
  · exact outsideLevel_setBridge s _
  · rfl
@[simp] theorem outsideLevel_clearTones (c : ClearCause) (l : List SpurId) (s : State) :
    outsideLevel (clearTones c l s) = outsideLevel s :=
  foldl_keeps outsideLevel _ (fun s p => by split <;> simp) l s
@[simp] theorem outsideLevel_clearCall (r : RecId) (c : ClearCause) (s : State) :
    outsideLevel (clearCall r c s) = outsideLevel s := by
  simp only [clearCall]
  split
  · split <;> simp only [outsideLevel_clearTones, outsideLevel_ringOpt, outsideLevel_dropBridge, outsideLevel_dropPair] <;>
      rw [outsideLevel_setCalls (h := by simp), outsideLevel_enterCall]
  · rfl
@[simp] theorem outsideLevel_clearWhere (p : CallRec → Bool) (c : ClearCause) (s : State) :
    outsideLevel (clearWhere p c s) = outsideLevel s :=
  outsideLevel_forEach 16 _ s fun r s => by split <;> simp
@[simp] theorem outsideLevel_ringStep (r : RecId) (s : State) : outsideLevel (ringStep r s) = outsideLevel s := by
  simp only [ringStep]; repeat' split
  all_goals simp
@[simp] theorem outsideLevel_proceedCall (r : RecId) (s : State) : outsideLevel (proceedCall r s) = outsideLevel s := by
  simp only [proceedCall, requestCall]; repeat' split
  all_goals simp
/-- R33, R89, R90: what a change of the mask does to the calls leaves the rest alone. -/
@[simp] theorem outsideLevel_callsAtMask (old new : Nat) (s : State) : outsideLevel (callsAtMask old new s) = outsideLevel s := by
  unfold callsAtMask; split
  · exact outsideLevel_clearWhere _ _ s
  · exact foldl_keeps outsideLevel _ (fun s r => by split <;> simp) _ s

/-! ## Blocks -/

@[simp] theorem outsideLevel_reformLight (p : SpurId) (s : State) : outsideLevel (reformLight p s) = outsideLevel s := by
  simp only [reformLight]; generalize (if s.spurType p = .truck then s.lightOf p else .dark) = l; split
  · rfl
  · rw [outsideLevel_offer]; exact outsideLevel_setBlocks s _ ⟨rfl, rfl, rfl, rfl⟩
@[simp] theorem outsideLevel_reformLights (s : State) : outsideLevel (reformLights s) = outsideLevel s :=
  outsideLevel_forEach 8 _ s outsideLevel_reformLight
@[simp] theorem outsideLevel_sendStopAll (s : State) : outsideLevel (sendStopAll s) = outsideLevel s :=
  outsideLevel_forEach 8 _ s fun p s => by split <;> simp
@[simp] theorem outsideLevel_reformStopAll (s : State) : outsideLevel (reformStopAll s) = outsideLevel s := by
  unfold reformStopAll; split
  · rfl
  · rw [outsideLevel_sendStopAll]; exact outsideLevel_setBlocks s _ ⟨rfl, rfl, rfl, rfl⟩
/-- R116: an event of a master leaves alone what its own work leaves alone. -/
theorem outsideLevel_masterEvent (i : BlockIx) (f : State → State) (s : State) (h : outsideLevel (f s) = outsideLevel s) :
    outsideLevel (masterEvent i f s) = outsideLevel s := by
  simp only [masterEvent, outsideLevel_reformLights, postState]
  repeat' split
  all_goals simpa using h
@[simp] theorem outsideLevel_grantClaim (i : BlockIx) (e : BlockEnd) (t : Nat) (s : State) :
    outsideLevel (grantClaim i e t s) = outsideLevel s := by
  simp only [grantClaim]; split <;> simp
@[simp] theorem outsideLevel_waitClaim (i : BlockIx) (e : BlockEnd) (t : Nat) (s : State) :
    outsideLevel (waitClaim i e t s) = outsideLevel s := by
  simp only [waitClaim]; split <;> simp
@[simp] theorem outsideLevel_decideClaim (i : BlockIx) (e : BlockEnd) (t : Nat) (s : State) :
    outsideLevel (decideClaim i e t s) = outsideLevel s := by
  simp only [decideClaim]; repeat' split
  all_goals simp
@[simp] theorem outsideLevel_serveWaits (i : BlockIx) (s : State) : outsideLevel (serveWaits i s) = outsideLevel s := by
  simp only [serveWaits]; repeat' split
  all_goals first
    | exact foldl_keeps outsideLevel _ (fun s e => by split <;> simp) _ s
    | simp
@[simp] theorem outsideLevel_blocksAtLevel (b : Bool) (s : State) : outsideLevel (blocksAtLevel b s) = outsideLevel s := by
  simp only [blocksAtLevel, outsideLevel_reformStopAll, outsideLevel_reformLights]; split
  · exact outsideLevel_forEach 4 _ s fun i s => by
      split
      · exact outsideLevel_masterEvent i _ s (outsideLevel_serveWaits i s)
      · rfl
  · rfl
@[simp] theorem outsideLevel_closeBlock (i : BlockIx) (s : State) : outsideLevel (closeBlock i s) = outsideLevel s := by
  simp only [closeBlock]; split
  · exact outsideLevel_masterEvent i _ s (by simp)
  · exact outsideLevel_masterEvent i _ s (by simp)
  · exact outsideLevel_masterEvent i _ s (by simp)
  · rfl

/-! ## Levels and the latch -/

@[simp] theorem outsideLevel_refugeSpurOffer (r : PairIx) (m : OutMsg) (s : State) :
    outsideLevel (refugeSpurOffer r m s) = outsideLevel s := by
  unfold refugeSpurOffer; split <;> simp
@[simp] theorem outsideLevel_sendPrepare (r : PairIx) (s : State) : outsideLevel (sendPrepare r s) = outsideLevel s := by
  simp only [sendPrepare, outsideLevel_markIf]
  rw [outsideLevel_setRefuge (h := by simp), outsideLevel_refugeSpurOffer]

/-- A message to a panel leaves the refuge records alone. -/
@[simp] theorem refugeSpurOffer_refuges (r : PairIx) (m : OutMsg) (s : State) :
    (refugeSpurOffer r m s).refuges = s.refuges := by
  simp only [refugeSpurOffer, offer]; repeat' split
  all_goals rfl
@[simp] theorem outsideLevel_standdownTest (r : PairIx) (s : State) : outsideLevel (standdownTest r s) = outsideLevel s := by
  simp only [standdownTest]; split
  · rw [outsideLevel_mark]; rw [outsideLevel_setRefuge (h := by simp), outsideLevel_refugeSpurOffer]
  · rfl
@[simp] theorem outsideLevel_refugesAtLevelBut (stay : PairIx → Bool) (old : Level) (s : State) :
    outsideLevel (refugesAtLevelBut stay old s) = outsideLevel s := by
  simp only [refugesAtLevelBut]; repeat' split
  · exact outsideLevel_forEach 2 _ s fun r s => by split <;> simp
  · exact outsideLevel_forEach 2 _ s fun r s => by split <;> simp
  · rfl
@[simp] theorem outsideLevel_reformDrive (o : PairIx) (s : State) : outsideLevel (reformDrive o s) = outsideLevel s := by
  unfold reformDrive; split
  · rfl
  · rw [outsideLevel_mark]; exact outsideLevel_setLevel s _ ⟨rfl, rfl, rfl, rfl, rfl⟩
@[simp] theorem outsideLevel_reformDrives (s : State) : outsideLevel (reformDrives s) = outsideLevel s :=
  outsideLevel_forEach 2 _ s outsideLevel_reformDrive
@[simp] theorem outsideLevel_reformMask (s : State) : outsideLevel (reformMask s) = outsideLevel s := by
  simp only [reformMask]; split
  · rfl
  · rw [outsideLevel_callsAtMask, outsideLevel_mark]; exact outsideLevel_setLevel s _ ⟨rfl, rfl, rfl, rfl, rfl⟩
@[simp] theorem outsideLevel_reformOutput (s : State) : outsideLevel (reformOutput s) = outsideLevel s := by
  unfold reformOutput; split
  · rfl
  · rw [outsideLevel_mark]; exact outsideLevel_setLevel s _ ⟨rfl, rfl, rfl, rfl, rfl⟩
@[simp] theorem outsideLevel_reformEffectiveBut (stay : PairIx → Bool) (s : State) :
    outsideLevel (reformEffectiveBut stay s) = outsideLevel s := by
  simp only [reformEffectiveBut]; split
  · rfl
  · simp only [outsideLevel_notify, outsideLevel_refugesAtLevelBut, outsideLevel_blocksAtLevel, outsideLevel_reformDrives,
      outsideLevel_reformMask, outsideLevel_mark]
    exact outsideLevel_setLevel s _ ⟨rfl, rfl, rfl, rfl, rfl⟩
@[simp] theorem outsideLevel_reformEffective (s : State) : outsideLevel (reformEffective s) = outsideLevel s :=
  outsideLevel_reformEffectiveBut _ s
@[simp] theorem outsideLevel_reformLocalBut (stay : PairIx → Bool) (s : State) :
    outsideLevel (reformLocalBut stay s) = outsideLevel s := by
  simp only [reformLocalBut]; split
  · rfl
  · rw [outsideLevel_reformEffectiveBut, outsideLevel_mark]; exact outsideLevel_setLevel s _ ⟨rfl, rfl, rfl, rfl, rfl⟩
/-- R28: what follows a change of the local level leaves all but its hand-overs alone. -/
@[simp] theorem outsideLevel_reformLocal (s : State) : outsideLevel (reformLocal s) = outsideLevel s :=
  outsideLevel_reformLocalBut _ s
/-- R36: taking a cause leaves all but the latch and what follows from it alone. -/
@[simp] theorem outsideLevel_takeCauseBut (stay : PairIx → Bool) (c : Cause) (s : State) :
    outsideLevel (takeCauseBut stay c s) = outsideLevel s := by
  simp only [takeCauseBut, outsideLevel_reformLocalBut, outsideLevel_reformOutput, outsideLevel_mark, outsideLevel_setMgmt_prepare]
  exact outsideLevel_setLevel s _ ⟨rfl, rfl, rfl, rfl, rfl⟩
@[simp] theorem outsideLevel_takeCause (c : Cause) (s : State) : outsideLevel (takeCause c s) = outsideLevel s :=
  outsideLevel_takeCauseBut _ c s
@[simp] theorem outsideLevel_takeCauseOpt (c : Option Cause) (s : State) : outsideLevel (takeCauseOpt c s) = outsideLevel s := by
  unfold takeCauseOpt; split <;> simp
@[simp] theorem outsideLevel_reformRefuge (r : PairIx) (s : State) : outsideLevel (reformRefuge r s) = outsideLevel s := by
  simp only [reformRefuge]; split
  · rfl
  · rw [outsideLevel_reformLocal, outsideLevel_mark]; exact outsideLevel_setRefuge _ _ _ rfl
@[simp] theorem outsideLevel_refugesAtChannel (c : ChanId) (s : State) :
    outsideLevel (refugesAtChannel c s) = outsideLevel s :=
  outsideLevel_forEach 2 _ s fun r s => by simp only; split <;> simp
/-- R18 to R21: what follows a change of a channel's status. -/
@[simp] theorem outsideLevel_statusChanged (c : ChanId) (old : ChanStatus) (s : State) :
    outsideLevel (statusChanged c old s) = outsideLevel s := by
  simp only [statusChanged]; split
  · rfl
  · simp [markChannel]

end Sys2Proof.Safety
end

