-- ==== Sys2Proof/Laws/Settle.lean ====
section
/-! SUPPORT. What the Action Unit's work leaves alone, and what it does when nothing makes it act. -/

namespace Sys2Proof.Safety
open Sys2Proof.Machine

/-! ## Reading a frame -/

section
variable {s t : State}

theorem outsideActions_of_outsideLevel (h : outsideLevel t = outsideLevel s) : outsideActions t = outsideActions s := by
  simp [outsideActions, h]

/-- What two states share, from equal frames. -/
theorem working_of_outsideLevel (h : outsideLevel t = outsideLevel s) : t.working = s.working := (congrArg State.working h :)
theorem air_of_outsideLevel (h : outsideLevel t = outsideLevel s) : t.air = s.air := (congrArg State.air h :)
theorem air_of_outsideActions (h : outsideActions t = outsideActions s) : t.air = s.air := (congrArg State.air h :)
theorem store_of_outsideActions (h : outsideActions t = outsideActions s) : t.store = s.store := (congrArg State.store h :)
theorem pins_of_outsideActions (h : outsideActions t = outsideActions s) : t.pins = s.pins := (congrArg State.pins h :)
theorem powered_of_outsideActions (h : outsideActions t = outsideActions s) : t.powered = s.powered :=
  (congrArg State.powered h :)
theorem queue_of_outsideLevel (h : outsideLevel t = outsideLevel s) : t.action.queue = s.action.queue :=
  (congrArg (fun s => s.action.queue) h :)
end

/-! ## Actions -/

@[simp] theorem outsideActions_outsideLevel (s : State) (f : State → State) (h : outsideLevel (f s) = outsideLevel s) :
    outsideActions (f s) = outsideActions s := outsideActions_of_outsideLevel h

@[simp] theorem outsideActions_mark (s : State) (x : Source) : outsideActions (s.mark x) = outsideActions s :=
  outsideActions_of_outsideLevel (outsideLevel_mark s x)
@[simp] theorem outsideActions_setAction (s : State) (a : ActionUnit) : outsideActions (s.setAction a) = outsideActions s := by
  simp [outsideActions, outsideLevel, State.setAction]
theorem outsideActions_setTriggers (s : State) (t : Tab 2 TriggerCfg) :
    outsideActions (s.setWorking { s.working with triggers := t }) = outsideActions s := by
  simp [outsideActions, outsideLevel, State.setWorking]
theorem outsideActions_setForce (o : PairIx) (f : Force) (s : State) : outsideActions (setForce o f s) = outsideActions s := by
  rw [setForce, outsideActions_of_outsideLevel (outsideLevel_reformDrive o _)]
  simp [outsideActions, outsideLevel, State.setLevel]
theorem outsideActions_raiseLevel (l : Level) (s : State) : outsideActions (raiseLevel l s) = outsideActions s := by
  rw [raiseLevel, outsideActions_of_outsideLevel (outsideLevel_reformLocal _)]
  simp [outsideActions, outsideLevel, State.setLevel]
theorem outsideActions_setStopTrucks (n : Nat) (s : State) : outsideActions (setStopTrucks n s) = outsideActions s := by
  rw [setStopTrucks, outsideActions_of_outsideLevel (outsideLevel_reformStopAll _), outsideActions_setAction]
theorem outsideActions_setDistress (r : PairIx) (b : Bool) (s : State) :
    outsideActions (setDistress r b s) = outsideActions s := by
  simp only [setDistress]; split
  · rfl
  · rw [outsideActions_mark]
    have : (s.refuges.put r { s.refuges.get r with distress := b }).mapIx
          (fun _ x => { x with state := .standby, distress := false, prepared := false })
        = s.refuges.mapIx fun _ x => { x with state := .standby, distress := false, prepared := false } :=
      Tab.mapIx_put _ _ _ _ rfl
    have h2 (t : Tab 2 Refuge) : (t.mapIx fun _ x => { x with state := .standby, prepared := false }).mapIx
          (fun _ x => { x with distress := false })
        = t.mapIx fun _ x => { x with state := .standby, distress := false, prepared := false } :=
      Tab.ext fun i => by simp
    simp [outsideActions, outsideLevel, State.setRefuge, h2, this]
/-- R149: an alert tone is a message to a head. -/
@[simp] theorem outsideLevel_soundHandsets (s : State) : outsideLevel (soundHandsets s) = outsideLevel s :=
  outsideLevel_forEach 8 _ s fun p s => by split <;> simp
/-- R147: an action run by its owner leaves alone all but what actions reach. -/
theorem outsideActions_runAction (a : Action) (s : State) : outsideActions (runAction a s).1 = outsideActions s := by
  cases a with
  | setOutput o f => simp only [runAction]; exact outsideActions_setForce o f s
  | soundHandsets => simp only [runAction]; exact outsideActions_of_outsideLevel (outsideLevel_soundHandsets s)
  | closeBlock id =>
    simp only [runAction]
    generalize s.masterOf id = o
    cases o with
    | none => rfl
    | some i => exact outsideActions_of_outsideLevel (outsideLevel_closeBlock i s)
  | raiseLevel l => simp only [runAction]; exact outsideActions_raiseLevel l s
  | setTrip => simp only [runAction]; exact outsideActions_of_outsideLevel (outsideLevel_takeCause _ s)
  | clearCallsAbove n => simp only [runAction]; exact outsideActions_of_outsideLevel (outsideLevel_clearWhere _ _ s)
  | refugePrepare r =>
    simp only [runAction]
    generalize s.refugeOn r = b
    cases b with
    | false => rfl
    | true =>
      show outsideActions (prepareAction r s) = _
      rw [prepareAction, outsideActions_of_outsideLevel (outsideLevel_reformRefuge _ _), outsideActions_setDistress,
        outsideActions_of_outsideLevel (outsideLevel_sendPrepare _ _)]
  | stopTrucks => simp only [runAction]; exact outsideActions_setStopTrucks _ s
  | sendNote c => simp only [runAction]; rw [outsideActions_mark, outsideActions_setAction]

/-! ## Lists and the queue -/

theorem outsideActions_emptyList (x : PairIx) (s : State) : outsideActions (emptyList x s) = outsideActions s := by
  rw [emptyList, outsideActions_setAction, outsideActions_setTriggers]
theorem outsideActions_runFrom (x : PairIx) (pos : Nat) (l : List Action) (s : State) :
    outsideActions (runFrom x pos l s) = outsideActions s := by
  induction l generalizing pos s with
  | nil => exact outsideActions_mark ..
  | cons a l ih =>
    have h := outsideActions_runAction a s
    unfold runFrom
    split <;> rename_i t e <;> rw [e] at h
    · rw [ih]; exact h
    · rw [outsideActions_mark, outsideActions_emptyList, outsideActions_setAction]; exact h
theorem outsideActions_evalList (x : PairIx) (s : State) : outsideActions (evalList x s) = outsideActions s := by
  simp only [evalList]
  split
  · rfl
  · split
    · rw [outsideActions_runFrom, outsideActions_setAction]
    · split
      · rw [outsideActions_setAction]
      · rfl
@[simp] theorem outsideActions_flushQueue (s : State) : outsideActions (flushQueue s) = outsideActions s := by
  rw [flushQueue, outsideActions_mark, outsideActions_setAction]
theorem outsideActions_runHead (s : State) : outsideActions (runHead s) = outsideActions s := by
  unfold runHead
  split
  · rfl
  · rename_i a c rest _
    have h := outsideActions_runAction a s
    simp only
    split <;> rename_i t e <;> rw [e] at h
    · rw [outsideActions_mark, outsideActions_setAction]; exact h
    · rw [outsideActions_flushQueue, outsideActions_setAction, outsideActions_mark, outsideActions_setAction]; exact h
theorem outsideActions_examineHead (n : Nat) (s : State) : outsideActions (examineHead n s) = outsideActions s := by
  induction n generalizing s with
  | zero => rfl
  | succ n ih =>
    unfold examineHead
    split
    · rfl
    · split
      · rw [ih, outsideActions_runHead]
      · rfl
theorem outsideActions_headAt (n : Notice) (s : State) : outsideActions (headAt n s) = outsideActions s := by
  unfold headAt
  split
  · rfl
  · split
    · split
      · rw [outsideActions_examineHead, outsideActions_runHead]
      · rw [outsideActions_examineHead]
    · rfl
theorem outsideActions_armEntry (a : Action) (c : QueueCond) (s : State) :
    outsideActions (armEntry a c s) = outsideActions s := by
  simp only [armEntry]
  split
  · rw [outsideActions_examineHead, outsideActions_setAction]
  · rw [outsideActions_setAction]

/-! ## Taking the changes handed over -/

theorem outsideActions_takeNotice (n : Notice) (s : State) : outsideActions (takeNotice n s) = outsideActions s := by
  have h (x : PairIx) (s : State) : outsideActions (listAt n x s) = outsideActions s := by
    unfold listAt
    split
    · split
      · exact outsideActions_evalList x s
      · rfl
    · rfl
  unfold takeNotice
  split
  · rw [outsideActions_headAt, h, h]
  · rfl
theorem outsideActions_settleN (k : Nat) (s : State) : outsideActions (settleN k s) = outsideActions s := by
  induction k generalizing s with
  | zero => rw [settleN, outsideActions_setAction]
  | succ k ih =>
    unfold settleN
    split
    · rfl
    · rw [ih, outsideActions_takeNotice, outsideActions_setAction]
/-- R146: what the Action Unit does after an event stays within what actions reach. -/
@[simp] theorem outsideActions_settle (s : State) : outsideActions (settle s) = outsideActions s :=
  outsideActions_settleN _ s
theorem outsideActions_evalLists (s : State) : outsideActions (evalLists s) = outsideActions s := by
  unfold evalLists
  split
  · rw [outsideActions_settle, outsideActions_evalList, outsideActions_evalList]
  · rfl

theorem settleN_notices (k : Nat) (s : State) : (settleN k s).action.notices = [] := by
  induction k generalizing s with
  | zero => rfl
  | succ k ih =>
    unfold settleN
    split
    · assumption
    · exact ih _
/-- R146: no change is left to be taken. -/
@[simp] theorem settle_notices (s : State) : (settle s).action.notices = [] := settleN_notices _ s
/-- With no change handed over there is nothing to do. -/
theorem settle_of_noNotices {s : State} (h : NoNotices s) : settle s = s := by
  have h' : s.action.notices = [] := h
  unfold settle settleBound settleN
  rw [h']
/-- R146: taking the changes twice is taking them once. -/
@[simp] theorem settle_settle (s : State) : settle (settle s) = settle s := settle_of_noNotices (settle_notices s)

theorem takeNotice_quiet {s : State} (h : Quiet s) (n : Notice) : takeNotice n s = s := by
  have l (x : PairIx) : listAt n x s = s := by simp [listAt, h.lists]
  have q : headAt n s = s := by simp [headAt, h.queue]
  simp [takeNotice, l, q]
theorem settleN_quiet (k : Nat) {s : State} (h : Quiet s) : settleN k s = s.setAction { s.action with notices := [] } := by
  induction k generalizing s with
  | zero => rfl
  | succ k ih =>
    unfold settleN
    split
    · rename_i e
      have : s.action = { s.action with notices := [] } := by rw [← e]
      conv => lhs; rw [show s = s.setAction s.action from rfl, this]
    · rename_i n rest e
      have h' : Quiet (s.setAction { s.action with notices := rest }) := ⟨h.queue, h.lists⟩
      rw [takeNotice_quiet h', ih h']
      rfl
/-- R145, R151, R156: where no list has a condition and the queue is empty, a change handed over does nothing. -/
theorem settle_quiet {s : State} (h : Quiet s) : settle s = s.setAction { s.action with notices := [] } := settleN_quiet _ h
theorem outsideLevel_settle_quiet {s : State} (h : Quiet s) : outsideLevel (settle s) = outsideLevel s := by
  rw [settle_quiet h]
  simp [outsideLevel, State.setAction]
theorem Quiet.of_outsideLevel {s t : State} (h : Quiet s) (e : outsideLevel t = outsideLevel s) : Quiet t :=
  ⟨by rw [queue_of_outsideLevel e]; exact h.queue, fun x => by rw [working_of_outsideLevel e]; exact h.lists x⟩

/-! ## Commands -/

/-- A command on a node with its supply. -/
theorem whenPowered_next (f : State → State) (s : State) : whenPowered f s = .next (if s.powered then f s else s) := rfl
theorem settled_next (f : State → State) (s : State) : settled f s = .next (if s.powered then settle (f s) else s) := rfl
theorem settled_powered {s : State} (f : State → State) (h : s.powered = true) : settled f s = .next (settle (f s)) := by
  simp [settled_next, h]
theorem whenPowered_powered {s : State} (f : State → State) (h : s.powered = true) : whenPowered f s = .next (f s) := by
  simp [whenPowered_next, h]

end Sys2Proof.Safety
end

