-- ==== Sys2Proof/Laws/Tables.lean ====
section
/-! SUPPORT. What replacing a record with a table load can do. -/

namespace Sys2Proof.Safety
open Sys2Proof.Machine

/-- A mark, made or not, reaches the holding places alone. -/
theorem markIf_frame (s : State) (b : Bool) (x : Source) :
    ∃ t, s.markIf b x = s.setMgmt { s.mgmt with holding := t } := by
  cases b
  · exact ⟨s.mgmt.holding, rfl⟩
  · exact ⟨_, rfl⟩
/-- Marks made one after another do too. -/
theorem markIfs_frame (x : Source) (l : List Bool) (s : State) :
    ∃ t, l.foldl (fun s b => s.markIf b x) s = s.setMgmt { s.mgmt with holding := t } := by
  induction l generalizing s with
  | nil => exact ⟨s.mgmt.holding, rfl⟩
  | cons b l ih =>
    obtain ⟨t, ht⟩ := markIf_frame s b x
    obtain ⟨u, hu⟩ := ih (s.markIf b x)
    exact ⟨u, by rw [List.foldl_cons, hu, ht]; rfl⟩
/-- R143: a replaced refuge record stands, and beside it only the holding places have changed. -/
theorem replaceRefuge_frame (r : PairIx) (y : Refuge) (s : State) :
    ∃ t, replaceRefuge r y s = (s.setRefuge r y).setMgmt { s.mgmt with holding := t } := markIfs_frame (.refuge r) _ (s.setRefuge r y)
/-- R130: a reset block entry leaves all but the Block Controller's entries alone. -/
@[simp] theorem outsideLevel_resetBlock (i : BlockIx) (s : State) : outsideLevel (resetBlock i s) = outsideLevel s :=
  outsideLevel_setBlocks s _ ⟨rfl, rfl, rfl, rfl⟩
/-- R116: a replaced block entry posts at most its STATE. -/
@[simp] theorem outsideLevel_replaceBlock (i : BlockIx) (s : State) : outsideLevel (replaceBlock i s) = outsideLevel s := by
  simp only [replaceBlock]; split
  · rw [postState, outsideLevel_post, outsideLevel_resetBlock]
  · exact outsideLevel_resetBlock i s
/-- R117: a posted readiness is the far entry's own field and a message. -/
@[simp] theorem outsideLevel_postReadiness (i : BlockIx) (s : State) : outsideLevel (postReadiness i s) = outsideLevel s := by
  rw [postReadiness, outsideLevel_post, outsideLevel_setFar]
/-- R117: what a load does for the readiness is to post it or nothing. -/
@[simp] theorem outsideLevel_readinessLoaded (i : BlockIx) (was : Bool) (s : State) :
    outsideLevel (readinessLoaded i was s) = outsideLevel s := by
  unfold readinessLoaded; split
  · exact outsideLevel_postReadiness i s
  · rfl
/-- R151: a replaced entry's hand-over reaches the Action Unit alone. -/
@[simp] theorem outsideLevel_notifyReplaced (i : BlockIx) (old : Nat) (s : State) :
    outsideLevel (notifyReplaced i old s) = outsideLevel s := by
  simp only [notifyReplaced, outsideLevel_notify]; split
  · rfl
  · exact outsideLevel_notify s _

end Sys2Proof.Safety
end

