-- ==== Sys2Proof/WellFormed.lean ====
section
/-! DEFINITION. The operands a command can carry. Whatever fits the octets of its message or order is well formed, its range
tests being the rules' own (R168, R199, R202); cells and frames are whole, as their carriers bring them. -/

namespace Sys2Proof

/-- A number that fits one octet. -/
def isOctet (n : Nat) : Bool := n < 256
/-- A number that fits two octets. -/
def isPair (n : Nat) : Bool := n < 65536
/-- R48: a line cell is 36 octets. -/
def isCell (c : List Octet) : Bool := c.length == 36
/-- Chapter 11: a spur frame is 48 octets. -/
def isFrame (f : List Octet) : Bool := f.length == 48
/-- R174: an order kind is 0 to 63. -/
def isKind (k : Nat) : Bool := k < 64
/-- R174: an order's body is at most 224 octets; TABLE LOAD has 3 before its entries. -/
def isEntries (l : List Octet) : Bool := l.length ≤ 221

/-- A command is well formed when its operands fit what carries them. -/
def Instr.wf : Instr → Bool
  | .powerOn => true
  | .restartCarriedOut => true
  | .lineCycle _ _ => true
  | .inbyeSegmentCell c => isCell c
  | .outbyeSegmentCell c => isCell c
  | .trafficCell _ _ c => isCell c
  | .managementCell _ c => isCell c
  | .framingLost _ => true
  | .portLost _ => true
  | .portUp _ => true
  | .windowEnd => true
  | .reading _ sub raw q => isOctet sub && isPair raw && isOctet q
  | .staleExpiry _ => true
  | .contactChange _ => true
  | .offhook _ => true
  | .onhook _ => true
  | .digit _ d => isOctet d
  | .surfaceCompletionTimeout _ => true
  | .refugeEmergencyCompletion _ => true
  | .collectingTimeout _ => true
  | .requestedTimeout _ => true
  | .heldTimeout _ => true
  | .alertingTimeout _ => true
  | .ringingTimeout _ => true
  | .continuityLoss _ => true
  | .tag _ t sense => isPair t && isOctet sense
  | .truckStatus _ t st => isPair t && isOctet st
  | .claim b t => isOctet b && isPair t
  | .grant b t => isOctet b && isPair t
  | .wait b t => isOctet b && isPair t
  | .exit b t => isOctet b && isPair t
  | .state b st dir n tags mw fw =>
      isOctet b && isOctet st && isOctet dir && isOctet n && tags.length == 4 && tags.all isPair && isPair mw && isPair fw
  | .farEndState b r => isOctet b && isOctet r
  | .blockTurn _ => true
  | .overdue _ t => isPair t
  | .checkin _ t => isPair t
  | .checkout _ t => isPair t
  | .door _ v => isOctet v
  | .distress _ => true
  | .stopTrucksEnd => true
  | .headDelayExpiry => true
  | .spurFrame _ f => isFrame f
  | .hello _ h => isOctet h
  | .spurSilenceTimeout _ => true
  | .fillCreditEarned => true
  | .outbyeCellFill => true
  | .accessExpiry => true
  | .commitComplete => true
  | .enquire _ => true
  | .statusPoll _ => true
  | .tableRead _ t f n => isOctet t && isOctet f && isOctet n
  | .tableLoad _ t f n l => isOctet t && isOctet f && isOctet n && isEntries l
  | .historyRead _ c i n => isOctet c && isOctet i && isOctet n
  | .commit _ => true
  | .restart _ => true
  | .unlock _ c => isPair c
  | .lock _ => true
  | .callAssignOrigin _ r n sl f => isOctet r && isOctet n && isOctet sl && isOctet f
  | .callAssignDestination _ p k sl f => isOctet p && isOctet k && isOctet sl && isOctet f
  | .callConnect _ r n => isOctet r && isOctet n
  | .callRelease _ r n => isOctet r && isOctet n
  | .callRefuse _ r n k => isOctet r && isOctet n && isOctet k
  | .tripPrepare _ => true
  | .tripReset _ => true
  | .blockOpen _ b c => isOctet b && isOctet c
  | .blockClose _ b => isOctet b
  | .arm _ a0 a1 a2 c0 c1 c2 c3 =>
      isOctet a0 && isOctet a1 && isOctet a2 && isOctet c0 && isOctet c1 && isOctet c2 && isOctet c3
  | .levelClear _ => true
  | .truckClear _ => true
  | .outputSet _ o f => isOctet o && isOctet f
  | .unknownOrder _ k => isKind k
  | .supplyLoss => true
  | .erroredSegmentCell _ => true

end Sys2Proof
end

