-- ==== Sys2Proof/Tests/Slice0.lean ====
section
/-! SUPPORT. Small checks of the model against the manual's own figures and worked cases, a term that each check of WellFormed
refuses, and for each obligation with hypotheses states and operands that meet them. -/

open Sys2Proof Sys2Proof.Machine Sys2Proof.Safety
namespace Sys2Proof.Tests

/- The checks below run in the kernel one after another, so that none waits for a thread. -/
set_option Elab.async false

/-! ## A part at work -/

/-- Station 70 in district 6, with no authority code: spur 1 GAS, 2 VOICE of priority 3, 3 a refuge handset, 5 and 6 TRUCK, 7
REFUGE; channel 1 methane on spur 1 as in the manual's first worked case, entry 1 master of block 11 on spur 5, entry 3 far end
of block 13 on spur 6, refuge 1 on spur 7; contact 1 TRIP, contact 2 ALARM. -/
def tables : Tables :=
  { factoryTables with
    commission := { factoryTables.commission with station := 70, district := 6, roles := #v[.trip, .alarm] }
    spurs := #v[⟨.gas, false, 8⟩, ⟨.voice, false, 3⟩, ⟨.voice, true, 8⟩, ⟨.off, false, 8⟩, ⟨.truck, false, 8⟩, ⟨.truck, false, 8⟩,
      ⟨.refuge, false, 8⟩, ⟨.off, false, 8⟩]
    channels := factoryTables.channels.put 0 { factoryTables.channels.get 0 with spur := some 0, zero := 410, span := 556, shift := 2 }
    blocks := (factoryTables.blocks.put 0 { id := 11, role := .master, spur := some 4, convoy := 2, transit := 10 }).put 2
      { id := 13, role := .far, spur := some 5, convoy := 2, transit := 10 }
    refuges := factoryTables.refuges.put 0 { spur := some 6, chan1 := some 0, chan2 := none } }
/-- A port FRAMED and UP. -/
def upPort : LinePort := { LinePort.start with framed := true, up := true }
/-- The part with the latch reset, its spurs and ports UP, position 5, channel 1 NORMAL and block 11 FREE. -/
def site : State :=
  let s := State.poweredOn { tables := tables, good := true } [] 0
  { s with
    level := { s.level with
      latch := false, causes := [], firstCause := none, accumulated := [], output := false, received := true }
    air := s.air.put 0 { s.air.get 0 with status := .normal, f := some 1600, v := some 100, lastReported := .normal }
    line := { s.line with
      inPort := upPort, outPort := upPort, endOfLine := false, autonomous := false, rxSurface := true, position := some 5
      inbyePos := some 7, inbyeEol := some false }
    refuges := s.refuges.put 0 { s.refuges.get 0 with state := .standby }
    blocks := { s.blocks with
      entries := (s.blocks.entries.put 0
        { master := { Master.start with state := .free, farReady := true }, far := .start false }).put 2
        { master := .start, far := .start false } }
    spurs := s.spurs.mapIx fun _ x => if x.state = .off then x else { x with state := .up } }
/-- What a command leaves meets a test. -/
def shows (c : Instr) (s : State) (p : State → Bool) : Bool := match exec c s with | .next t => p t | _ => false
/-- An order addressed to the node, and a broadcast one. -/
def hdr : OrderHdr := { bcast := false, ref := 7 }
def all : OrderHdr := { bcast := true, ref := 7 }
/-- `Takes`, from conditions that can be decided. -/
theorem takes_of {h : OrderHdr} {s : State} (p : s.powered = true ∧ NoNotices s ∧ s.reachable h = true ∧ s.mgmt.restart = none ∧
    (h.bcast = false → s.repliesFull = false)) : Takes h s := ⟨p.1, p.2.1, p.2.2.1, p.2.2.2.1, p.2.2.2.2⟩
/-- `Quiet`, from conditions that can be decided. -/
theorem quiet_of {s : State} (p : s.action.queue = [] ∧ ∀ x, (s.working.triggers.get x).cond = none) : Quiet s := ⟨p.1, p.2⟩
theorem site_takes : Takes hdr site := takes_of (by decide +kernel)
theorem site_takes_all : Takes all site := takes_of (by decide +kernel)
theorem site_quiet : Quiet site := quiet_of (by decide +kernel)
theorem site_runs : site.powered = true ∧ NoNotices site := by decide +kernel

/-! ## WellFormed refuses what no carrier can bring -/

theorem test_wf_octets : (Instr.digit 0 255).wf = true ∧ (Instr.digit 0 256).wf = false ∧ (Instr.reading 0 256 0 0).wf = false ∧
    (Instr.reading 0 0 65536 0).wf = false ∧ (Instr.reading 0 0 0 256).wf = false ∧ (Instr.door 0 256).wf = false ∧
    (Instr.hello 0 256).wf = false := by decide
theorem test_wf_tags : (Instr.tag 0 65535 1).wf = true ∧ (Instr.tag 0 65536 1).wf = false ∧ (Instr.tag 0 1 256).wf = false ∧
    (Instr.truckStatus 0 65536 0).wf = false ∧ (Instr.truckStatus 0 1 256).wf = false ∧ (Instr.overdue 0 65536).wf = false ∧
    (Instr.checkin 0 65536).wf = false ∧ (Instr.checkout 0 65536).wf = false := by decide
theorem test_wf_cells : (Instr.inbyeSegmentCell (List.replicate 36 0)).wf = true ∧ (Instr.inbyeSegmentCell []).wf = false ∧
    (Instr.outbyeSegmentCell (List.replicate 35 0)).wf = false ∧ (Instr.trafficCell .inbye 0 (List.replicate 37 0)).wf = false ∧
    (Instr.managementCell .outbye []).wf = false ∧ (Instr.spurFrame 0 (List.replicate 48 0)).wf = true ∧
    (Instr.spurFrame 0 (List.replicate 47 0)).wf = false := by decide
theorem test_wf_neighbours : (Instr.claim 256 1).wf = false ∧ (Instr.grant 1 65536).wf = false ∧ (Instr.wait 256 1).wf = false ∧
    (Instr.exit 1 65536).wf = false ∧ (Instr.farEndState 1 256).wf = false ∧ (Instr.state 1 1 0 0 [0, 0, 0, 0] 0 0).wf = true ∧
    (Instr.state 256 1 0 0 [0, 0, 0, 0] 0 0).wf = false ∧ (Instr.state 1 1 0 0 [0, 0, 0] 0 0).wf = false ∧
    (Instr.state 1 1 0 0 [0, 0, 0, 65536] 0 0).wf = false ∧ (Instr.state 1 1 0 0 [0, 0, 0, 0] 65536 0).wf = false := by decide
theorem test_wf_orders : (Instr.tableRead hdr 256 0 0).wf = false ∧ (Instr.historyRead hdr 1 0 256).wf = false ∧
    (Instr.unlock hdr 65536).wf = false ∧ (Instr.callAssignOrigin hdr 1 256 2 1).wf = false ∧
    (Instr.callAssignDestination hdr 1 2 3 256).wf = false ∧ (Instr.callConnect hdr 256 1).wf = false ∧
    (Instr.callRelease hdr 1 256).wf = false ∧ (Instr.callRefuse hdr 1 1 256).wf = false ∧ (Instr.blockOpen hdr 1 256).wf = false ∧
    (Instr.blockClose hdr 256).wf = false ∧ (Instr.arm hdr 0 0 0 0 0 0 256).wf = false ∧ (Instr.outputSet hdr 1 256).wf = false ∧
    (Instr.unknownOrder hdr 0).wf = true ∧ (Instr.unknownOrder hdr 63).wf = true ∧ (Instr.unknownOrder hdr 64).wf = false := by
  decide
theorem test_wf_load : (Instr.tableLoad hdr 1 1 1 (List.replicate 221 0)).wf = true ∧
    (Instr.tableLoad hdr 1 1 1 (List.replicate 222 0)).wf = false := by decide +kernel

/-! ## Layouts written out from chapter 11 -/

/-- R195: the manual's own check value. -/
theorem test_check_word : checkWord [0x31, 0x32, 0x33, 0x34, 0x35, 0x36, 0x37, 0x38, 0x39] = 0x29B1 := by decide +kernel
/-- R202: READING, sub-channel 1, raw 0x04D2, quality 0, from its octets. -/
theorem test_reading_octets : headMsgOf [2, 1, 0x04, 0xD2, 0] = some (.reading 1 1234 0) ∧ headMsgOf [2, 1, 0x04, 0xD2] = none ∧
    headMsgOf [6, 0x04, 0xB1, 1] = some (.tag 1201 1) ∧ headMsgOf [12] = none := by decide +kernel
/-- R199: UNLOCK with code 0x1234, TABLE READ of entries 1 and 2 of table 4, and a BLOCK CLOSE of the wrong length. -/
theorem test_order_octets : orderOf 8 [0x12, 0x34] = .unlock 0x1234 ∧ orderOf 3 [4, 1, 2] = .tableRead 4 1 2 ∧
    orderOf 18 [] = .badForm 18 ∧ orderOf 23 [1] = .unknown 23 := by decide +kernel
/-- R198: CLAIM of block 17 by tag 812, and a master STATE with one tag. -/
theorem test_neighbour_octets : nMsgOctets (some (.claim 17 812)) = [1, 17, 3, 44] ++ List.replicate 17 0 ∧
    nMsgOctets (some (.masterState 17 2 1 1 [305, 0, 0, 0] 0 812)) =
      [5, 17, 2, 1, 1, 1, 49, 0, 0, 0, 0, 0, 0, 0, 0, 3, 44] ++ List.replicate 4 0 := by decide +kernel
/-- R200: a SPURS entry of type VOICE, a refuge handset, priority 5; one of type GAS cannot be a refuge handset. -/
theorem test_spur_entry : spurCfgOf [2, 1, 5] = some ⟨.voice, true, 5⟩ ∧ spurCfgOf [1, 1, 5] = none ∧ spurCfgOf [2, 0, 16] = none := by
  decide +kernel

/-! ## Worked cases: air channels -/

/-- The channel of the manual's methane case after a run of GOOD readings, as status, F, V and N. -/
def after (c : ChanCfg) (f v : Nat) (run : List Nat) : ChanStatus × Option Nat × Option Nat × Nat :=
  let x := run.foldl (fun x r => goodReading c r x)
    { Channel.start true 16 with status := .normal, lastReported := .normal, f := some f, v := some v }
  (x.status, x.f, x.v, x.n)
def methane : ChanCfg := tables.channels.get 0
def oxygen : ChanCfg :=
  { methane with kind := .oxygen, zero := 800, span := 3000, shift := 1, l1 := 1950, l2 := 1900, l3 := 1800, hyst := 20, confirm := 2 }
def monoxide : ChanCfg :=
  { methane with kind := .carbonMonoxide, zero := 400, span := 2400, shift := 1, l1 := 25, l2 := 50, l3 := 100, hyst := 5, confirm := 2 }
/-- Worked cases "A methane rise" (readings 1 to 3) and "The same channel falling back" (readings 4 to 8). -/
theorem test_methane_case :
    after methane 1600 100 [1230] = (.normal, some 1644, some 103, 1) ∧
    after methane 1600 100 [1230, 1300] = (.normal, some 1717, some 107, 2) ∧
    after methane 1600 100 [1230, 1300, 1300] = (.alert, some 1772, some 111, 0) ∧
    after methane 1600 100 [1230, 1300, 1300, 1000, 1000, 1000, 1000] = (.alert, some 1436, some 90, 0) ∧
    after methane 1600 100 [1230, 1300, 1300, 1000, 1000, 1000, 1000, 1000] = (.normal, some 1397, some 87, 0) := by decide +kernel
/-- Worked case "An oxygen channel", a falling kind. -/
theorem test_oxygen_case :
    after oxygen 33440 2090 [3420, 3420, 3420] = (.normal, some 31046, some 1940, 1) ∧
    after oxygen 33440 2090 [3420, 3420, 3420, 3420] = (.alert, some 30875, some 1930, 0) ∧
    after oxygen 33440 2090 [3420, 3420, 3420, 3420, 3650] = (.normal, some 32134, some 2008, 0) := by decide +kernel
/-- Worked case "An over-range carbon monoxide reading": the override, and the fall band by band. -/
theorem test_monoxide_case :
    after monoxide 320 20 [3900] = (.trip, some 16160, some 1010, 0) ∧
    after monoxide 320 20 [3900, 700, 430, 430] = (.trip, some 2588, some 162, 0) ∧
    after monoxide 320 20 [3900, 700, 430, 430, 430] = (.alarm, some 1438, some 90, 0) ∧
    after monoxide 320 20 [3900, 700, 430, 430, 430, 430, 430] = (.alert, some 575, some 36, 0) := by decide +kernel
/-- The end of the methane case: F arrives at 1280 by steps of at least 1. -/
theorem test_filter_arrives : filterNext 2 1282 80 = 1281 ∧ filterNext 2 1281 80 = 1280 ∧ filterNext 2 1280 80 = 1280 := by
  decide +kernel

/-! ## One step of each kind of command -/

/-- The part with one call record, and with one master record. -/
def withCall (x : CallRec) : State := site.setCall 0 x
def withMaster (m : Master) : State := site.setMaster 0 m
def listed (tags : List Nat) : List Truck := tags.map fun t => { tag := t, cycle := 0, age := 0, overdue := false }
/-- An ORIGIN record on spur 2, call number 9, collecting. -/
def collecting (digits : List Nat) (timer : Nat) : CallRec :=
  { CallRec.idle with
    state := .collecting, callNo := some 9, role := some .origin, origin := some 1, priority := some 3, digits := digits, timer := some timer }
/-- The same call on slot 2, far side outbye. -/
def origin (st : CallState) : CallRec :=
  { collecting [0] 0 with state := st, dialled := some .surface, far := some .outbye, slot := some 0 }
/-- A DESTINATION record and a LOCAL record (from spur 3) that ring spur 2. -/
def ringing : CallRec := { origin .ringing with role := some .destination, digits := [], dialled := none }
def localRing : CallRec :=
  { CallRec.idle with state := .ringing, callNo := some 9, role := some .localCall, origin := some 2, dest := some 1, priority := some 3 }

/-- R36, R28, R33: a NO DATA channel's first reading above L3 trips the district at once. -/
theorem test_reading_trips : shows (.reading 0 0 4095 0) (site.setChan 0 { site.air.get 0 with status := .noData }) (fun t =>
    t.level.firstCause == some (.channelTrip 0, 0) && t.level.effective == 3 && t.level.mask == 3 && t.level.output &&
      t.level.drive.get 0 && t.level.drive.get 1 && t.blocks.stopAll) = true := by decide +kernel
/-- R29, R37: a segment cell's order of TRIP asserts the output of a node whose latch is clear (worked case, station 30). -/
theorem test_ordered_trip :
    shows (.inbyeSegmentCell (wireCell 1 (some (segPayload true 4 30000 (Tab.fill 16 3) none)))) site (fun t =>
      t.level.latch == false && t.level.output && t.level.effective == 3 && t.level.localLevel == 0 && t.line.cycle == 30000 &&
        t.line.position == some 5) = true := by decide +kernel
/-- R51, R59: SURFACE PRESENT clear makes the node autonomous with the ordered levels it held (worked case, station 15). -/
theorem test_surface_absent :
    shows (.inbyeSegmentCell (wireCell 1 (some (segPayload false 4 30000 (Tab.fill 16 3) none)))) site (fun t =>
      t.line.autonomous && t.level.ordered.get 6 == 0 && t.level.received == false) = true := by decide +kernel
/-- R52: the inbye neighbour's END OF LINE flag. -/
theorem test_outbye_segment :
    shows (.outbyeSegmentCell (wireCell 1 (some (segPayload true 6 0 (Tab.fill 16 1) (some (.claim 11 100)))))) site (fun t =>
      t.line.inbyeEol == some true && t.line.inbyePos == some 6 && (t.master 0).state == .held) = true := by decide +kernel
/-- R82: the worked call: record 1 is taken with the counter's number, and DIAL sent. -/
theorem test_offhook : shows (.offhook 1) { site with calls := { site.calls with counter := 59 } } (fun t =>
    (t.call 0).state == .collecting && (t.call 0).callNo == some 59 && (t.call 0).priority == some 3 && t.calls.counter == 60 &&
      (t.spurs.get 1).queue == [.tone .dial]) = true := by decide +kernel
/-- R84: "99" is EMERGENCY. -/
theorem test_digit_emergency : shows (.digit 1 9) (withCall (collecting [9] 7)) (fun t =>
    (t.call 0).state == .requested && (t.call 0).dialled == some .emergency && (t.call 0).priority == some 0) = true := by
  decide +kernel
/-- R92: slot 12 with far side OUTBYE is index 40 for adding and index 10 for dropping (worked call). -/
theorem test_assign_origin : shows (.callAssignOrigin hdr 1 9 12 2) (withCall (origin .requested)) (fun t =>
    (t.call 0).state == .alerting && (t.slots.map.get 40).add == some 0 && (t.slots.map.get 10).drop == some 0 &&
      (t.spurs.get 1).queue == [.tone .ringback]) = true := by decide +kernel
/-- R90: the mask's fall preempts a call above it and keeps one within it (the same rise to TRIP). -/
theorem test_preempted : shows (.contactChange 0)
    ((withCall { origin .connected with priority := some 4 }).setLevel
      { site.level with contacts := site.level.contacts.put 0 { active := false, run := 3 } }) (fun t =>
    (t.call 0).state == .cleared && (t.call 0).cause == some .preempted && t.level.firstCause == some (.contact 0, 0)) = true := by
  decide +kernel
/-- The worked meeting of two trucks: 305 in at the master, 812 waits, and the exit of 305 turns the block. -/
theorem test_truck_granted : shows (.tag 4 305 0) site (fun t =>
    (t.master 0).state == .held && (t.master 0).dir == some .inbye && listTags (t.master 0).list == [305] &&
      (t.spurs.get 4).queue == [.lights .go]) = true := by decide +kernel
theorem test_truck_waits : shows (.claim 11 812) (withMaster
    { site.master 0 with state := .held, dir := some .inbye, list := listed [305], goTag := some 305 }) (fun t =>
    (t.master 0).state == .draining && (t.master 0).fWait == some 812 && t.line.inPort.queue.head? == some (.wait 11 812)) = true := by
  decide +kernel
theorem test_truck_turns : shows (.exit 11 305) (withMaster
    { site.master 0 with
      state := .draining, dir := some .inbye, list := listed [305], mWait := some 430, fWait := some 812 }) (fun t =>
    (t.master 0).state == .draining && (t.master 0).dir == some .outbye && listTags (t.master 0).list == [812] &&
      (t.master 0).mWait == some 430 && (t.master 0).fWait == none && (t.master 0).memory == [305]) = true := by decide +kernel
/-- The worked evacuation: the last checkout stands the chamber down. -/
theorem test_last_checkout : shows (.checkout 6 2210)
    (site.setRefuge 0 { site.refuges.get 0 with state := .occupied, muster := [2210], prepared := true }) (fun t =>
    (t.refuges.get 0).state == .standby && (t.refuges.get 0).prepared == false &&
      (t.spurs.get 6).queue == [.refugeStanddown]) = true := by decide +kernel
/-- R138: a press in an occupied chamber raises the district to EVACUATE, and the chamber is prepared. -/
theorem test_distress : shows (.distress 6)
    (site.setRefuge 0 { site.refuges.get 0 with state := .occupied, muster := [2210] }) (fun t =>
    (t.refuges.get 0).state == .distress && t.level.effective == 4 && t.level.mask == 0 && (t.refuges.get 0).prepared) = true := by
  decide +kernel
/-- The worked restart of a handset in a call: HELLO in UP clears the call LOST, and the spur is UP again. -/
theorem test_hello_in_call : shows (.hello 1 2)
    { withCall (origin .connected) with calls := { (withCall (origin .connected)).calls with hooks := site.calls.hooks.put 1 true } }
    (fun t => (t.call 0).cause == some .lost && t.calls.hooks.get 1 == false && (t.spurs.get 1).state == .up &&
      (t.spurs.get 1).queue == [] && (t.spurs.get 1).ack == some true && t.held (.spur 1) == some 1) = true := by decide +kernel
/-- The worked variant: a beacon on a handset's spur is a MISMATCH, and its messages are counted. -/
theorem test_wrong_head : shows (.hello 1 3) (site.setSpur 1 { site.spurs.get 1 with state := .starting }) (fun t =>
    (t.spurs.get 1).state == .mismatch && (t.spurs.get 1).ack == some false && (t.spurs.get 1).offered == some .truck) = true := by
  decide +kernel
/-- The worked partial load: the second of three CHANNELS entries fails its order of thresholds; two are not applied. -/
theorem test_partial_load :
    let ok := chanCfgOctets { methane with spur := some 0, sub := 1 }
    let bad := chanCfgOctets { methane with kind := .carbonMonoxide, l1 := 25, l2 := 100, l3 := 50 }
    shows (.tableLoad hdr 4 5 3 (ok ++ (bad ++ ok))) site (fun t =>
      t.mgmt.replies == [{ ref := 7, body := [4, 9, 6, 4, 2] }] && (t.air.get 4).status == .noData &&
        (t.air.get 5).status == .unused && t.held (.channel 4) == some 0) = true := by decide +kernel
/-- R156, R157: the head runs when the level falls to it, fails, and what stands behind it is flushed. -/
theorem test_queue_failure : shows (.levelClear hdr)
    { site with
      level := { site.level with hold := 3, localLevel := 3, effective := 3, mask := 3, drive := Tab.fill 2 true }
      blocks := { site.blocks with stopAll := true }
      action := { site.action with queue := [(.refugePrepare 1, .levelAtMost 2), (.sendNote 43, .tagSeen 2 1201)] } } (fun t =>
    t.action.queue == [] && t.action.flushed == 1 &&
      t.action.failure == some { source := .queue, position := 0, action := .refugePrepare 1 }) = true := by decide +kernel
/-- R147, R152: list A of the worked methane trip runs its four actions on the rise to TRIP. -/
theorem test_list_runs : shows (.reading 0 0 4095 0)
    { site with
      air := site.air.put 0 { site.air.get 0 with status := .noData }
      blocks := (withMaster { site.master 0 with state := .held, dir := some .inbye, list := listed [1201] }).blocks
      working := { tables with
        triggers := tables.triggers.put 0
          { cond := some (.channelAtLeast 0 3), actions := [.setOutput 0 .on, .stopTrucks, .closeBlock 11, .sendNote 41] } }
      action := { site.action with lists := #v[.armed, .empty] } } (fun t =>
    t.action.lists.get 0 == .fired && t.level.force.get 0 == .on && t.action.stopTrucks == 15000 &&
      (t.master 0).state == .closing && t.action.notes == [41] && t.action.failure == none) = true := by decide +kernel
/-- R187: a loss of supply during a store write leaves the stored copy failing its check, and power-on then takes the factory
tables with STORE among the causes (worked variant). -/
theorem test_supply_loss : shows .supplyLoss
    { site with mgmt := { site.mgmt with write := some { copy := tables, bcast := false, ref := 1, elapsed := 50 } } } (fun t =>
    t.store.good == false && t.powered == false && t.isolated) = true := by decide +kernel
theorem test_power_on_after_loss : shows .powerOn { site with powered := false, store := { tables := tables, good := false } } (fun t =>
    t.commissioned == false && t.mgmt.storeFault && t.level.causes == [.power, .store] && (t.spurs.get 1).state == .off) = true := by
  decide +kernel
/-- R189, R27, R172: a restart takes the stored tables again and keeps the latch; LEVEL and every SPUR source are pending. -/
theorem test_restart : shows .restartCarriedOut
    { State.reset with working := tables, mgmt := { State.reset.mgmt with restart := some true } } (fun t =>
    t.commissioned == false && t.level.latch && t.mgmt.restart == none && (t.held .level).isSome &&
      (t.held (.spur 3)).isSome) = true := by decide +kernel
/-- R189, R102: a handset left off hook through a restart starts again, with RING off before DIAL (R171). -/
theorem test_restart_off_hook : shows .restartCarriedOut
    { site with
      calls := { (withCall (origin .connected)).calls with hooks := site.calls.hooks.put 1 true }
      mgmt := { site.mgmt with restart := some false } } (fun t =>
    (t.call 0).state == .collecting && (t.spurs.get 1).queue == [.ring false, .tone .dial] &&
      (t.slots.map.get 0).mode == .pass) = true := by decide +kernel

/-- R48: in HUNT a good cell in place 3 that names slot 7 fixes the frame, so place 4 has slot 8; another slot there is errored. -/
theorem test_frame_fixed : shows (.trafficCell .inbye 1 (wireCell 7 none)) (site.setPort .inbye { upPort with framed := false })
    (fun t => (t.port .inbye).framed && (t.port .inbye).expected 4 == 8) = true := by decide +kernel
theorem test_slot_out_of_order : shows (.trafficCell .inbye 2 (wireCell 5 none)) (site.setPort .inbye { upPort with shift := 4 })
    (fun t => (t.port .inbye).errRun == 1 && (t.port .inbye).total == 1) = true := by decide +kernel
/-- R41: three differing samples stand until the change is taken, whatever the next sample is. R70, R164: in a cycle without a frame the
connected handset's cell carries the idle pattern, and an OFF spur keeps no sign of a frame. -/
theorem test_cycle_without_frame : shows (.lineCycle false false)
    ((((site.setSpur 1 { site.spurs.get 1 with voice := some (List.replicate 32 5) }).setSpur 3 { site.spurs.get 3 with heard := true }).setSlot
      (addIx .outbye 0) { drop := none, add := none, continuity := 0, out := some (.voice 1) }).setLevel
        { site.level with contacts := site.level.contacts.put 0 { active := false, run := 3 } }) (fun t =>
    t.pins.outbyeTx[2]? == some (wireCell 2 (some idleVoice)) && (t.spurs.get 3).heard == false &&
      (t.level.contacts.get 0).run == 3) = true := by decide +kernel
/-- R58, R59, R165, chapter 3's break and chapter 9's silence: cycle 30007 is the eighth without a segment cell and the 500th without a
frame. The cells of cycle 30008 have SURFACE PRESENT clear and END OF LINE set, and the frame has START set. -/
theorem test_break : shows (.lineCycle false false)
    ((site.setLine { site.line with
      cycle := 30006, rxOrdered := Tab.fill 16 2
      inPort := { upPort with miss := 7 }, outPort := { upPort with miss := 7 } }).setSpur 1 { site.spurs.get 1 with silence := 499 }) (fun t =>
    t.pins.inbyeTx[1]? == some (wireCell 1 (some (segPayload false 5 30008 (Tab.fill 16 0) none))) &&
      (t.pins.outbyeTx[1]?.map fun c => segFlag (cellPayload c)) == some true && t.line.cycle == 30007 &&
      (t.pins.spurTx.get 1) == some (wireFrame true idleVoice [])) = true := by decide +kernel
/-- R48: after 32 errored cells in a row the next cell arrives in HUNT: it fixes the frame and is not counted. -/
theorem test_hunt_before_cell : shows (.managementCell .inbye (wireCell 7 none)) (site.setPort .inbye { upPort with errRun := 32, shift := 4 })
    (fun t => (t.port .inbye) == { upPort with shift := 7 }) = true := by decide +kernel
/-- R17, R32, R151: the first channel of a lost spur falls from TRIP to FAULT, which arms list A again; the second gives CHANNEL FAULT, and
the level's return to TRIP runs it. -/
theorem test_channels_fault_in_turn : shows (.spurSilenceTimeout 0)
    (formQuietly { site with
      working := { tables with
        channels := (tables.channels.put 0 { tables.channels.get 0 with tripOn := false, faultTrips := false }).put 1
          { tables.channels.get 0 with sub := 1, faultTrips := true }
        triggers := tables.triggers.put 0 { cond := some (.levelAtLeast 2), actions := [.sendNote 41] } }
      air := (site.air.put 0 { site.air.get 0 with status := .trip }).put 1 (site.air.get 0)
      action := { site.action with lists := #v[.fired, .empty], last := #v[true, false] }
      spurs := site.spurs.put 0 { site.spurs.get 0 with silence := 500 } }) (fun t =>
    t.action.notes == [41] && t.level.localLevel == 3 && t.level.firstCause == some (.channelFault 1, 0)) = true := by decide +kernel
/-- R116, R151: the loss of the inbye port takes entry 1, and then entry 2, into FAULT: list B, which reads entry 1, runs first. -/
theorem test_lists_run_in_entry_order : shows (.portLost .inbye)
    { site with
      working := { tables with
        blocks := (tables.blocks.put 1 { id := 12, role := .master, spur := some 5, convoy := 2, transit := 10 }).put 2
          (factoryTables.blocks.get 2)
        triggers := #v[{ cond := some (.blockFault 12), actions := [.sendNote 41] }, { cond := some (.blockFault 11), actions := [.sendNote 42] }] }
      action := { site.action with lists := #v[.armed, .armed] }
      line := { site.line with inPort := { upPort with miss := 8 } } } (fun t => t.action.notes == [42, 41]) = true := by decide +kernel
/-- R121, R151: the outbye port comes UP: the far entry's local fault clears, which arms list A again, and the cell's STATE brings its
mirror to FAULT, which runs it. -/
theorem test_port_up_runs_list : shows (.portUp .outbye)
    { (site.setFar 2 (.start true)) with
      working := { tables with triggers := tables.triggers.put 0 { cond := some (.blockFault 13), actions := [.sendNote 41] } }
      action := { site.action with lists := #v[.fired, .empty], last := #v[true, false] }
      line := { site.line with outPort := { upPort with
        up := false, good := 16
        heldCell := segPayload true 4 30000 (Tab.fill 16 0) (some (.masterState 13 5 0 0 [0, 0, 0, 0] 0 0)) } } } (fun t =>
    t.action.notes == [41] && t.action.lists.get 0 == .fired && (t.farEnd 2).localFault == false) = true := by decide +kernel
/-- Entry 3 is the only entry, with spur 5 DOWN and spur 6 UP, bound to the spur given. -/
def rebound (p : SpurId) : State :=
  { site with
    working := { tables with
      blocks := (tables.blocks.put 0 (factoryTables.blocks.get 0)).put 2 { tables.blocks.get 2 with spur := some p } }
    spurs := site.spurs.put 4 { site.spurs.get 4 with state := .down } }
/-- R117: a load that binds a far entry to a spur that is not UP, or back to one that is, posts its new readiness. -/
theorem test_load_posts_readiness :
    shows (.tableLoad hdr 5 3 1 (blockCfgOctets { tables.blocks.get 2 with spur := some 4 })) (rebound 5) (fun t =>
      t.line.outPort.queue == [.farState 13 0] && (t.farEnd 2).readySent == false) = true ∧
    shows (.tableLoad hdr 5 3 1 (blockCfgOctets (tables.blocks.get 2))) (rebound 4) (fun t =>
      t.line.outPort.queue == [.farState 13 1] && (t.farEnd 2).readySent) = true ∧
    shows (.tableLoad hdr 5 3 1 (blockCfgOctets (tables.blocks.get 2))) (rebound 5) (fun t => t.line.outPort.queue.isEmpty) = true := by
  decide +kernel
/-- R79, R98: the CALLS entry of an IDLE record: all is absent but its index and its state, the state timer being 0xFFFF. -/
theorem test_idle_record_octets : site.callEntryOctets 2 =
    [3, 0, 0, 0, 0, 0, 0xFF, 0, 0, 0, 0, 0, 0, 0xFF, 0xFF, 0xFF, 0xFF, 0, 0xFF] := by decide +kernel
/-- R176: an UNLOCK without its code is out of form, and INVALID. -/
theorem test_out_of_form : shows (.unknownOrder hdr 8) site (fun t =>
    t.mgmt.replies == [{ ref := 7, body := [8, octet (resultCode .invalid)] }]) = true := by decide +kernel
/-- R83: the origin of a HELD LOCAL call goes on hook, and the other handset, off hook, gets BUSY tone. -/
theorem test_onhook_held_local : shows (.onhook 2)
    { withCall { localRing with state := .held } with
      calls := { (withCall { localRing with state := .held }).calls with hooks := (site.calls.hooks.put 1 true).put 2 true } } (fun t =>
    (t.call 0).cause == some .normal && (t.spurs.get 1).queue == [.tone .busy]) = true := by decide +kernel
/-- R116: a load that replaces a FREE master posts its STATE, now CLOSED. -/
theorem test_load_posts_state : shows (.tableLoad hdr 5 1 1 (blockCfgOctets (tables.blocks.get 0))) site (fun t =>
    (t.master 0).state == .closed && t.line.inPort.queue == [.masterState 11 0 0 0 [] 0 0]) = true := by decide +kernel
/-- R151, R121: HELLO on an UP TRUCK spur takes the far entry into FAULT and back, and a list on that FAULT fires and is armed again. -/
theorem test_hello_fires_list : shows (.hello 5 3)
    { site with
      blocks := (site.setFar 2 { site.farEnd 2 with mirror := { (site.farEnd 2).mirror with state := .free } }).blocks
      working := { tables with triggers := tables.triggers.put 0 { cond := some (.blockFault 13), actions := [.sendNote 41] } }
      action := { site.action with lists := #v[.armed, .empty] } } (fun t =>
    t.action.notes == [41] && t.action.lists.get 0 == .armed && (t.farEnd 2).shown == .free) = true := by decide +kernel
/-- R178: a credit earned in a cycle counts before that cycle's fill decision. -/
theorem test_due_credit_fills : shows .outbyeCellFill
    (site.setMgmt { site.mgmt with spacing := site.working.commission.spacing, credit := 0, replies := [{ ref := 7, body := [9, 0] }] })
    (fun t => t.mgmt.toOutbye == some (mgmtPayload 1 62 70 0 7 [9, 0]) && t.mgmt.credit == 0 && t.mgmt.spacing == 0) = true := by
  decide +kernel

/-! ## Witnesses: what the statements assume can be met

Each theorem gives, for the statement its name carries, states and operands that meet its hypotheses, clause by clause, at the
boundary where a clause begins or ends. -/

theorem witness_StepRunsTheFrontCommand :
    ({ site with pending := [.lock hdr] } : State).pending = .lock hdr :: [] ∧ State.reset.pending = [] := ⟨rfl, rfl⟩

/-! ### The relations: the part at work meets each, and so does its state after a command -/

/-- The part about to be given a cycle. -/
def going : State := { site with pending := [.lineCycle true true] }
theorem going_steps : ∃ t, step going = .next t := ⟨_, rfl⟩
theorem witness_IsolationFollowsItsConditions : IsolationFormed going ∧ ∃ t, step going = .next t :=
  ⟨⟨by decide +kernel, by decide +kernel⟩, going_steps⟩
theorem witness_LatchHoldsUntilTripReset : State.reset.level.latch = true ∧
    (∀ h, Instr.lineCycle true true ≠ .tripReset h) ∧ (∃ t, exec (.lineCycle true true) State.reset = .next t) ∧
    cellRow .outbye 9 [] = .trafficCell .outbye 7 [] ∧ (found (site.port .outbye)).expected 9 ≠ 0 ∧
    (∀ l, cellRow .outbye 0 l = .managementCell .outbye l) ∧ ({ site.line.outPort with shift := 4 } : LinePort).expected 0 ≠ 0 ∧
    ({ site.line.outPort with shift := 23 } : LinePort).expected 9 = 0 :=
  ⟨by decide +kernel, nofun, ⟨_, rfl⟩, rfl, by decide +kernel, fun _ => rfl, by decide +kernel⟩
theorem witness_LevelsStayFormed : LevelsFormed going ∧ ∃ t, step going = .next t :=
  ⟨⟨by decide +kernel, by decide +kernel, by decide +kernel, by decide +kernel⟩, going_steps⟩
theorem witness_AdmittedCallsStayWithinTheMask :
    AdmittedWithinMask { withCall (origin .connected) with pending := [.lineCycle true true] } ∧
    ((withCall (origin .connected)).call 0).admitted = true := ⟨by unfold AdmittedWithinMask; decide +kernel, by decide +kernel⟩
/-- A HELD block of one truck with a wait at each end, and room for another. -/
def heldMaster : Master :=
  { site.master 0 with state := .held, dir := some .inbye, list := listed [305], mWait := some 430, fWait := some 812, goTag := some 305 }
theorem witness_BlockListsStayFormed : MastersFormed { withMaster heldMaster with pending := [.lineCycle true true] } := by
  have h : ∀ i, ((withMaster heldMaster).master i).list.length ≤ max 1 ((withMaster heldMaster).working.blocks.get i).convoy ∧
      ((withMaster heldMaster).master i).faults.length ≤ max 1 ((withMaster heldMaster).working.blocks.get i).convoy ∧
      (listTags ((withMaster heldMaster).master i).list ++ listTags ((withMaster heldMaster).master i).faults ++
        ((withMaster heldMaster).master i).mWait.toList ++ ((withMaster heldMaster).master i).fWait.toList).Nodup ∧
      ((withMaster heldMaster).master i).state.engaged = !((withMaster heldMaster).master i).list.isEmpty ∧
      ((withMaster heldMaster).master i).faults = [] := by decide +kernel
  exact fun i => ⟨⟨(h i).1, (h i).2.1⟩, (h i).2.2.1, (h i).2.2.2.1, .inr (h i).2.2.2.2⟩
theorem witness_LineConditionsHold : LineConditions going.line ∧ ∃ t, step going = .next t :=
  ⟨⟨by decide +kernel, by decide +kernel, by decide +kernel, by decide +kernel⟩, going_steps⟩
theorem witness_ManagementCountsStayInRange : MgmtRange going.mgmt ∧ ∃ t, step going = .next t :=
  ⟨⟨by decide +kernel, by decide +kernel, by decide +kernel, by decide +kernel⟩, going_steps⟩
/-- A connected call on slot 2 with its pair installed. -/
def talking : State := installPair 0 .outbye 0 (withCall (origin .connected))
theorem witness_SlotOwnersStayLive : OwnersLive { talking with pending := [.lineCycle true true] } ∧
    (talking.slots.map.get (dropIx .outbye 0)).drop = some 0 := by
  have hd : ∀ e : SlotIx, ∀ r : RecId, (talking.slots.map.get e).drop = some r → r = 0 ∧ dropIx .outbye 0 = e := by decide +kernel
  have ha : ∀ e : SlotIx, ∀ r : RecId, (talking.slots.map.get e).add = some r → r = 0 ∧ addIx .outbye 0 = e := by decide +kernel
  have hl : (talking.call 0).live = true ∧ (talking.call 0).far = some .outbye ∧ (talking.call 0).slot = some 0 := by decide +kernel
  refine ⟨⟨by decide +kernel, fun e r h => ?_, fun e r h => ?_⟩, by decide +kernel⟩
  · obtain ⟨rfl, h'⟩ := hd e r h
    exact ⟨hl.1, _, _, hl.2.1, hl.2.2, h'⟩
  · obtain ⟨rfl, h'⟩ := ha e r h
    exact ⟨hl.1, _, _, hl.2.1, hl.2.2, h'⟩
theorem witness_NoChangeIsLeftUntaken : NoNotices going ∧ ∃ t, step going = .next t := ⟨by decide +kernel, going_steps⟩

/-! ### The layouts -/

theorem witness_SentCellsAndFramesReadBack : 31 < 32 ∧ (List.replicate 32 (1 : Octet)).length = 32 ∧
    (HeadMsg.reading 1 4095 0).octets.length ≤ 12 := by decide
theorem witness_SegmentCellsReadBack : 63 < 64 ∧ 65535 < 65536 ∧ (NMsg.claim 255 65535).fitsOctets = true ∧
    (NMsg.masterState 17 3 1 1 [305, 0, 0, 0] 430 812).fitsOctets = true ∧ (NMsg.farState 17 1).fitsOctets = true := by decide
theorem witness_HeadMessagesAndOrdersReadBack : (HeadMsg.tag 65535 255).fitsOctets = true ∧ HeadMsg.distress.fitsOctets = true ∧
    (Order.tableLoad 4 5 3 (List.replicate 63 0)).inForm = true ∧ (Order.blockOpen 255 1).inForm = true ∧
    (Order.unknown 0).inForm = true ∧ (Order.unknown 23).inForm = true := by decide +kernel
theorem witness_TableEntriesReadBack :
    commissionOf (commissionOctets tables.commission) = some tables.commission ∧
    spurCfgOf (spurCfgOctets (tables.spurs.get 2)) = some (tables.spurs.get 2) ∧ chanCfgOf (chanCfgOctets oxygen) = some oxygen ∧
    blockCfgOf (blockCfgOctets (tables.blocks.get 2)) = some (tables.blocks.get 2) ∧
    refugeCfgOf (refugeCfgOctets (tables.refuges.get 0)) = some (tables.refuges.get 0) ∧
    triggerCfgOf (triggerCfgOctets { cond := some (.levelAtLeast 4), actions := [.setTrip, .sendNote 3] }) =
      some { cond := some (.levelAtLeast 4), actions := [.setTrip, .sendNote 3] } ∧
    (loadLevelMap 0 (octAt [15] 0) site).toOption.isSome = true ∧ (loadLevelMap 4 (octAt [0] 0) site).toOption.isSome = true := by
  decide +kernel

/-! ### Air channels -/

theorem witness_ConversionRoundsAndFilterConverges : bandOf (site.air.get 0).status = some 0 ∧ (site.air.get 0).f = some 1600 ∧
    Channel.start true 16 = { Channel.start true 16 with f := none } ∧ (goodReading methane 1230 (site.air.get 0)).f = some 1644 ∧
    (goodReading methane 1230 (site.air.get 0)).v = some 103 ∧ methane.decimation ≤ 0 + 1 ∧
    0 + 1 < ({ methane with decimation := 2 } : ChanCfg).decimation ∧ kindRising methane.kind = true ∧ kindRising oxygen.kind = false ∧
    (goodReading methane 1230 (site.air.get 0)).overSet = false ∧ (goodReading monoxide 3900 (site.air.get 0)).overSet = true ∧
    (2 : Int) ^ 2 ≤ 2 * 176 ∧ (0 : Int) < 1 ∧ 2 * (1 : Int) < 2 ^ 2 ∧ 1600 ≤ 16 * 111 ∧ 16 * 80 ≤ 1772 := by decide +kernel
theorem witness_StatusesRiseConfirmedAndFallAtOnce :
    bandOf (site.air.get 0).status = some 0 ∧ (site.air.get 0).n = 0 ∧ (∀ r ∈ [(1, 103), (2, 130), (1, 111)], 0 < r.1 ∧ r.1 ≤ 3) ∧
    ([(1, 103), (2, 130), (1, 111)].map (·.1)).min? = some 1 ∧ [(1, 103), (2, 130), (1, 111)].length = methane.confirm ∧
    [(1, 103), (2, 130)].length < methane.confirm ∧ 0 < 1 ∧ bandOf .noData = none ∧ bandOf .trip = some 3 := by decide +kernel
theorem witness_ReadingUpdatesItsEntryAlone : site.spurUpAs .gas 0 = true ∧ site.chanFor 0 0 = some 0 ∧ site.chanFor 0 1 = none ∧
    4095 ≤ 4095 ∧ 4095 < 4096 ∧ (site.air.get 0).status ≠ .fault ∧
    ((site.setChan 0 { site.air.get 0 with status := .fault }).air.get 0).status = .fault ∧
    (site.working.channels.get 0).tripOn = true ∧ (site.working.channels.get 0).faultTrips = true ∧
    site.action.queue = [] ∧ (∀ x, (site.working.triggers.get x).cond = none) ∧ (site.air.get 0).lastReported ≠ .fault ∧
    shows (.reading 0 0 4096 0) site (fun t => (t.air.get 0).status == .fault) = true ∧
    shows (.reading 0 0 410 1) site (fun t => (t.air.get 0).status == .warmup) = true ∧
    shows (.reading 0 0 4095 0) (site.setChan 0 { site.air.get 0 with status := .noData }) (fun t =>
      (t.air.get 0).status == .trip) = true := by decide +kernel
/-- Channel 1 at its stale limit of 5 s, and one cycle before. -/
def stale (n : Nat) : State := site.setChan 0 { site.air.get 0 with stale := n }
theorem witness_StaleExpiryEntersFault : (stale 1250).powered = true ∧ NoNotices (stale 1250) ∧ (stale 1250).staleDue 0 = true ∧
    ((stale 1250).air.get 0).status ≠ .fault ∧ ((stale 1250).working.channels.get 0).faultTrips = true ∧
    (stale 1249).staleDue 0 = false ∧ (stale 1250).action.queue = [] ∧ (∀ x, ((stale 1250).working.triggers.get x).cond = none) ∧
    ((stale 1250).air.get 0).lastReported ≠ .fault ∧ (stale 1250).held (.channel 0) = none ∧
    ({ tables.channels.get 0 with faultTrips := false } : ChanCfg).faultTrips = false := by decide +kernel

theorem witness_LineCycleSendsAndCounts : site.powered = true ∧ NoNotices site ∧
    (site.setMgmt { site.mgmt with accessOpen := true, period := 1 }).mgmt.accessOpen = true ∧
    ¬ eighthMiss (site.port .outbye) ∧ eighthMiss { upPort with miss := 7 } ∧ ¬ eighthMiss { upPort with miss := 7, segSeen := true } ∧
    silent500 { site.spurs.get 1 with silence := 499 } ∧ ¬ silent500 { site.spurs.get 1 with silence := 498 } ∧
    site.spurUpAs .voice 1 = true ∧ bridgedTo site.slots.bridge 1 = none ∧ bridgedTo [(1, 2)] 1 = some 2 ∧
    site.spurUpAs .voice 0 = false ∧ (talking.slots.map.get (dropIx .outbye 0)).out = none ∧
    (talking.slots.map.get (dropIx .outbye 0)).drop = some 0 ∧ (talking.call 0).origin = some 1 ∧
    (∀ e, (site.slots.map.get e).drop = none) ∧ (atCycleEnd talking).slots = talking.slots := by decide +kernel

/-! ### Levels, the latch, contacts and outputs -/

/-- A contact input whose samples have differed `n` times. -/
def touched (n : Nat) : State :=
  site.setLevel { site.level with contacts := site.level.contacts.put 0 { active := false, run := n } }
theorem witness_ContactChangeActsByRole : (touched 3).powered = true ∧ NoNotices (touched 3) ∧ (touched 3).roleInForce 0 = .trip ∧
    ((touched 3).level.contacts.get 0).run = 3 ∧ ((touched 3).level.contacts.get 0).active = false ∧
    ((touched 2).level.contacts.get 0).run ≠ 3 ∧ State.reset.roleInForce 0 = .none ∧ (touched 3).action.queue = [] ∧
    (∀ x, ((touched 3).working.triggers.get x).cond = none) ∧ (touched 3).roleInForce 1 ≠ .trip := by decide +kernel
/-- A tripped part whose conditions for a reset are met. -/
def prepared : State :=
  { site with
    level := { site.level with latch := true, causes := [.power], firstCause := some (.power, 0), output := true }
    mgmt := { site.mgmt with prepare := true } }
theorem prepared_takes : Takes hdr prepared := takes_of (by decide +kernel)
theorem witness_TripResetNeedsItsConditions : Takes hdr prepared ∧ Quiet prepared ∧ prepared.access = true ∧
    prepared.mgmt.prepare = true ∧ prepared.channelsUnmet = false ∧ prepared.contactsUnmet = false ∧
    prepared.mgmt.storeFault = false ∧ prepared.level.latch = true ∧ site.level.latch = false ∧ site.mgmt.prepare = false ∧
    (site.setChan 0 { site.air.get 0 with status := .trip }).channelsUnmet = true ∧
    (site.setLevel { site.level with contacts := site.level.contacts.put 0 { active := true, run := 0 } }).contactsUnmet = true :=
  ⟨prepared_takes, quiet_of (by decide +kernel), by decide +kernel⟩
/-- The part held at TRIP by its hold, block 11 FREE with a truck that waits at the master end. -/
def heldAtTrip : State :=
  (withMaster { site.master 0 with mWait := some 430 }).setLevel
    { site.level with hold := 3, localLevel := 3, effective := 3, mask := 3, drive := Tab.fill 2 true }
theorem heldAtTrip_takes : Takes hdr heldAtTrip := takes_of (by decide +kernel)
theorem witness_OutputSetAndLevelClear : Takes hdr heldAtTrip ∧ Quiet heldAtTrip ∧ heldAtTrip.access = true ∧ identIx 2 2 = some 1 ∧
    forceOf 2 = some .off ∧ identIx 2 0 = none ∧ identIx 2 3 = none ∧ forceOf 3 = none ∧ 3 ≤ heldAtTrip.level.effective.val ∧
    shows (.levelClear hdr) heldAtTrip (fun t => decide (t.level.effective.val < 3) && listTags (t.master 0).list == [430]) = true ∧
    heldAtTrip.isMaster 0 = true ∧ (heldAtTrip.master 0).state = .free ∧ heldAtTrip.isMaster 1 = false ∧ site.level.effective.val < 3 :=
  ⟨heldAtTrip_takes, quiet_of (by decide +kernel), by decide +kernel⟩

/-! ### The roadway line -/

/-- A valid occupied slot 1 cell. -/
def segCell : List Octet := wireCell 1 (some (segPayload true 4 30000 (Tab.fill 16 3) none))
/-- The part with a port LOST after `miss` misses, or about to be UP after `good` good cycles. -/
def portOf (d : Side) (x : LinePort) : State := site.setPort d x
/-- The same with a neighbour message for block 13's far end. -/
def segWithGrant : List Octet := wireCell 1 (some (segPayload true 4 30000 (Tab.fill 16 0) (some (.grant 13 812))))
theorem witness_SegmentCellsAreTaken : site.line.outPort.framed = true ∧ site.line.outPort.up = true ∧ site.line.inPort.framed = true ∧
    site.line.inPort.up = true ∧ (found (site.port .outbye)).expected (1 : Fin 32).val = 1 ∧
    (found { upPort with shift := 9 }).expected (24 : Fin 32).val = 1 ∧ (found upPort).framed = true ∧
    (found { upPort with shift := 9, errRun := 32 }).expected (1 : Fin 32).val = 1 ∧ (found { upPort with errRun := 32 }).framed = false ∧
    (portOf .outbye { upPort with framed := false }).line.outPort.framed = false ∧ cellGood segCell = true ∧ cellSlot segCell = 1 ∧
    cellOccupied segCell = true ∧ segFlag (cellPayload segCell) = true ∧ segMessage (cellPayload segCell) = none ∧
    segMessage (cellPayload segWithGrant) = some (.grant 13 812) ∧ (NMsg.grant 13 812).port = .outbye ∧
    cellSlot (wireCell 2 none) ≠ 1 ∧ cellGood (List.replicate 36 1) = false ∧ cellOccupied (wireCell 1 none) = false ∧
    ({ upPort with up := false } : LinePort).framed = true := by decide +kernel
theorem witness_TrafficCellFollowsItsMode : (site.slots.map.get (slotIx .outbye 0)).mode = .pass ∧
    (talking.slots.map.get (dropIx .outbye 0)).mode = .dropOnly ∧ (talking.slots.map.get (dropIx .outbye 0)).drop = some 0 ∧
    (talking.slots.map.get (addIx .outbye 0)).add = some 0 ∧ (talking.call 0).origin = some 1 ∧
    cellGood (wireCell 2 (some idleVoice)) = true ∧ cellSlot (wireCell 2 (some idleVoice)) = (0 : Slot).val + 2 ∧
    cellGood (List.replicate 36 1) = false ∧ (found (site.port .inbye)).expected (2 : Fin 32).val = (0 : Slot).val + 2 ∧
    (found { upPort with shift := 31 }).expected (0 : Fin 32).val = (29 : Slot).val + 2 ∧
    (found { upPort with shift := 31, errRun := 32 }).expected (31 : Fin 32).val = (29 : Slot).val + 2 ∧
    (talking.slots.map.get (addIx .outbye 0)).mode = .addOnly := by decide +kernel
theorem witness_ErroredCellsAndWindows : ((portOf .inbye { upPort with errRun := 32 }).port .inbye).errRun = 32 ∧
    ((portOf .inbye { upPort with errRun := 31 }).port .inbye).errRun ≠ 32 ∧ (found upPort).framed = true ∧
    (found { upPort with errRun := 32 }).framed = false ∧ (State.reset.port .outbye).framed = false ∧
    cellGood (wireCell 3 none) = true ∧ cellSlot (wireCell 3 none) ≠ (site.port .inbye).expected (4 : Fin 32).val ∧
    cellGood (List.replicate 36 1) = false ∧ ({ site with line := { site.line with windowDue := true } } : State).line.windowDue = true ∧
    site.line.windowDue = false := by decide +kernel
theorem witness_PortLostAfterEightMisses : eighthMiss ((portOf .outbye { upPort with miss := 7 }).port .outbye) ∧
    eighthMiss ((portOf .inbye { upPort with miss := 8 }).port .inbye) ∧ ¬ eighthMiss ((portOf .inbye { upPort with miss := 6 }).port .inbye) ∧
    ¬ eighthMiss ((portOf .inbye { upPort with miss := 7, segSeen := true }).port .inbye) ∧
    Quiet (portOf .inbye { upPort with miss := 7 }) ∧ (portOf .inbye { upPort with miss := 7 }).isMaster 0 = true ∧
    (portOf .outbye { upPort with miss := 7 }).isFar 2 = true ∧ (site.master 0).state ≠ .fault ∧ site.farReadyNow 2 = true :=
  ⟨by decide +kernel, by decide +kernel, by decide +kernel, by decide +kernel, quiet_of (by decide +kernel), by decide +kernel⟩
theorem witness_PortUpTakesTheCompletingCell :
    ((portOf .outbye { upPort with up := false, good := 16, heldCell := cellPayload segCell }).port .outbye).up = false ∧
    ((portOf .outbye { upPort with up := false, good := 16 }).port .outbye).good = 16 ∧
    ((portOf .inbye { upPort with up := false, good := 15 }).port .inbye).good ≠ 16 ∧
    segFlag (cellPayload segCell) = true ∧ (portOf .inbye { upPort with up := false, good := 16 }).action.queue = [] ∧
    (∀ x, ((portOf .inbye { upPort with up := false, good := 16 }).working.triggers.get x).cond = none) := by decide +kernel

/-! ### Calls -/

/-- A state with every record in use but those that `clearing` lists as CLEARED. -/
def crowded (clearing : List RecId) : State :=
  { site with
    calls := { site.calls with
      recs := Tab.build 16 fun r => if r ∈ clearing then { origin .cleared with cause := some .normal } else origin .held
      clearing := clearing } }
theorem witness_OffhookTakesARecord : site.spurUpAs .voice 1 = true ∧ site.calls.hooks.get 1 = false ∧ site.ringingDestination 1 = none ∧
    site.ringingLocal 1 = none ∧ site.recToTake = some 0 ∧ (crowded [7, 3]).recToTake = some 7 ∧ (crowded []).recToTake = none ∧
    (crowded []).ringingDestination 1 = none ∧ (site.setHook 1 true).calls.hooks.get 1 = true := by decide +kernel
theorem witness_OffhookAnswersTheCallThatRings : (withCall ringing).spurUpAs .voice 1 = true ∧
    (withCall ringing).calls.hooks.get 1 = false ∧ (withCall ringing).ringingDestination 1 = some 0 ∧
    (withCall localRing).ringingDestination 1 = none ∧ (withCall localRing).ringingLocal 1 = some 0 ∧
    ((withCall localRing).call 0).origin = some 2 ∧ ((withCall ringing).call 0).slot = some 0 := by decide +kernel
theorem witness_OnhookClearsTheHandsetsCalls : (talking.setHook 1 true).calls.hooks.get 1 = true ∧
    (talking.setHook 1 true).spurUpAs .voice 1 = true ∧ endsWith 1 (talking.call 0) = true ∧ endsWith 1 (talking.call 1) = false ∧
    (∀ q, endsWith 1 (talking.call q) = true ↔ q = 0) ∧ (∀ r, endsWith 2 (talking.call r) = false) ∧
    (talking.call 0).live = true ∧ talking.calls.hooks.get 1 = false := by decide +kernel
theorem witness_DigitsBuildTheNumber : site.spurUpAs .voice 1 = true ∧ site.collectingAt 1 = none ∧
    (withCall (collecting [1, 2, 3] 0)).collectingAt 1 = some 0 ∧ ((withCall (collecting [1, 2, 3] 0)).call 0).role = some .origin ∧
    dialOutcome ([0, 7] ++ [0]) = .wait ∧ dialOutcome ([2, 4] ++ [0]) = .bad ∧ dialOutcome ([9] ++ [9]) = .emergency ∧
    dialOutcome ([2, 3, 9] ++ [8]) = .station 239 8 ∧ dialOutcome ([0, 7, 0] ++ [3]) = .station 70 3 ∧ identIx 8 3 = some 2 ∧
    (site.working.spurs.get 2).type = .voice ∧ (site.working.spurs.get 0).type ≠ .voice ∧ 3 ≤ site.level.mask ∧
    site.spurUpAs .voice 2 = true ∧ site.ringBusy 0 2 = false ∧ (site.setHook 2 true).ringBusy 0 2 = true ∧
    (site.setSpur 2 { site.spurs.get 2 with state := .down }).spurUpAs .voice 2 = false ∧
    (site.setLevel { site.level with mask := 2 }).level.mask < 3 := by decide +kernel
theorem witness_NumbersCompleteByTime : ((withCall (collecting [0] 500)).call 0).digits = [0] ∧ 500 ≤ (collecting [0] 500).timer.getD 0 ∧
    (collecting [0] 499).timer.getD 0 < 500 ∧ (collecting [0] 500).role = some .origin ∧
    ({ collecting [] 1250 with refuge := true } : CallRec).refuge = true ∧ 1250 ≤ (collecting [] 1250).timer.getD 0 ∧
    (collecting [] 1249).timer.getD 0 < 1250 := by decide +kernel
theorem witness_TimeoutsClearTheRecord : ((withCall (collecting [1] 2500)).call 0).state = .collecting ∧
    (collecting [1] 2500).digits ≠ [0] ∧ (collecting [1] 2500).refuge = false ∧ 2500 ≤ (collecting [1] 2500).timer.getD 0 ∧
    ((withCall { origin .requested with timer := some 1250 }).call 0).state = .requested ∧
    ((withCall { origin .held with timer := some 29999 }).call 0).timer.getD 0 < 30000 ∧
    (talking.slots.map.get (dropIx .outbye 0)).drop = some 0 ∧ (talking.call 0).state = .connected ∧
    ((talking.setSlot (dropIx .outbye 0) { drop := some 0, add := none, continuity := 125, out := none }).slots.map.get
      (dropIx .outbye 0)).continuity = 125 := by decide +kernel
theorem waiting_takes : Takes hdr (withCall (origin .requested)) := takes_of (by decide +kernel)
theorem witness_AssignOriginAlerts : Takes hdr (withCall (origin .requested)) ∧
    (withCall (origin .requested)).matchCall 1 9 = some 0 ∧ slotOf 2 = some 0 ∧ slotOf 31 = some 29 ∧ farOfCode 2 = some .outbye ∧
    (withCall (origin .requested)).pairFree .outbye 0 = true ∧ (installPair 1 .outbye 0 (withCall (origin .requested))).pairFree .outbye 0 = false ∧
    ((withCall (origin .held)).call 0).state ≠ .requested ∧ (withCall (origin .requested)).matchCall 1 8 = none ∧
    (withCall (origin .requested)).matchCall 17 9 = none ∧ slotOf 1 = none ∧ slotOf 32 = none ∧ farOfCode 0 = none :=
  ⟨waiting_takes, by decide +kernel⟩
theorem witness_AssignDestinationRings : Takes hdr site ∧ identIx 8 2 = some 1 ∧ slotOf 2 = some 0 ∧ farOfCode 1 = some .inbye ∧
    (site.working.spurs.get 1).type = .voice ∧ site.spurUp 1 = true ∧ 15 ≤ site.level.mask ∧ site.handsetBusy 1 = false ∧
    site.recToTake = some 0 ∧ site.pairFree .inbye 0 = true ∧ (site.setHook 1 true).handsetBusy 1 = true ∧
    (crowded []).recToTake = none ∧ identIx 8 9 = none ∧
    (talking.setCall 0 { talking.call 0 with origin := some 2 }).pairFree .outbye 0 = false :=
  ⟨site_takes, by decide +kernel⟩
theorem witness_ConnectReleaseRefuse : Takes hdr (withCall (origin .requested)) ∧
    (withCall (origin .alerting)).matchCall 1 9 = some 0 ∧ (origin .alerting).role = some .origin ∧ (origin .held).inUse = true ∧
    (withCall (origin .cleared)).matchCall 1 9 = some 0 ∧ site.matchCall 1 9 = none ∧ (origin .connected).inUse = true :=
  ⟨waiting_takes, by decide +kernel⟩

/-! ### Heading blocks and trucks -/

theorem withMaster_quiet : Quiet (withMaster heldMaster) := quiet_of (by decide +kernel)
theorem witness_ClaimsAreDecidedByTheTable : Quiet (withMaster heldMaster) ∧ 4095 ≠ 0 ∧ 4095 ≤ 4095 ∧ site.spurUpAs .truck 4 = true ∧
    site.blockOfSpur 4 = some 0 ∧ (site.working.blocks.get 0).role = .master ∧ site.line.inPort.up = true ∧ site.masterOf 11 = some 0 ∧
    (site.master 0).state = .free ∧ (site.master 0).knows 305 = false ∧ site.level.effective.val < 3 ∧
    ((withMaster heldMaster).master 0).knows 812 = true ∧ ((withMaster heldMaster).master 0).knows 100 = false ∧
    ((withMaster { heldMaster with fWait := none, mWait := none }).master 0).opposed false = false ∧
    (withMaster heldMaster).line.inPort.queue.length ≤ 6 := ⟨withMaster_quiet, by decide +kernel⟩
theorem witness_ExitsLeaveTheList : Quiet (withMaster heldMaster) ∧ site.spurUpAs .truck 4 = true ∧ site.blockOfSpur 4 = some 0 ∧
    site.masterOf 11 = some 0 ∧ 305 ∈ listTags heldMaster.list ∧ ({ heldMaster with mWait := none, fWait := none } : Master).mWait = none ∧
    305 ∈ listTags ({ site.master 0 with state := .fault, faults := listed [305] } : Master).faults ∧
    firstEnd heldMaster = .far ∧ heldMaster.waitAt (firstEnd heldMaster) = some 812 ∧ heldMaster.waitAt (secondEnd heldMaster) = some 430 ∧
    305 ∈ ({ site.master 0 with memory := [305] } : Master).memory ∧ 9 ∉ (site.master 0).memory ∧ 9 ∉ listTags (site.master 0).list :=
  ⟨withMaster_quiet, by decide +kernel⟩
/-- The far end with a claim in hand. -/
def claiming (st : Standing) : State := site.setFar 2 { site.farEnd 2 with claim := some (812, st) }
theorem witness_FarEndsAskAndMirror : Quiet site ∧ site.spurUpAs .truck 5 = true ∧ site.blockOfSpur 5 = some 2 ∧
    (site.working.blocks.get 2).role = .far ∧ site.line.outPort.up = true ∧ site.farOf 13 = some 2 ∧
    ((claiming .asked).farEnd 2).claim = some (812, .asked) ∧ site.line.outPort.queue.length < 8 ∧ blockStateOf 5 = some .fault ∧
    blockStateOf 6 = none ∧ sideOf 2 = some (some .outbye) ∧ 0 ∉ [305, 812, 0, 0].take 2 ∧ 0 ∈ [305, 812, 0, 0].take 3 ∧
    812 ∈ [305, 812, 0, 0].take 2 ∧ 812 ∉ [305, 812, 0, 0].take 1 ∧ tagOpt 812 = some 812 ∧ site.farOf 11 = none :=
  ⟨site_quiet, by decide +kernel⟩
theorem witness_FarReadyTurningClearFaults : Quiet (withMaster heldMaster) ∧ (withMaster heldMaster).line.inPort.up = true ∧
    (withMaster heldMaster).masterOf 11 = some 0 ∧ heldMaster.farReady = true ∧ heldMaster.state ≠ .fault :=
  ⟨withMaster_quiet, by decide +kernel⟩
theorem witness_TurnsAndOverdueTrucks :
    ({ site with blocks := { site.blocks with period := 100 } } : State).blocks.turnOpen = true ∧ (2 : BlockIx).val * 50 = 100 ∧
    site.isFar 2 = true ∧ site.isMaster 0 = true ∧ site.blockOn 1 = false ∧ ((claiming .asked).farEnd 2).mirror.fWait ≠ some 812 ∧
    site.blocks.period = (0 : BlockIx).val * 50 ∧ site.blocks.period ≠ (1 : BlockIx).val * 50 ∧
    (∃ x ∈ [({ tag := 305, cycle := 0, age := 2500, overdue := false } : Truck)],
      x.tag = 305 ∧ (site.working.blocks.get 0).transit * 250 ≤ x.age ∧ x.overdue = false) := by decide +kernel
theorem witness_TruckStatusSetsTheAlarm : Takes hdr site ∧ Quiet site ∧ site.access = true ∧ site.spurUpAs .truck 4 = true ∧
    truckReportOf 3 = some .emergency ∧ truckReportOf 0 = some .loaded ∧ truckReportOf 4 = none := ⟨site_takes, site_quiet, by decide +kernel⟩
theorem witness_BlocksOpenAndClose : Takes hdr site ∧ Quiet site ∧ site.access = true ∧ site.masterOf 11 = some 0 ∧ site.masterOf 13 = none ∧
    (∃ p, (site.working.blocks.get 0).spur = some p ∧ site.spurUpAs .truck p = true) ∧ site.line.inPort.up = true ∧
    (site.master 0).farReady = true ∧ (site.master 0).mWait = none ∧ (Master.start.farReady = false) ∧
    ({ heldMaster with state := .closed, list := [] } : Master).mWait = some 430 ∧
    ({ heldMaster with state := .fault, list := [], faults := listed [305] } : Master).faults ≠ [] ∧
    ({ heldMaster with state := .closing } : Master).state = .closing :=
  ⟨site_takes, site_quiet, by decide +kernel⟩

/-! ### Refuges -/

/-- A chamber with a roll. -/
def chamber (muster : List Nat) (overflow : Nat) : State :=
  site.setRefuge 0 { site.refuges.get 0 with muster := muster, overflow := overflow, state := if muster = [] then .standby else .occupied }
theorem witness_RollsAreKept : Quiet (chamber [2210] 0) ∧ site.spurUpAs .refuge 6 = true ∧ site.refugeOfSpur 6 = some 0 ∧
    2210 ∈ ((chamber [2210] 0).refuges.get 0).muster ∧ 7 ∉ ((chamber [2210] 0).refuges.get 0).muster ∧
    ((chamber (List.range 31) 0).refuges.get 0).muster.length < 32 ∧ 32 ≤ ((chamber (List.range 32) 0).refuges.get 0).muster.length ∧
    ((chamber (List.range 32) 254).refuges.get 0).overflow < 255 ∧ 255 ≤ ((chamber (List.range 32) 255).refuges.get 0).overflow ∧
    0 < ((chamber (List.range 32) 1).refuges.get 0).overflow ∧ 0 < ((chamber [2210] 0).refuges.get 0).occupancy ∧
    shows (.checkout 6 2210) (chamber [2210] 0) (fun t => (t.refuges.get 0).occupancy == 0) = true ∧
    PanelAlone 6 0 site ∧ PanelAlone 6 0 (chamber [2210] 0) ∧
    shows (.checkin 6 7) (site.setRefuge 0 { site.refuges.get 0 with distress := true }) (fun t =>
      site.level.effective.val < 4 && t.level.effective.val == 4 && (site.refuges.get 0).prepared == false) = true ∧
    shows (.checkout 6 2210) ((chamber [2210] 0).setRefuge 0 { (chamber [2210] 0).refuges.get 0 with prepared := true }) (fun t =>
      t.level.effective.val < 4 && (t.spurs.get 6).queue == [.refugeStanddown]) = true :=
  ⟨quiet_of (by decide +kernel), by decide +kernel⟩
theorem witness_DoorAndDistress : Quiet site ∧ site.spurUpAs .refuge 6 = true ∧ site.refugeOfSpur 6 = some 0 ∧
    (site.refuges.get 0).door = ((1 : Nat) == 0) ∧ (site.refuges.get 0).door ≠ ((0 : Nat) == 0) ∧ (site.refuges.get 0).occupancy = 0 ∧
    0 < ((chamber [2210] 0).refuges.get 0).occupancy ∧ PanelAlone 6 0 site ∧
    (site.refuges.get 0).distress = false ∧ (site.refuges.get 0).prepared = false := ⟨site_quiet, by decide +kernel⟩

/-! ### The Action Unit, spurs and the management channel -/

/-- List A of two actions, the second of which fails at this node, on a contact input of role TRIGGER ONLY that is `active`. -/
def listA : TriggerCfg := { cond := some (.contactActive 1), actions := [.sendNote 41, .closeBlock 99] }
def triggered (active : Bool) (run : Nat) (last : Bool) : State :=
  { site with
    working := { tables with
      commission := { tables.commission with roles := #v[.trip, .triggerOnly] }, triggers := tables.triggers.put 0 listA }
    level := { site.level with contacts := site.level.contacts.put 1 { active := active, run := run } }
    action := { site.action with lists := #v[if last then .fired else .armed, .empty], last := #v[last, false] } }
theorem witness_ActionTimersEnd : (∀ d, QueueCond.levelAtMost 1 ≠ .delay d) ∧ site.action.stopTrucks = 0 ∧ site.blocks.stopAll = site.atTrip ∧
    ({ site with blocks := { site.blocks with stopAll := true } } : State).blocks.stopAll ≠ site.atTrip ∧ site.commissioned = true ∧
    ({ site with action := { site.action with queue := [(.sendNote 1, .delay 2)], headDelay := 500 } } : State).action.queue =
      (.sendNote 1, .delay 2) :: [] ∧ 2 * 250 ≤ 500 ∧ 499 < 2 * 250 ∧ site.action.queue = [] ∧
    (runAction (.closeBlock 99) site).2 = false ∧ site.masterOf 11 = some 0 ∧ site.level.latch = false ∧
    ((withCall (origin .connected)).call 0).inUse = true ∧ 2 < ((withCall (origin .connected)).call 0).priority.getD 0 ∧
    site.refugeOn 0 = true ∧ site.refugeOn 1 = false ∧
    (runAction (.refugePrepare 0) site).1.level.effective = site.level.effective ∧
    (site.refuges.get 0).state = site.refugeStateOf 0 ∧ (site.working.refuges.get 0).spur = some 6 ∧ site.spurUpAs .refuge 6 = true ∧
    PanelAlone 6 0 site :=
  ⟨nofun, by decide +kernel⟩
theorem witness_ArmedActionsAndListsRun : Takes hdr site ∧ site.access = true ∧ site.commissioned = true ∧
    actionOf 9 1 0 = some (.sendNote 1) ∧ actionOf 10 0 0 = none ∧ queueCondOf 2 0 1 0 = some (.delay 1) ∧
    queueCondOf 4 3 0 0 = some (.levelAtMost 3) ∧ queueCondOf 4 4 0 0 = none ∧ site.queueTrue (.levelAtMost 3) = true ∧
    site.queueTrue (.blockFree 12) = false ∧ site.action.queue = [] ∧
    8 ≤ (List.replicate 8 (Machine.Action.stopTrucks, QueueCond.delay 1)).length := ⟨site_takes, by decide +kernel⟩
/-- The lists: one that fires and fails at its second action, one that falls, one that stands, and the contact change that fires one. -/
theorem witness_ArmedActionsAndListsRun_lists :
    (triggered true 0 false).triggerTrue (.contactActive 1) = true ∧ (triggered true 0 false).action.last.get 0 = false ∧
    (triggered false 0 true).triggerTrue (.contactActive 1) = false ∧ (triggered false 0 true).action.last.get 0 = true ∧
    listA.actions = [.sendNote 41] ++ .closeBlock 99 :: [] ∧ (runsTo [.sendNote 41] (triggered true 0 false)).isSome = true ∧
    (runAction (.closeBlock 99) (triggered true 0 false)).2 = false ∧
    (runsTo [.sendNote 41, .stopTrucks] (triggered true 0 false)).isSome = true ∧
    (triggered false 3 false).working.commission.roles.get 1 = .triggerOnly ∧ ((triggered false 3 false).level.contacts.get 1).run = 3 ∧
    (triggered false 3 false).level.localLevel = (triggered false 3 false).localOf ∧
    ((triggered false 3 false).working.triggers.get 0).cond = some (.contactActive 1) ∧
    ((triggered false 3 false).working.triggers.get 1).cond = none ∧
    shows (.contactChange 1) (triggered false 3 false) (fun t => t.action.notes == [41] && t.action.lists.get 0 == .empty) = true := by
  decide +kernel
theorem witness_FramesCarryTheirMessages : (site.spurs.get 3).state = .off ∧ (site.spurs.get 1).state ≠ .off ∧
    frameGood (List.replicate 48 1) = false ∧ frameGood (wireFrame false idleVoice []) = true ∧
    frameMsg (wireFrame false idleVoice []) = .nothing ∧ frameMsg (wireFrame false idleVoice [12]) = .unreadable ∧
    idleVoice.length = 32 ∧ (HeadMsg.tag 1201 1).fitsOctets = true ∧ (HeadMsg.tag 1201 1).isHello = false ∧
    (HeadMsg.tag 1201 1).fits (site.spurType 1) = false := by decide +kernel
theorem witness_HelloBringsASpurUp : (site.spurs.get 3).state = .off ∧ (site.spurs.get 0).state = .up ∧ site.spurType 0 = .gas ∧
    site.chanUsed 0 = true ∧ (site.working.channels.get 0).spur = some 0 ∧ headMatches (headTypeOf 1) (site.spurType 0) = true ∧
    headMatches (headTypeOf 2) (site.spurType 0) = false ∧
    ((site.setSpur 1 { site.spurs.get 1 with state := .down }).spurs.get 1).state ≠ .up ∧ site.action.queue = [] ∧
    (∀ x, (site.working.triggers.get x).cond = none) ∧ site.spurType 4 = .truck ∧ headMatches (headTypeOf 3) .truck = true ∧
    site.spurType 6 = .refuge ∧ headMatches (headTypeOf 4) .refuge = true ∧ site.refugeOfSpur 6 = some 0 ∧
    (site.spurs.get 4).queue = [] := by decide +kernel
/-- A spur silent for `n` cycles. -/
def silent (p : SpurId) (n : Nat) (st : SpurState) : State := site.setSpur p { site.spurs.get p with silence := n, state := st }
theorem witness_SilenceTakesASpurDown : Quiet (silent 4 500 .up) ∧ silent500 ((silent 4 500 .up).spurs.get 4) ∧
    silent500 ((silent 4 499 .up).spurs.get 4) ∧ ¬ silent500 ((silent 4 498 .up).spurs.get 4) ∧
    silent500 ((silent 1 499 .starting).spurs.get 1) ∧ ((silent 1 500 .mismatch).spurs.get 1).state = .mismatch ∧
    (silent 4 500 .up).spurType 4 = .truck ∧ (silent 4 500 .up).isMaster 0 = true ∧
    ((silent 4 500 .up).working.blocks.get 0).spur = some 4 ∧ (silent 6 500 .up).refugeOfSpur 6 = some 0 ∧
    (talking.call 0).inUse = true ∧ (talking.call 0).origin = some 1 := ⟨quiet_of (by decide +kernel), by decide +kernel⟩
theorem witness_ManagementCellsCarryOrders : site.line.outPort.framed = true ∧ site.line.outPort.up = true ∧ site.line.inPort.up = true ∧
    site.commissioned = true ∧ site.working.commission.station = 70 ∧ site.line.position = some 5 ∧
    (Order.unlock 0x1234).inForm = true ∧ (Order.unlock 0x1234).code < 64 ∧ (Order.unlock 0x1234).body.length ≤ 28 ∧
    cellGood (orderCell 1 71 9 .enquire) = true ∧ cellSlot (orderCell 1 71 9 .enquire) = 0 ∧
    (mgmtHeader (cellPayload (orderCell 1 71 9 .enquire))).malformed = false ∧
    site.matchesCell (mgmtHeader (cellPayload (orderCell 1 71 9 .enquire))) = false ∧
    (mgmtHeader (cellPayload (orderCell 0 70 9 .enquire))).malformed = true ∧
    (mgmtHeader (mgmtPayload 1 4 70 1 9 (List.replicate 28 0))).part = 1 ∧
    site.matchesCell (mgmtHeader (mgmtPayload 1 4 70 1 9 (List.replicate 28 0))) = true ∧ site.mgmt.asm = none ∧
    (found (site.port .outbye)).expected (0 : Fin 32).val = 0 ∧ (found upPort).framed = true ∧
    (found { upPort with shift := 5 }).expected (27 : Fin 32).val = 0 ∧ (found { upPort with errRun := 32, shift := 5 }).expected 0 = 0 ∧
    (found { upPort with errRun := 32 }).framed = false ∧ (mgmtHeader (cellPayload (orderCell 1 70 9 .enquire))).part = 0 ∧
    site.matchesCell (mgmtHeader (cellPayload (orderCell 1 70 9 .enquire))) = true ∧
    cellGood (List.replicate 36 1) = false ∧ cellOccupied (wireCell 0 none) = false := by decide +kernel
/-- A partial TABLE READ of `cells` cells, and the LAST cell that completes it. -/
def assembling (cells : Nat) : State := setAsm (some { mode := 1, kind := 3, ref := 9, cells := cells, body := [4, 1] }) site
def lastCell (ref : Octet) : List Octet := wireCell 0 (some (mgmtPayload 1 3 70 3 ref [2]))
theorem witness_ManagementCellsCarryOrders_parts : (assembling 1).mgmt.asm = some { mode := 1, kind := 3, ref := 9, cells := 1, body := [4, 1] } ∧
    cellGood (lastCell 9) = true ∧ cellSlot (lastCell 9) = 0 ∧ cellOccupied (lastCell 9) = true ∧
    (mgmtHeader (cellPayload (lastCell 9))).part = 3 ∧ (mgmtHeader (cellPayload (lastCell 9))).malformed = false ∧
    (assembling 1).matchesCell (mgmtHeader (cellPayload (lastCell 9))) = true ∧ (mgmtHeader (cellPayload (lastCell 9))).ref = 9 ∧
    orderOf 3 ([4, 1] ++ mgmtBody (cellPayload (lastCell 9)) (mgmtHeader (cellPayload (lastCell 9)))) = .tableRead 4 1 2 ∧
    (Order.tableRead 4 1 2).inForm = true ∧ (mgmtHeader (cellPayload (lastCell 8))).ref ≠ 9 ∧
    (mgmtHeader (mgmtPayload 1 3 70 2 9 [1])).part = 2 ∧ 8 ≤ 8 ∧ (assembling 8).mgmt.restart = none ∧ (assembling 8).repliesFull = false := by
  decide +kernel
/-- A part with credit and a made reply. -/
def answering : State := site.setMgmt { site.mgmt with credit := 1, replies := [{ ref := 7, body := List.replicate 29 0 }], spacing := 25 }
theorem witness_CreditFillsTheOutbyeCell : answering.mgmt.toOutbye = none ∧ answering.mgmt.credit ≠ 0 ∧ answering.line.autonomous = false ∧
    answering.sourceAddr = some (1, 70) ∧ answering.mgmt.progress = none ∧ answering.mgmt.restartDue = false ∧
    answering.mgmt.replies = { ref := 7, body := List.replicate 29 0 } :: [] ∧ (site.mark .line).nextSource = some .line ∧
    answering.working.commission.spacing ≤ answering.mgmt.spacing ∧ site.mgmt.spacing < site.working.commission.spacing ∧
    answering.mgmt.credit + 1 < 4 ∧ (site.setMgmt { site.mgmt with spacing := 25 }).working.commission.spacing ≤ 25 ∧
    State.reset.sourceAddr = none ∧ (site.setMgmt { site.mgmt with restart := some true }).mgmt.restartDue = true ∧
    (site.mark .isolation).nextSource = some .isolation ∧ (site.mark (.channel 0)).nextSource = some (.channel 0) ∧
    (site.mark (.block 0)).nextSource = some (.block 0) ∧ (site.mark .action).nextSource = some .action ∧
    ((withCall (origin .cleared)).mark (.call 0)).nextSource = some (.call 0) ∧ ((withCall (origin .cleared)).call 0).state = .cleared ∧
    1 < cellCount ((site.setAction { site.action with queue := List.replicate 8 (.sendNote 1, .delay 9) }).reportBody .action) ∧ cellCount (site.reportBody .line) = 1 := by decide +kernel
theorem witness_ReadingOrdersOnlyReply : Takes hdr site ∧ tableOf 1 = some .commission ∧ tableOf 13 = some .channelState ∧
    tableOf 14 = none ∧ Table.channels.rangeOk 16 1 = true ∧ Table.channels.rangeOk 16 2 = false ∧ Table.slotMap.rangeOk 0 60 = true ∧
    identIx 16 1 = some 0 ∧ site.chanUsed 0 = true ∧ site.chanUsed 1 = false ∧ identIx 16 17 = none ∧
    0 < min 1 (site.working.channels.get 0).window ∧ 15 < min 200 (site.working.channels.get 0).window := ⟨site_takes, by decide +kernel⟩
theorem witness_TableLoadsStopAtTheFirstFailure : Takes hdr site ∧ Quiet site ∧ site.access = true ∧ tableOf 0 = none ∧
    Table.calls.entrySize = none ∧ Table.spurs.entrySize = some 3 ∧ Table.spurs.rangeOk 4 1 = true ∧ Table.spurs.rangeOk 8 2 = false ∧
    [2, 0, 5].length = 1 * 3 ∧ site.mgmt.write = none ∧ identIx 8 4 = some 3 ∧
    spurCfgOf [2, 0, 5] = some ⟨.voice, false, 5⟩ ∧ (applyEntry .spurs 4 [2, 0, 5] (taken 4 site)).toOption.isSome = true ∧
    (applyEntry .spurs 4 [9, 0, 5] (taken 4 site)).toOption.isNone = true ∧
    chanCfgOf (chanCfgOctets methane) = some methane ∧ site.chanUsed 0 = true ∧ site.chanUsed 1 = false ∧ methane.spur.isSome = true ∧
    ({ methane with spur := none } : ChanCfg).spur.isSome = false := ⟨site_takes, site_quiet, by decide +kernel⟩
/-- Entries at the edges of the tests that a load makes: each table's, one that passes and one that fails with each result. -/
theorem witness_TableLoadsStopAtTheFirstFailure_entries :
    entryFailure .commission 1 [239, 15, 0, 0, 250, 255, 5, 0, 4, 0] site = none ∧
    entryFailure .commission 1 [240, 15, 0, 0, 250, 255, 5, 0, 4, 0] site = some .invalid ∧
    entryFailure .levelMap 4 [0] site = none ∧ entryFailure .levelMap 4 [16] site = some .invalid ∧
    entryFailure .spurs 1 [2, 1, 15] site = none ∧ entryFailure .spurs 1 [1, 1, 15] site = some .invalid ∧
    entryFailure .channels 2 (chanCfgOctets { methane with sub := 1 }) site = none ∧
    entryFailure .channels 2 (chanCfgOctets methane) site = some .conflict ∧
    entryFailure .channels 2 (chanCfgOctets { methane with spur := some 1 }) site = some .invalid ∧
    entryFailure .channels 2 (chanCfgOctets { methane with sub := 1, l1 := 500 }) site = some .invalid ∧
    entryFailure .blocks 1 [11, 0, 5, 2, 0, 10] site = none ∧ entryFailure .blocks 2 [12, 0, 5, 2, 0, 10] site = some .conflict ∧
    entryFailure .blocks 1 [11, 0, 0, 2, 0, 10] site = some .invalid ∧
    entryFailure .blocks 1 [11, 0, 5, 2, 0, 10] (withMaster heldMaster) = some .inUse ∧
    entryFailure .refuges 1 [7, 1, 2] site = none ∧ entryFailure .refuges 2 [7, 0, 0] site = some .conflict ∧
    entryFailure .refuges 1 [7, 1, 1] site = some .invalid ∧
    entryFailure .triggers 1 (triggerCfgOctets listA) site = none ∧ entryFailure .triggers 1 (List.replicate 16 7) site = some .invalid := by
  decide +kernel
/-- Two SPURS entries that pass one after the other and a third that fails; a trigger list with a condition. -/
theorem witness_TableLoadsStopAtTheFirstFailure_chain :
    (∃ v, applyEntry .spurs (4 + 0) (([2, 0, 5, 9, 0, 5].drop (0 * 3)).take 3) (taken 4 site) = .ok v ∧
      applyEntry .spurs (4 + 1) (([2, 0, 5, 9, 0, 5].drop (1 * 3)).take 3) (settle v) = .error .invalid) ∧
    [2, 0, 5, 9, 0, 5].length = 2 * 3 ∧ Table.spurs.rangeOk 4 2 = true ∧ tableOf 7 = some .triggers ∧ identIx 2 1 = some 0 ∧
    triggerCfgOf (triggerCfgOctets listA) = some listA ∧ listA.cond ≠ none := by
  refine ⟨⟨_, rfl, ?_⟩, by decide +kernel⟩
  decide +kernel
/-- A part with a store write in flight for `n` cycles. -/
def writing (n : Nat) : State := site.setMgmt { site.mgmt with reserved := 1, write := some { copy := tables, bcast := false, ref := 1, elapsed := n } }
theorem witness_CommitWritesTheStore : Takes hdr site ∧ site.access = true ∧ site.mgmt.write = none ∧ (writing 0).mgmt.write ≠ none ∧
    (writing 1).mgmt.write = some { copy := tables, bcast := false, ref := 1, elapsed := 1 } := ⟨site_takes, by decide +kernel⟩
theorem witness_RestartIsCarriedOut : Takes hdr site ∧ site.access = true ∧ site.mgmt.write = none ∧ site.mgmt.progress = none ∧
    site.mgmt.replies = [] ∧ (site.setMgmt { site.mgmt with restart := some false }).mgmt.restart = some false ∧
    (∀ p, site.calls.hooks.get p = false) ∧ State.reset.level.latch = true ∧
    (site.master 0).shownFields ≠ Master.start.shownFields ∧ State.reset.commissioned = false ∧
    shows .restartCarriedOut (site.setMgmt { site.mgmt with restart := some true }) (fun t =>
      t.isMaster 0 && t.line.inPort.queue == [t.stateMsg 0]) = true := ⟨site_takes, by decide +kernel⟩
/-- A part with an authority code and its access closed. -/
def coded : State := site.setWorking { tables with commission := { tables.commission with code := 0x1234 } }
theorem coded_takes : Takes hdr coded := takes_of (by decide +kernel)
theorem witness_AccessIsJudgedFirst : Takes hdr coded ∧ Order.commit.inForm = true ∧ kindNeedsAccess Order.commit.code = true ∧
    coded.access = false ∧ coded.working.commission.code ≠ 0 ∧ (taken 8 coded).mgmt.attempts ≠ 0 ∧
    (taken 8 (coded.setMgmt { coded.mgmt with attempts := 0 })).mgmt.attempts = 0 ∧ site.working.commission.code = 0 ∧
    (site.setMgmt { site.mgmt with accessOpen := true }).mgmt.period = 0 ∧ 22 < 23 ∧ 1 ≤ 22 ∧ site.reachable hdr = true ∧
    State.reset.reachable hdr = false ∧ (site.setMgmt { site.mgmt with restart := some true }).mgmt.restart ≠ none ∧
    (site.setMgmt { site.mgmt with reserved := 1, replies := List.replicate 3 { ref := 1, body := [] } }).repliesFull = true :=
  ⟨coded_takes, by decide +kernel⟩
theorem witness_PowerOnAndSupplyLoss : site.powered = true ∧ site.mgmt.write = none ∧ ({ site with powered := false } : State).powered = false ∧
    (writing 5).mgmt.write = some { copy := tables, bcast := false, ref := 1, elapsed := 5 } ∧
    Instr.lineCycle true true ≠ .powerOn := by decide +kernel

end Sys2Proof.Tests
end

section
/-! PROOFS. The family of the air channels: a new part's values, a GOOD reading's arithmetic, the status update, what the hand-overs
of a level leave of the latch and of the report marks, and what a changed status does. -/

namespace Sys2Proof.Safety
open Sys2Proof.Machine

/-! ## A new part (R3, R27, R66, R79, R105, R145, R161, R188) -/

/-- The factory tables leave a new part uncommissioned, so that no channel, spur or refuge is in use. -/
theorem reset_chan (c : ChanId) : State.reset.air.get c = Channel.start false 16 := by
  simp [State.reset, State.poweredOn, factoryTables]
theorem reset_spur (p : SpurId) : State.reset.spurs.get p = Spur.start .off := by
  simp [State.reset, State.poweredOn, factoryTables]
theorem reset_refuge (r : PairIx) : State.reset.refuges.get r = Refuge.start false := by
  simp [State.reset, State.poweredOn, factoryTables]
theorem reset_list (x : PairIx) : State.reset.action.lists.get x = .empty := by
  simp [State.reset, State.poweredOn, factoryTables, ActionUnit.start]
theorem reset_port (d : Side) : State.reset.port d = LinePort.start := by cases d <;> rfl
theorem reset_slot (e : SlotIx) : State.reset.slots.map.get e = SlotEntry.pass := Tab.get_fill e _
theorem reset_call (r : RecId) : State.reset.call r = CallRec.idle := Tab.get_fill r _
theorem reset_block (i : BlockIx) : State.reset.blocks.entries.get i = { master := .start, far := .start true } := Tab.get_fill i _

/-- Settles O2: each table's entries by the lemma that says what they start as, and the single fields by evaluation. -/
theorem resetValues : Obligations.ResetValues := by
  refine ⟨rfl, rfl, rfl, ⟨rfl, rfl, rfl, rfl, rfl⟩, ⟨rfl, rfl, rfl, rfl⟩, fun i => Tab.get_fill i _,
    fun o => ⟨Tab.get_fill o _, Tab.get_fill o _⟩, fun c => ?_, fun d => ?_, ⟨rfl, rfl, rfl⟩, fun e => ?_, rfl, reset_call, rfl,
    fun p => Tab.get_fill p _, fun i => ?_, rfl, reset_refuge, reset_list, rfl, rfl, fun p => ?_,
    rfl, rfl, rfl, rfl, rfl, rfl, fun k => Tab.get_fill k _⟩
  · rw [reset_chan]; exact ⟨rfl, rfl, rfl, rfl⟩
  · rw [reset_port]; exact ⟨rfl, rfl, rfl, rfl⟩
  · rw [reset_slot]; rfl
  · rw [State.master, State.farEnd, reset_block]; exact ⟨rfl, rfl, rfl⟩
  · rw [reset_spur]; exact ⟨rfl, rfl⟩

/-! ## Rounding (R7) -/

/-- Rounding halves away from zero does not see the sign. -/
theorem roundDiv_neg (p : Int) {d : Nat} (hd : 0 < d) : roundDiv (-p) d = -roundDiv p d := by
  have zero : (d : Int) / (2 * d) = 0 := Int.ediv_eq_zero_of_lt (by omega) (by omega)
  obtain h | rfl | h := lt_trichotomy p 0
  · rw [roundDiv, roundDiv, if_pos (by omega), if_neg (by omega), neg_neg]
  · simp [roundDiv, zero]
  · rw [roundDiv, roundDiv, if_neg (by omega), if_pos (by omega), neg_neg]
/-- The quotient of a number that is not negative, by bounds without division. -/
theorem roundDiv_bounds (p : Nat) {d : Nat} (hd : 0 < d) :
    0 ≤ roundDiv p d ∧ 2 * (d * roundDiv p d) ≤ 2 * p + d ∧ 2 * p + d < 2 * (d * roundDiv p d) + 2 * d := by
  rw [roundDiv, if_pos (by omega)]
  have pos : (0 : Int) < 2 * d := by omega
  have lower := Int.mul_ediv_self_le (x := 2 * (p : Int) + d) (ne_of_gt pos)
  have upper := Int.lt_mul_ediv_self_add (x := 2 * (p : Int) + d) pos
  rw [Int.mul_assoc] at lower upper
  exact ⟨Int.ediv_nonneg (by omega) (by omega), lower, upper⟩

/-- `q` is `p / d` to the nearest whole number, halves away from zero. -/
def Nearest (p : Int) (d : Nat) (q : Int) : Prop := 2 * |p - d * q| ≤ d ∧ (2 * |p - d * q| = d → |p| < |d * q|)
theorem Nearest.neg {p q : Int} {d : Nat} (h : Nearest p d q) : Nearest (-p) d (-q) := by
  have e : -p - d * -q = -(p - d * q) := by ring
  unfold Nearest
  rwa [e, mul_neg, abs_neg, abs_neg, abs_neg]
theorem nearest_roundDiv (p : Int) {d : Nat} (hd : 0 < d) : Nearest p d (roundDiv p d) := by
  induction p using Int.negInduction with
  | nat p =>
    obtain ⟨_, lower, upper⟩ := roundDiv_bounds p hd
    unfold Nearest
    grind
  | neg ih p => rw [roundDiv_neg p hd]; exact (ih p).neg
/-- The quotient is 0 for what is less than half of `d`. -/
theorem roundDiv_eq_zero_iff (p : Int) {d : Nat} (hd : 0 < d) : roundDiv p d = 0 ↔ 2 * |p| < d := by
  induction p using Int.negInduction with
  | nat p =>
    obtain ⟨nonneg, lower, upper⟩ := roundDiv_bounds p hd
    rw [Nat.abs_cast]
    constructor
    · intro h; rw [h] at upper; omega
    · intro h; by_contra ne; nlinarith [show 1 ≤ roundDiv p d by omega]
  | neg ih p => rw [roundDiv_neg p hd, neg_eq_zero, ih, abs_neg]
/-- A number that is not negative is not passed by its quotient. -/
theorem roundDiv_le (p : Nat) {d : Nat} (hd : 0 < d) : roundDiv p d ≤ p := by
  obtain ⟨_, lower, _⟩ := roundDiv_bounds p hd
  by_contra h
  nlinarith [show (p : Int) + 1 ≤ roundDiv p d by omega]

/-! ## The filter (R8) -/

theorem roundDiv_ne_zero {k : Nat} {d : Int} (h : (2 : Int) ^ k ≤ 2 * |d|) : roundDiv d (2 ^ k) ≠ 0 :=
  fun e => absurd ((roundDiv_eq_zero_iff d (Nat.two_pow_pos k)).mp e) (by push_cast; omega)
theorem filterStep_of_large {k : Nat} {d : Int} (h : (2 : Int) ^ k ≤ 2 * |d|) : filterStep k d = roundDiv d (2 ^ k) :=
  if_neg (roundDiv_ne_zero h)
/-- R8: a step that would round to 0 is forced to 1 toward the value. -/
theorem filterStep_of_small {k : Nat} {d : Int} (h : 2 * |d| < (2 : Int) ^ k) : filterStep k d = d.sign := by
  have : roundDiv d (2 ^ k) = 0 := (roundDiv_eq_zero_iff d (Nat.two_pow_pos k)).mpr (by push_cast; exact h)
  obtain hd | rfl | hd := lt_trichotomy d 0
  · simp [filterStep, this, Int.sign_eq_neg_one_of_neg hd, hd, hd.le]
  · simp [filterStep, this]
  · simp [filterStep, this, Int.sign_eq_one_of_pos hd, hd]
theorem filterStep_neg (k : Nat) (d : Int) : filterStep k (-d) = -filterStep k d := by
  obtain h | h := le_or_gt ((2 : Int) ^ k) (2 * |d|)
  · rw [filterStep_of_large h, filterStep_of_large (by rwa [abs_neg]), roundDiv_neg d (Nat.two_pow_pos k)]
  · rw [filterStep_of_small h, filterStep_of_small (by rwa [abs_neg]), Int.sign_neg]
@[simp] theorem filterStep_zero (k : Nat) : filterStep k 0 = 0 := filterStep_of_small (by simp)
/-- A step toward a greater value is at least 1 and goes no further than the value. -/
theorem filterStep_bounds (k : Nat) {d : Int} (h : 0 < d) : 1 ≤ filterStep k d ∧ filterStep k d ≤ d := by
  obtain hk | hk := le_or_gt ((2 : Int) ^ k) (2 * |d|)
  · lift d to Nat using h.le
    have ne := roundDiv_ne_zero hk
    have nonneg := (roundDiv_bounds d (Nat.two_pow_pos k)).1
    rw [filterStep_of_large hk]
    exact ⟨by omega, roundDiv_le d (Nat.two_pow_pos k)⟩
  · rw [filterStep_of_small hk, Int.sign_eq_one_of_pos h]; omega
/-- F moves by the step: what it leaves is never negative. -/
theorem filterNext_sub (k f e : Nat) : (filterNext k f e : Int) - f = filterStep k (16 * e - f) := by
  unfold filterNext
  obtain h | h | h := lt_trichotomy (16 * (e : Int) - f) 0
  · have step := filterStep_bounds k (neg_pos.mpr h)
    rw [filterStep_neg] at step
    omega
  · simp [h]
  · have step := filterStep_bounds k h
    omega
/-- Below its value F rises and does not pass it. -/
theorem filterNext_rises {k f e : Nat} (h : f < 16 * e) : f < filterNext k f e ∧ filterNext k f e ≤ 16 * e := by
  have move := filterNext_sub k f e
  have step := filterStep_bounds k (d := 16 * e - f) (by omega)
  omega
/-- Above its value F falls and does not pass it. -/
theorem filterNext_falls {k f e : Nat} (h : 16 * e < f) : 16 * e ≤ filterNext k f e ∧ filterNext k f e < f := by
  have move := filterNext_sub k f e
  have step := filterStep_bounds k (d := -(16 * e - f)) (by omega)
  rw [filterStep_neg] at step
  omega
theorem filterNext_stays (k e : Nat) : filterNext k (16 * e) e = 16 * e := by
  have move := filterNext_sub k (16 * e) e
  rw [Nat.cast_mul, Nat.cast_ofNat, sub_self, filterStep_zero] at move
  omega
/-- A steady value is reached: each reading brings F nearer. -/
theorem filterNext_reaches (k e f : Nat) : ∃ n, (fun x => filterNext k x e)^[n] f = 16 * e := by
  induction hd : (16 * (e : Int) - f).natAbs using Nat.strong_induction_on generalizing f with
  | _ dist ih =>
    by_cases eq : f = 16 * e
    · exact ⟨0, eq⟩
    · have nearer : (16 * (e : Int) - filterNext k f e).natAbs < dist := by
        obtain h | h := Nat.lt_or_gt_of_ne eq
        · have := filterNext_rises (k := k) h; omega
        · have := filterNext_falls (k := k) h; omega
      obtain ⟨n, hn⟩ := ih _ nearer _ rfl
      exact ⟨n + 1, hn⟩
theorem valueOf_target (e : Nat) : valueOf (16 * e) = e := by unfold valueOf; omega

/-! ## The stages of a GOOD reading (R9 to R13) -/

section
variable (c : ChanCfg) (v : Nat)

/-- R9: the raw band is the greatest one whose threshold V is at, or NORMAL. -/
theorem rawBand_greatest : rawBand c v ≤ 3 ∧ (rawBand c v = 0 ∨ atThreshold c.kind v (threshold c (rawBand c v)) = true) ∧
    ∀ i, rawBand c v < i → i ≤ 3 → atThreshold c.kind v (threshold c i) = false := by
  unfold rawBand
  split
  next at3 => exact ⟨le_rfl, .inr at3, fun i _ _ => by omega⟩
  next not3 =>
    have above2 (i : Nat) (_ : 2 < i) (_ : i ≤ 3) : atThreshold c.kind v (threshold c i) = false := by
      obtain rfl : i = 3 := by omega
      exact Bool.eq_false_of_not_eq_true not3
    split
    next at2 => exact ⟨by omega, .inr at2, above2⟩
    next not2 =>
      have above1 (i : Nat) (_ : 1 < i) (hi : i ≤ 3) : atThreshold c.kind v (threshold c i) = false := by
        obtain rfl | lo : i = 2 ∨ 2 < i := by omega
        · exact Bool.eq_false_of_not_eq_true not2
        · exact above2 i lo hi
      split
      next at1 => exact ⟨by omega, .inr at1, above1⟩
      next not1 =>
        refine ⟨by omega, .inl rfl, fun i _ hi => ?_⟩
        obtain rfl | lo : i = 1 ∨ 1 < i := by omega
        · exact Bool.eq_false_of_not_eq_true not1
        · exact above1 i lo hi

/-- R10 to R12: a reading's update writes the status, N and m. -/
theorem statusUpdate_frame (o : Bool) (b0 : Nat) (x : Channel) : statusUpdate c o b0 v x =
    { x with
      status := (statusUpdate c o b0 v x).status, n := (statusUpdate c o b0 v x).n, m := (statusUpdate c o b0 v x).m } := by
  unfold statusUpdate
  repeat' split
  all_goals rfl
@[simp] theorem statusUpdate_ring (o : Bool) (b0 : Nat) (x : Channel) : (statusUpdate c o b0 v x).ring = x.ring := by
  rw [statusUpdate_frame]
@[simp] theorem statusUpdate_wpos (o : Bool) (b0 : Nat) (x : Channel) : (statusUpdate c o b0 v x).wpos = x.wpos := by
  rw [statusUpdate_frame]
@[simp] theorem statusUpdate_valid (o : Bool) (b0 : Nat) (x : Channel) : (statusUpdate c o b0 v x).valid = x.valid := by
  rw [statusUpdate_frame]
@[simp] theorem statusUpdate_readings (o : Bool) (b0 : Nat) (x : Channel) : (statusUpdate c o b0 v x).readings = x.readings := by
  rw [statusUpdate_frame]
@[simp] theorem statusUpdate_lastReported (o : Bool) (b0 : Nat) (x : Channel) :
    (statusUpdate c o b0 v x).lastReported = x.lastReported := by rw [statusUpdate_frame]
/-- R10 to R12: it reads the status, N and m alone, and carries along what the earlier stages wrote. -/
theorem statusUpdate_carries (o : Bool) (b0 : Nat) (x : Channel) (stale : Nat) (f w : Option Nat) (ov un : Bool) :
    statusUpdate c o b0 v { x with stale := stale, f := f, v := w, overSet := ov, underSet := un } =
      { statusUpdate c o b0 v x with stale := stale, f := f, v := w, overSet := ov, underSet := un } := by
  unfold statusUpdate
  simp only
  repeat' split
  all_goals rfl
/-- R13: a sample is written when the reading count reaches `d`. -/
theorem historyStep_due {x : Channel} (h : c.decimation ≤ x.readings + 1) : historyStep c v x =
    { x with ring := x.ring.set x.wpos (some v), wpos := (x.wpos + 1) % c.window, valid := min (x.valid + 1) c.window, readings := 0 } :=
  if_pos h
/-- R13: otherwise only the count rises. -/
theorem historyStep_counts {x : Channel} (h : x.readings + 1 < c.decimation) :
    historyStep c v x = { x with readings := x.readings + 1 } := if_neg (by omega)
/-- R13: the history step leaves the fields of the earlier stages alone. -/
theorem historyStep_frame (x : Channel) : historyStep c v x =
    { x with
      ring := (historyStep c v x).ring, wpos := (historyStep c v x).wpos, valid := (historyStep c v x).valid
      readings := (historyStep c v x).readings } := by
  unfold historyStep
  split <;> rfl
@[simp] theorem historyStep_status (x : Channel) : (historyStep c v x).status = x.status := by rw [historyStep_frame]
@[simp] theorem historyStep_f (x : Channel) : (historyStep c v x).f = x.f := by rw [historyStep_frame]
@[simp] theorem historyStep_v (x : Channel) : (historyStep c v x).v = x.v := by rw [historyStep_frame]
@[simp] theorem historyStep_n (x : Channel) : (historyStep c v x).n = x.n := by rw [historyStep_frame]
@[simp] theorem historyStep_m (x : Channel) : (historyStep c v x).m = x.m := by rw [historyStep_frame]
@[simp] theorem historyStep_overSet (x : Channel) : (historyStep c v x).overSet = x.overSet := by rw [historyStep_frame]
@[simp] theorem historyStep_underSet (x : Channel) : (historyStep c v x).underSet = x.underSet := by rw [historyStep_frame]
@[simp] theorem historyStep_lastReported (x : Channel) : (historyStep c v x).lastReported = x.lastReported := by
  rw [historyStep_frame]
@[simp] theorem historyStep_stale (x : Channel) : (historyStep c v x).stale = x.stale := by rw [historyStep_frame]
end

section
variable (c : ChanCfg) (raw : Nat) (x : Channel)

/-- R8: V after a GOOD reading. -/
def readingValue : Nat := valueOf (filterOf c x (clampRange c (convertRaw c raw)))
/-- R9: the band that a GOOD reading gives the update. -/
def readingBand : Nat := if failSafe c (convertRaw c raw) then 3 else rawBand c (readingValue c raw x)
/-- R10 to R12: the entry with the status, N and m that a GOOD reading leaves, and nothing else of it. -/
def readingStatus : Channel := statusUpdate c (failSafe c (convertRaw c raw)) (readingBand c raw x) (readingValue c raw x) x
/-- R7 to R13: a GOOD reading is its stages. -/
theorem goodReading_eq : goodReading c raw x = historyStep c (readingValue c raw x)
    { readingStatus c raw x with
      stale := 0, f := some (filterOf c x (clampRange c (convertRaw c raw))), v := some (readingValue c raw x)
      overSet := overRange c (convertRaw c raw), underSet := underRange (convertRaw c raw) } :=
  congrArg (historyStep c (readingValue c raw x)) (statusUpdate_carries ..)
@[simp] theorem goodReading_stale : (goodReading c raw x).stale = 0 := by simp [goodReading_eq]
@[simp] theorem goodReading_f : (goodReading c raw x).f = some (filterOf c x (clampRange c (convertRaw c raw))) := by
  simp [goodReading_eq]
@[simp] theorem goodReading_v : (goodReading c raw x).v = some (readingValue c raw x) := by simp [goodReading_eq]
@[simp] theorem goodReading_overSet : (goodReading c raw x).overSet = overRange c (convertRaw c raw) := by simp [goodReading_eq]
@[simp] theorem goodReading_underSet : (goodReading c raw x).underSet = underRange (convertRaw c raw) := by simp [goodReading_eq]
@[simp] theorem goodReading_status : (goodReading c raw x).status = (readingStatus c raw x).status := by simp [goodReading_eq]
@[simp] theorem goodReading_n : (goodReading c raw x).n = (readingStatus c raw x).n := by simp [goodReading_eq]
@[simp] theorem goodReading_m : (goodReading c raw x).m = (readingStatus c raw x).m := by simp [goodReading_eq]
@[simp] theorem goodReading_lastReported : (goodReading c raw x).lastReported = x.lastReported := by
  simp [goodReading_eq, readingStatus]
/-- R13: the sample of a reading at which the count reaches `d`. -/
theorem goodReading_due (h : c.decimation ≤ x.readings + 1) :
    (goodReading c raw x).ring = x.ring.set x.wpos (some (readingValue c raw x)) ∧
    (goodReading c raw x).wpos = (x.wpos + 1) % c.window ∧ (goodReading c raw x).valid = min (x.valid + 1) c.window ∧
    (goodReading c raw x).readings = 0 := by
  rw [goodReading_eq, historyStep_due c _ (by simpa [readingStatus] using h)]
  simp [readingStatus]
/-- R13: between samples the history stands. -/
theorem goodReading_counts (h : x.readings + 1 < c.decimation) :
    (goodReading c raw x).ring = x.ring ∧ (goodReading c raw x).wpos = x.wpos ∧ (goodReading c raw x).valid = x.valid ∧
    (goodReading c raw x).readings = x.readings + 1 := by
  rw [goodReading_eq, historyStep_counts c _ (by simpa [readingStatus] using h)]
  simp [readingStatus]
/-- R9: the override's band is 3, and without it the band is the greatest whose threshold V is at. -/
theorem readingBand_spec : readingBand c raw x ≤ 3 ∧ (failSafe c (convertRaw c raw) = true → readingBand c raw x = 3) ∧
    (failSafe c (convertRaw c raw) = false → readingBand c raw x = rawBand c (readingValue c raw x)) := by
  unfold readingBand
  refine ⟨?_, fun h => if_pos h, fun h => if_neg (by simp [h])⟩
  split
  · exact le_rfl
  · exact (rawBand_greatest c _).1
/-- R8, R12: F restarts where it is absent and from a status outside the bands. -/
theorem filterOf_restarts (h : x.f = none ∨ bandOf x.status = none) (e : Nat) : filterOf c x e = 16 * e := by
  unfold filterOf
  split
  next hs hf => simp [hs, hf] at h
  next => rfl
theorem filterOf_present {f s : Nat} (hf : x.f = some f) (hs : bandOf x.status = some s) (e : Nat) :
    filterOf c x e = filterNext c.shift f e := by simp [filterOf, hf, hs]
/-- R7: the clamp, by the sign of the unclamped value. -/
theorem clampRange_eq (e : Int) : clampRange c e = if e < 0 then 0 else min e.toNat (kindMax c.kind) := by
  unfold clampRange
  split
  · rw [Int.toNat_of_nonpos (by omega), Nat.zero_min]
  · rfl
end
/-- Settles O17: rounding by `nearest_roundDiv`, a reading by its stages, and the filter by the bounds of its step. -/
theorem conversionRoundsAndFilterConverges : Obligations.ConversionRoundsAndFilterConverges := by
  constructor
  · intro c raw x
    obtain ⟨near, half⟩ := nearest_roundDiv (((raw : Int) - c.zero) * c.span) (d := 4096) (by omega)
    simp only [← clampRange_eq]
    refine ⟨near, half, by simp [overRange], by simp [underRange], fun h => ?_, fun f s hf hs => ?_, fun f hf => ?_, fun v hv => ?_⟩
    · rw [goodReading_f, filterOf_restarts c x h]
    · rw [goodReading_f, filterOf_present c x hf hs]
    · rw [goodReading_f] at hf
      obtain rfl := Option.some.inj hf
      exact goodReading_v c raw x
    · rw [goodReading_v] at hv
      obtain rfl := Option.some.inj hv
      have safe : (if kindRising c.kind then (goodReading c raw x).overSet else (goodReading c raw x).underSet) =
          failSafe c (convertRaw c raw) := by simp [failSafe]
      obtain ⟨le, band3, band⟩ := readingBand_spec c raw x
      obtain ⟨_, at0, greater⟩ := rawBand_greatest c (readingValue c raw x)
      rw [safe]
      refine ⟨⟨readingBand c raw x, le, band3, fun calm => ?_, ?_⟩, goodReading_due c raw x, goodReading_counts c raw x⟩
      · rw [band calm]; exact ⟨at0, greater⟩
      · exact ⟨goodReading_status c raw x, goodReading_n c raw x, goodReading_m c raw x⟩
  · intro k f e
    have move := filterNext_sub k f e
    refine ⟨fun large => ?_, fun up small => ?_, fun down small => ?_, fun level => ?_, fun below => ?_, fun above => ?_, ?_⟩
    · have near := nearest_roundDiv (16 * (e : Int) - f) (Nat.two_pow_pos k)
      rw [← filterStep_of_large large, ← move] at near
      simpa [Nearest] using near
    · rw [move, filterStep_of_small small, Int.sign_eq_one_of_pos up]
    · rw [move, filterStep_of_small small, Int.sign_eq_neg_one_of_neg down]
    · rw [move, level, filterStep_zero]
    · obtain rfl | lt := below.eq_or_lt
      · simp [filterNext_stays]
      · exact ⟨(filterNext_rises lt).1.le, (filterNext_rises lt).2⟩
    · obtain eq | lt := above.eq_or_lt
      · simp [← eq, filterNext_stays]
      · exact ⟨(filterNext_falls lt).1, (filterNext_falls lt).2.le⟩
    · obtain ⟨n, hn⟩ := filterNext_reaches k e f
      exact ⟨n, hn, valueOf_target e⟩

/-! ## The status update (R10 to R12) -/

section
variable {c : ChanCfg} {x : Channel}

/-- R10: the lowest band of a run that goes on with band `b`: the run starts with it where N is 0. -/
def lowestWith (x : Channel) (b : Nat) : Nat := if x.n = 0 then b else min (x.m.getD b) b
theorem lowestWith_start (h : x.n = 0) (b : Nat) : lowestWith x b = b := if_pos h
theorem lowestWith_run (n low b : Nat) : lowestWith { x with n := n + 1, m := some low } b = min low b := if_neg (by simp)

/-- R10: a reading above the status extends the run, or confirms the lowest band of it. -/
theorem statusUpdate_above {s b0 : Nat} (hs : bandOf x.status = some s) (above : s < b0) (v : Nat) :
    statusUpdate c false b0 v x =
      if c.confirm ≤ x.n + 1 then { x with status := bandStatus (lowestWith x b0), n := 0, m := none }
      else { x with n := x.n + 1, m := some (lowestWith x b0) } := by
  unfold lowestWith
  cases hm : x.m with
  | none => simp [statusUpdate, hs, above, hm]
  | some low => simp [statusUpdate, hs, above, hm]
/-- R11: a reading at or below the status leaves what hysteresis holds, with the run broken. -/
theorem statusUpdate_notAbove {s b0 : Nat} (hs : bandOf x.status = some s) (notAbove : b0 ≤ s) (v : Nat) :
    statusUpdate c false b0 v x = { x with status := bandStatus (heldBand c v s), n := 0, m := none } := by
  simp [statusUpdate, hs, notAbove]
/-- R12: from a status outside the bands the raw band is taken at once. -/
theorem statusUpdate_outside (h : bandOf x.status = none) (o : Bool) (b0 v : Nat) :
    statusUpdate c o b0 v x = { x with status := bandStatus b0, n := 0, m := none } := by
  simp [statusUpdate, h]
/-- R10: the override gives TRIP at once. -/
theorem statusUpdate_override (v : Nat) : statusUpdate c true 3 v x = { x with status := .trip, n := 0, m := none } := by
  cases h : bandOf x.status with
  | none => exact statusUpdate_outside h true 3 v
  | some s => simp [statusUpdate, h]

/-- R11: the held band is the highest one up to `s` whose threshold V is within hysteresis of, or NORMAL. -/
theorem heldBand_highest (c : ChanCfg) (v s : Nat) : heldBand c v s ≤ s ∧
    (heldBand c v s = 0 ∨ withinHyst c.kind c.hyst v (threshold c (heldBand c v s)) = true) ∧
    ∀ i, heldBand c v s < i → i ≤ s → withinHyst c.kind c.hyst v (threshold c i) = false := by
  induction s with
  | zero => exact ⟨le_rfl, .inl rfl, fun i lo hi => absurd lo (by omega)⟩
  | succ s ih =>
    unfold heldBand fallTo
    split
    next held => exact ⟨le_rfl, .inr held, fun i lo hi => absurd lo (by omega)⟩
    next fell =>
      obtain ⟨le, held, above⟩ := ih
      refine ⟨Nat.le_succ_of_le le, held, fun i lo hi => ?_⟩
      obtain rfl | hi := Nat.eq_or_lt_of_le hi
      · exact Bool.eq_false_of_not_eq_true fell
      · exact above i lo (by omega)

/-- R10: a run of readings above the status, after `x.n` of them: the C-th confirms the lowest band seen, and before it the run is
carried on. -/
theorem updates_above {s : Nat} (r : Nat × Nat) (run : List (Nat × Nat)) (hs : bandOf x.status = some s)
    (above : ∀ q ∈ r :: run, s < q.1) :
    let low := (run.map (·.1)).foldl min (lowestWith x r.1)
    (x.n + run.length + 1 = c.confirm → updates c (r :: run) x = { x with status := bandStatus low, n := 0, m := none }) ∧
    (x.n + run.length + 1 < c.confirm → updates c (r :: run) x = { x with n := x.n + run.length + 1, m := some low }) := by
  obtain ⟨hr, hrun⟩ := List.forall_mem_cons.mp above
  induction run generalizing x r with
  | nil =>
    simp only [updates, List.map_nil, List.foldl_cons, List.foldl_nil, List.length_nil, statusUpdate_above hs hr]
    exact ⟨fun h => if_pos (by omega), fun h => if_neg (by omega)⟩
  | cons q run ih =>
    obtain ⟨confirms, carries⟩ := ih (x := { x with n := x.n + 1, m := some (lowestWith x r.1) }) q hs hrun
      (hrun q (by simp)) (fun p hp => hrun p (by simp [hp]))
    have first (h : x.n + 1 < c.confirm) : updates c (r :: q :: run) x =
        updates c (q :: run) { x with n := x.n + 1, m := some (lowestWith x r.1) } := by
      rw [updates, List.foldl_cons, statusUpdate_above hs hr, if_neg (by omega)]
      rfl
    rw [lowestWith_run] at confirms carries
    have length : x.n + (q :: run).length + 1 = x.n + 1 + run.length + 1 := by rw [List.length_cons]; omega
    simp only [length]
    exact ⟨fun h => (first (by omega)).trans (confirms h), fun h => (first (by omega)).trans (carries h)⟩
end

/-- Settles O18, by induction on the run of readings above the status. -/
theorem statusesRiseConfirmedAndFallAtOnce : Obligations.StatusesRiseConfirmedAndFallAtOnce := by
  constructor
  · intro c x s run low hs hn above least
    cases run with
    | nil => simp at least
    | cons r run =>
      obtain ⟨confirms, carries⟩ := updates_above (c := c) r run hs (fun q hq => (above q hq).1)
      rw [lowestWith_start hn] at confirms carries
      obtain rfl : (run.map (·.1)).foldl min r.1 = low := Option.some.inj least
      simp only [hn, Nat.zero_add] at confirms carries
      exact ⟨confirms, carries⟩
  · intro c x b0 v
    refine ⟨fun s hs h => statusUpdate_above hs h v, fun s hs h => ?_, fun h => statusUpdate_outside h false b0 v,
      statusUpdate_override v⟩
    obtain ⟨le, held, above⟩ := heldBand_highest c v s
    exact ⟨heldBand c v s, le, held, above, statusUpdate_notAbove hs h v⟩

/-! ## Marks -/

theorem sourceAt_ix (x : Source) : sourceAt x.ix = x := by
  cases x with
  | isolation => rfl
  | level => rfl
  | refuge r => revert r; decide
  | channel c => revert c; decide
  | block i => revert i; decide
  | truck p => revert p; decide
  | call r => revert r; decide
  | action => rfl
  | spur p => revert p; decide
  | line => rfl
theorem ix_ne {x y : Source} (h : y ≠ x) : y.ix ≠ x.ix := (Function.LeftInverse.injective sourceAt_ix).ne h
@[simp] theorem held_mark_same (s : State) (x : Source) : (s.mark x).held x = markHeld (s.held x) := by simp [State.held]
theorem held_mark_ne (s : State) {x y : Source} (h : y ≠ x) : (s.mark x).held y = s.held y := by
  simp [State.held, Tab.get_put_ne _ _ (ix_ne h)]

/-! ## The latch's part of the state -/

/-- The report sources that the hand-overs of a level and of an action mark. -/
def handedOn : Source → Bool
  | .level | .refuge _ | .block _ | .call _ | .action => true
  | _ => false
/-- The latch with the output and PREPARE, and the marks of the sources that are not `handedOn`. -/
structure LatchPart where
  latch       : Bool
  causes      : List Cause
  firstCause  : Option (Cause × Nat)
  accumulated : List Cause
  output      : Bool
  prepare     : Bool
  held        : Source → Option Nat
/-- The part of what `outsideLevel` blanks that the hand-overs of a level leave alone, so long as no cause is taken. -/
def latchPart (s : State) : LatchPart :=
  { latch := s.level.latch, causes := s.level.causes, firstCause := s.level.firstCause, accumulated := s.level.accumulated
    output := s.level.output, prepare := s.mgmt.prepare, held := fun x => if handedOn x then none else s.held x }

section
variable (s : State)

@[simp] theorem latchPart_setCall (r : RecId) (x : CallRec) : latchPart (s.setCall r x) = latchPart s := rfl
@[simp] theorem latchPart_setCalls (c : Calls) : latchPart (s.setCalls c) = latchPart s := rfl
@[simp] theorem latchPart_setSlot (e : SlotIx) (x : SlotEntry) : latchPart (s.setSlot e x) = latchPart s := rfl
@[simp] theorem latchPart_setSlots (x : SlotSwitch) : latchPart (s.setSlots x) = latchPart s := rfl
@[simp] theorem latchPart_setSpur (p : SpurId) (x : Spur) : latchPart (s.setSpur p x) = latchPart s := rfl
@[simp] theorem latchPart_setMaster (i : BlockIx) (m : Master) : latchPart (s.setMaster i m) = latchPart s := rfl
@[simp] theorem latchPart_setBlocks (b : Blocks) : latchPart (s.setBlocks b) = latchPart s := rfl
@[simp] theorem latchPart_setRefuge (r : PairIx) (x : Refuge) : latchPart (s.setRefuge r x) = latchPart s := rfl
@[simp] theorem latchPart_setLine (l : Line) : latchPart (s.setLine l) = latchPart s := rfl
@[simp] theorem latchPart_setPort (d : Side) (x : LinePort) : latchPart (s.setPort d x) = latchPart s := by cases d <;> rfl
@[simp] theorem latchPart_setAction (a : ActionUnit) : latchPart (s.setAction a) = latchPart s := rfl
@[simp] theorem latchPart_setWorking (t : Tables) : latchPart (s.setWorking t) = latchPart s := rfl
@[simp] theorem latchPart_setChan (c : ChanId) (x : Channel) : latchPart (s.setChan c x) = latchPart s := rfl
@[simp] theorem latchPart_notify (n : Notice) : latchPart (s.notify n) = latchPart s := rfl
theorem latchPart_setLevel (l : LevelUnit)
    (h : l.latch = s.level.latch ∧ l.causes = s.level.causes ∧ l.firstCause = s.level.firstCause ∧
      l.accumulated = s.level.accumulated ∧ l.output = s.level.output) : latchPart (s.setLevel l) = latchPart s := by
  obtain ⟨h1, h2, h3, h4, h5⟩ := h
  simp [latchPart, State.held, h1, h2, h3, h4, h5]
theorem latchPart_mark {x : Source} (h : handedOn x = true) : latchPart (s.mark x) = latchPart s := by
  have held (y : Source) : (if handedOn y then none else (s.mark x).held y) = if handedOn y then none else s.held y := by
    by_cases hy : handedOn y = true
    · rw [if_pos hy, if_pos hy]
    · rw [held_mark_ne s (fun e => hy (by rw [e]; exact h))]
  simp only [latchPart, held]
  rfl
@[simp] theorem latchPart_markLevel : latchPart (s.mark .level) = latchPart s := latchPart_mark s rfl
@[simp] theorem latchPart_markRefuge (r : PairIx) : latchPart (s.mark (.refuge r)) = latchPart s := latchPart_mark s rfl
@[simp] theorem latchPart_markBlock (i : BlockIx) : latchPart (s.mark (.block i)) = latchPart s := latchPart_mark s rfl
@[simp] theorem latchPart_markCall (r : RecId) : latchPart (s.mark (.call r)) = latchPart s := latchPart_mark s rfl
@[simp] theorem latchPart_markAction : latchPart (s.mark .action) = latchPart s := latchPart_mark s rfl
theorem latchPart_markIf (b : Bool) {x : Source} (h : handedOn x = true) : latchPart (s.markIf b x) = latchPart s := by
  cases b
  · rfl
  · exact latchPart_mark s h
/-- The walk over a table keeps what its turns keep. -/
theorem latchPart_forEach (n : Nat) (f : Fin n → State → State) (h : ∀ i s, latchPart (f i s) = latchPart s) :
    latchPart (forEach n f s) = latchPart s := forEach_keeps latchPart n f h s
end

/-! ### Messages and calls -/

section
variable (s : State)

@[simp] theorem latchPart_offer (p : SpurId) (m : OutMsg) : latchPart (offer p m s) = latchPart s := by
  unfold offer; split <;> simp
@[simp] theorem latchPart_tone (p : SpurId) (t : Tone) : latchPart (tone p t s) = latchPart s := latchPart_offer s p _
@[simp] theorem latchPart_toneOpt (p : Option SpurId) (t : Tone) : latchPart (toneOpt p t s) = latchPart s := by
  cases p <;> simp [toneOpt]
@[simp] theorem latchPart_ringOpt (p : Option SpurId) (b : Bool) : latchPart (ringOpt p b s) = latchPart s := by
  cases p <;> simp [ringOpt]
@[simp] theorem latchPart_post (d : Side) (m : NMsg) : latchPart (post d m s) = latchPart s := by
  unfold post; split <;> simp
@[simp] theorem latchPart_enterCall (r : RecId) (st : CallState) (f : CallRec → CallRec) :
    latchPart (enterCall r st f s) = latchPart s := by simp [enterCall]
@[simp] theorem latchPart_dropPair (x : CallRec) : latchPart (dropPair x s) = latchPart s := by
  unfold dropPair; split <;> (try split) <;> simp [removePair]
@[simp] theorem latchPart_dropBridge (x : CallRec) : latchPart (dropBridge x s) = latchPart s := by
  unfold dropBridge; split <;> simp
@[simp] theorem latchPart_clearTones (c : ClearCause) (l : List SpurId) : latchPart (clearTones c l s) = latchPart s :=
  foldl_keeps latchPart _ (fun s p => by split <;> simp) l s
@[simp] theorem latchPart_clearCall (r : RecId) (c : ClearCause) : latchPart (clearCall r c s) = latchPart s := by
  simp only [clearCall]; split
  · split <;> simp
  · rfl
@[simp] theorem latchPart_clearWhere (p : CallRec → Bool) (c : ClearCause) : latchPart (clearWhere p c s) = latchPart s :=
  latchPart_forEach s 16 _ fun r s => by split <;> simp
@[simp] theorem latchPart_ringStep (r : RecId) : latchPart (ringStep r s) = latchPart s := by
  simp only [ringStep]; repeat' split
  all_goals simp
@[simp] theorem latchPart_proceedCall (r : RecId) : latchPart (proceedCall r s) = latchPart s := by
  simp only [proceedCall, requestCall]; repeat' split
  all_goals simp
@[simp] theorem latchPart_callsAtMask (old new : Nat) : latchPart (callsAtMask old new s) = latchPart s := by
  unfold callsAtMask; split
  · exact latchPart_clearWhere s _ _
  · exact foldl_keeps latchPart _ (fun s r => by split <;> simp) _ s
end

/-! ### Blocks -/

section
variable (s : State)

@[simp] theorem latchPart_reformLights : latchPart (reformLights s) = latchPart s :=
  latchPart_forEach s 8 _ fun p s => by
    simp only [reformLight]; generalize (if s.spurType p = .truck then s.lightOf p else .dark) = l
    split <;> simp
@[simp] theorem latchPart_reformStopAll : latchPart (reformStopAll s) = latchPart s := by
  unfold reformStopAll; split
  · rfl
  · exact (latchPart_forEach _ 8 _ fun p s => by split <;> simp).trans (latchPart_setBlocks s _)
/-- R116: an event of a master leaves alone what its own work leaves alone. -/
theorem latchPart_masterEvent (i : BlockIx) (f : State → State) (h : latchPart (f s) = latchPart s) :
    latchPart (masterEvent i f s) = latchPart s := by
  simp only [masterEvent, latchPart_reformLights, postState]
  repeat' split
  all_goals simpa using h
@[simp] theorem latchPart_grantClaim (i : BlockIx) (e : BlockEnd) (t : Nat) : latchPart (grantClaim i e t s) = latchPart s := by
  simp only [grantClaim]; split <;> simp
@[simp] theorem latchPart_decideClaim (i : BlockIx) (e : BlockEnd) (t : Nat) :
    latchPart (decideClaim i e t s) = latchPart s := by
  simp only [decideClaim, waitClaim]; repeat' split
  all_goals simp
@[simp] theorem latchPart_serveWaits (i : BlockIx) : latchPart (serveWaits i s) = latchPart s := by
  have served (l : List BlockEnd) : latchPart (l.foldl
      (fun s e => match (s.master i).waitAt e with | some t => decideClaim i e t s | none => s) s) = latchPart s :=
    foldl_keeps latchPart _ (fun s e => by split <;> simp) l s
  simp only [serveWaits]; repeat' split
  case h_1 => exact served _
  all_goals simp
@[simp] theorem latchPart_blocksAtLevel (b : Bool) : latchPart (blocksAtLevel b s) = latchPart s := by
  simp only [blocksAtLevel, latchPart_reformStopAll, latchPart_reformLights]; split
  · exact latchPart_forEach s 4 _ fun i s => by
      split
      · exact latchPart_masterEvent s i _ (latchPart_serveWaits s i)
      · rfl
  · rfl
@[simp] theorem latchPart_closeBlock (i : BlockIx) : latchPart (closeBlock i s) = latchPart s := by
  simp only [closeBlock]; split
  · exact latchPart_masterEvent s i _ (by simp)
  · exact latchPart_masterEvent s i _ (by simp)
  · exact latchPart_masterEvent s i _ (by simp)
  · rfl
end

/-! ### Levels -/

section
variable (s : State)

@[simp] theorem latchPart_refugeSpurOffer (r : PairIx) (m : OutMsg) : latchPart (refugeSpurOffer r m s) = latchPart s := by
  unfold refugeSpurOffer; split <;> simp
@[simp] theorem latchPart_sendPrepare (r : PairIx) : latchPart (sendPrepare r s) = latchPart s := by
  simp only [sendPrepare]; rw [latchPart_markIf _ _ rfl]; simp
@[simp] theorem latchPart_standdownTest (r : PairIx) : latchPart (standdownTest r s) = latchPart s := by
  simp only [standdownTest]; split <;> simp
@[simp] theorem latchPart_refugesAtLevelBut (stay : PairIx → Bool) (old : Level) :
    latchPart (refugesAtLevelBut stay old s) = latchPart s := by
  simp only [refugesAtLevelBut]; repeat' split
  · exact latchPart_forEach s 2 _ fun r s => by split <;> simp
  · exact latchPart_forEach s 2 _ fun r s => by split <;> simp
  · rfl
@[simp] theorem latchPart_reformDrive (o : PairIx) : latchPart (reformDrive o s) = latchPart s := by
  unfold reformDrive; split
  · rfl
  · rw [latchPart_markLevel]; exact latchPart_setLevel s _ ⟨rfl, rfl, rfl, rfl, rfl⟩
@[simp] theorem latchPart_reformMask : latchPart (reformMask s) = latchPart s := by
  simp only [reformMask]; split
  · rfl
  · rw [latchPart_callsAtMask, latchPart_markLevel]; exact latchPart_setLevel s _ ⟨rfl, rfl, rfl, rfl, rfl⟩
@[simp] theorem latchPart_reformEffectiveBut (stay : PairIx → Bool) :
    latchPart (reformEffectiveBut stay s) = latchPart s := by
  simp only [reformEffectiveBut]; split
  · rfl
  · rw [latchPart_notify, latchPart_refugesAtLevelBut, latchPart_blocksAtLevel, reformDrives,
      latchPart_forEach _ 2 _ (fun o s => latchPart_reformDrive s o), latchPart_reformMask, latchPart_markLevel]
    exact latchPart_setLevel s _ ⟨rfl, rfl, rfl, rfl, rfl⟩
@[simp] theorem latchPart_reformLocalBut (stay : PairIx → Bool) : latchPart (reformLocalBut stay s) = latchPart s := by
  simp only [reformLocalBut]; split
  · rfl
  · rw [latchPart_reformEffectiveBut, latchPart_markLevel]; exact latchPart_setLevel s _ ⟨rfl, rfl, rfl, rfl, rfl⟩
/-- R28, R36: a change of the local level is no cause and marks no source beside those handed on. -/
@[simp] theorem latchPart_reformLocal : latchPart (reformLocal s) = latchPart s := latchPart_reformLocalBut s _
@[simp] theorem latchPart_reformRefuge (r : PairIx) : latchPart (reformRefuge r s) = latchPart s := by
  simp only [reformRefuge]; split <;> simp
@[simp] theorem latchPart_refugesAtChannel (c : ChanId) : latchPart (refugesAtChannel c s) = latchPart s :=
  latchPart_forEach s 2 _ fun r s => by simp only; split <;> simp
@[simp] theorem latchPart_setDistress (r : PairIx) (b : Bool) : latchPart (setDistress r b s) = latchPart s := by
  simp only [setDistress]; split <;> simp
end

/-! ## The latch takes a cause (R36) -/

theorem mem_insertCause {c k : Cause} {l : List Cause} : k ∈ insertCause c l ↔ k = c ∨ k ∈ l := by
  unfold insertCause
  split
  next h => exact ⟨.inr, fun hk => hk.elim (fun e => e ▸ List.contains_iff_mem.mp h) id⟩
  next => simp [or_comm]

namespace LatchPart

/-- A mark of a source that is not `handedOn`, made on a condition. -/
def markIf (l : LatchPart) (b : Bool) (x : Source) : LatchPart :=
  { l with held := if b then Function.update l.held x (markHeld (l.held x)) else l.held }
/-- R36, R37, R38: the latch with a cause taken: PREPARE is cleared, and ISOLATION is marked for the cause and for the output. -/
def withCause (l : LatchPart) (c : Cause) (cycle : Nat) : LatchPart where
  latch := true
  causes := insertCause c l.causes
  firstCause := if l.latch then l.firstCause else some (c, cycle)
  accumulated := insertCause c l.accumulated
  output := true
  prepare := false
  held := ((l.markIf true .isolation).markIf (!l.output) .isolation).held
@[simp] theorem markIf_held_same (l : LatchPart) (b : Bool) (x : Source) :
    (l.markIf b x).held x = if b then markHeld (l.held x) else l.held x := by cases b <;> simp [markIf]
theorem markIf_held_ne (l : LatchPart) (b : Bool) {x y : Source} (h : y ≠ x) : (l.markIf b x).held y = l.held y := by
  cases b <;> simp [markIf, h]
theorem withCause_held_isolation (l : LatchPart) (c : Cause) (cycle : Nat) : (l.withCause c cycle).held .isolation =
    if l.output then markHeld (l.held .isolation) else markHeld (markHeld (l.held .isolation)) := by
  cases h : l.output <;> simp [withCause, h]
theorem withCause_held_ne (l : LatchPart) (c : Cause) (cycle : Nat) {x : Source} (h : x ≠ .isolation) :
    (l.withCause c cycle).held x = l.held x := by
  simp only [withCause, markIf_held_ne _ _ h]

/-- What the latch keeps while causes are taken and it is not reset: a set latch with its first cause and its output, every
cause, and a clear PREPARE. -/
structure Grows (l m : LatchPart) : Prop where
  latch       : l.latch = true → m.latch = true
  output      : l.output = true → m.output = true
  firstCause  : l.latch = true → m.firstCause = l.firstCause
  causes      : ∀ k ∈ l.causes, k ∈ m.causes
  accumulated : ∀ k ∈ l.accumulated, k ∈ m.accumulated
  prepare     : l.prepare = false → m.prepare = false

theorem Grows.refl (l : LatchPart) : l.Grows l := ⟨id, id, fun _ => rfl, fun _ => id, fun _ => id, id⟩
theorem Grows.trans {l m n : LatchPart} (h : l.Grows m) (g : m.Grows n) : l.Grows n where
  latch := g.latch ∘ h.latch
  output := g.output ∘ h.output
  firstCause set := (g.firstCause (h.latch set)).trans (h.firstCause set)
  causes k := g.causes k ∘ h.causes k
  accumulated k := g.accumulated k ∘ h.accumulated k
  prepare := g.prepare ∘ h.prepare
theorem grows_withCause (l : LatchPart) (c : Cause) (cycle : Nat) : l.Grows (l.withCause c cycle) where
  latch _ := rfl
  output _ := rfl
  firstCause set := if_pos set
  causes _ h := mem_insertCause.mpr (.inr h)
  accumulated _ h := mem_insertCause.mpr (.inr h)
  prepare _ := rfl

end LatchPart

theorem latchPart_markIf_eq (s : State) (b : Bool) {x : Source} (h : handedOn x = false) :
    latchPart (s.markIf b x) = (latchPart s).markIf b x := by
  have held : (latchPart (s.markIf b x)).held = ((latchPart s).markIf b x).held := by
    funext y
    by_cases e : y = x
    · subst e
      cases b <;> simp [latchPart, h]
    · rw [LatchPart.markIf_held_ne _ _ e]
      cases b <;> simp [latchPart, held_mark_ne s e]
  calc latchPart (s.markIf b x)
      = { latchPart s with held := (latchPart (s.markIf b x)).held } := by cases b <;> rfl
    _ = (latchPart s).markIf b x := by rw [held]; rfl
/-- R37: a set latch forms the output asserted. -/
theorem reformOutput_of_latch {s : State} (h : s.level.latch = true) :
    reformOutput s = (s.setLevel { s.level with output := true }).markIf (!s.level.output) .isolation := by
  have formed : s.outputOf = true := by simp [State.outputOf, h]
  cases out : s.level.output
  · simp [reformOutput, formed, out]
  · have same : s.setLevel { s.level with output := true } = s := by rw [← out]; rfl
    rw [reformOutput, if_pos (formed.trans out.symm), same]
    rfl
@[simp] theorem latchPart_takeCauseBut (stay : PairIx → Bool) (c : Cause) (s : State) :
    latchPart (takeCauseBut stay c s) = (latchPart s).withCause c s.line.cycle := by
  simp only [takeCauseBut, latchPart_reformLocalBut]
  rw [reformOutput_of_latch rfl, latchPart_markIf_eq _ _ rfl]
  have marked := latchPart_markIf_eq s true (x := .isolation) rfl
  rw [LatchPart.withCause, ← marked]
  rfl
@[simp] theorem latchPart_takeCause (c : Cause) (s : State) :
    latchPart (takeCause c s) = (latchPart s).withCause c s.line.cycle := latchPart_takeCauseBut _ c s

/-! ## What the Action Unit's work keeps -/

/-- A property of the state that the Action Unit's own bookkeeping keeps, and the actions that it runs. -/
structure KeptByActions (P : State → Prop) : Prop where
  unit     : ∀ s a, P s → P (s.setAction a)
  triggers : ∀ s t, P s → P (s.setWorking { s.working with triggers := t })
  note     : ∀ s, P s → P (s.mark .action)
  action   : ∀ a s, P s → P (runAction a s).1

namespace KeptByActions
variable {P : State → Prop} (keeps : KeptByActions P) {s : State}
include keeps

theorem runFrom (x : PairIx) (pos : Nat) (l : List Action) (h : P s) : P (runFrom x pos l s) := by
  induction l generalizing pos s with
  | nil => exact keeps.note s h
  | cons a l ih =>
    have ran := keeps.action a s h
    unfold Machine.runFrom
    split <;> rename_i t ends <;> rw [ends] at ran
    · exact ih _ ran
    · exact keeps.note _ (keeps.unit _ _ (keeps.triggers _ _ (keeps.unit _ _ ran)))
theorem evalList (x : PairIx) (h : P s) : P (evalList x s) := by
  simp only [Machine.evalList]
  split
  · exact h
  · split
    · exact keeps.runFrom x 0 _ (keeps.unit _ _ h)
    · split
      · exact keeps.unit _ _ h
      · exact h
theorem runHead (h : P s) : P (runHead s) := by
  unfold Machine.runHead
  split
  · exact h
  · rename_i a c rest _
    have ran := keeps.action a s h
    simp only
    split <;> rename_i t ends <;> rw [ends] at ran
    · exact keeps.note _ (keeps.unit _ _ ran)
    · exact keeps.note _ (keeps.unit _ _ (keeps.unit _ _ (keeps.note _ (keeps.unit _ _ ran))))
theorem examineHead (n : Nat) (h : P s) : P (examineHead n s) := by
  induction n generalizing s with
  | zero => exact h
  | succ n ih =>
    unfold Machine.examineHead
    split
    · exact h
    · split
      · exact ih (keeps.runHead h)
      · exact h
theorem headAt (n : Notice) (h : P s) : P (headAt n s) := by
  unfold Machine.headAt
  split
  · exact h
  · split
    · split
      · exact keeps.examineHead 8 (keeps.runHead h)
      · exact keeps.examineHead 8 h
    · exact h
theorem listAt (n : Notice) (x : PairIx) (h : P s) : P (listAt n x s) := by
  unfold Machine.listAt
  split
  · split
    · exact keeps.evalList x h
    · exact h
  · exact h
theorem takeNotice (n : Notice) (h : P s) : P (takeNotice n s) := by
  unfold Machine.takeNotice
  split
  · exact keeps.headAt n (keeps.listAt n 1 (keeps.listAt n 0 h))
  · exact h
theorem settleN (k : Nat) (h : P s) : P (settleN k s) := by
  induction k generalizing s with
  | zero => exact keeps.unit s _ h
  | succ k ih =>
    unfold Machine.settleN
    split
    · exact h
    · exact ih (keeps.takeNotice _ (keeps.unit _ _ h))
/-- R146: what the actions keep, taking the changes handed over keeps. -/
theorem settle (h : P s) : P (settle s) := keeps.settleN _ h

end KeptByActions

@[simp] theorem latchPart_soundHandsets (s : State) : latchPart (soundHandsets s) = latchPart s :=
  latchPart_forEach s 8 _ fun p s => by split <;> simp
/-- R147: an action but SET TRIP leaves the latch alone. -/
theorem latchPart_runAction {a : Action} (h : a ≠ .setTrip) (s : State) : latchPart (runAction a s).1 = latchPart s := by
  cases a with
  | setOutput o f =>
    simp only [runAction, setForce, latchPart_reformDrive]
    exact latchPart_setLevel s _ ⟨rfl, rfl, rfl, rfl, rfl⟩
  | soundHandsets => simp [runAction]
  | closeBlock id => simp only [runAction]; split <;> simp
  | raiseLevel l =>
    simp only [runAction, raiseLevel, latchPart_reformLocal]
    exact latchPart_setLevel s _ ⟨rfl, rfl, rfl, rfl, rfl⟩
  | setTrip => exact absurd rfl h
  | clearCallsAbove n => simp [runAction, clearCallsAbove]
  | refugePrepare r => simp only [runAction]; split <;> simp [prepareAction]
  | stopTrucks => simp [runAction, setStopTrucks]
  | sendNote c => simp [runAction]
/-- R36, R146: the Action Unit resets no latch: what it runs can only add its cause. -/
theorem latchPart_settle_grows (s : State) : (latchPart s).Grows (latchPart (settle s)) := by
  have keeps : KeptByActions fun t => (latchPart s).Grows (latchPart t) :=
    { unit := fun _ _ h => h
      triggers := fun _ _ h => h
      note := fun t h => by rwa [latchPart_markAction]
      action := fun a t h => by
        by_cases trip : a = .setTrip
        · subst trip
          exact h.trans (latchPart_takeCause .action t ▸ LatchPart.grows_withCause _ _ _)
        · rwa [latchPart_runAction trip] }
  exact keeps.settle (LatchPart.Grows.refl _)
theorem latchPart_settle_quiet {s : State} (h : Quiet s) : latchPart (settle s) = latchPart s := by
  rw [settle_quiet h, latchPart_setAction]

/-! ## What a changed status hands over (R18, R19, R21, R36) -/

section
variable {s : State} {c : ChanId} {x : Channel}

theorem changeChan_same (h : x.status = (s.air.get c).status) : changeChan c x s = s.setChan c x := by
  simp [changeChan, statusChanged, h]
theorem outsideLevel_changeChan : outsideLevel (changeChan c x s) = outsideLevel (s.setChan c x) :=
  outsideLevel_statusChanged c _ _

/-- R21: a changed status marks its source when it is pending or the status is not the last reported one. -/
def marksChannel (s : State) (c : ChanId) (x : Channel) : Bool := (s.held (.channel c)).isSome || x.status != x.lastReported
/-- R19: a channel that is in use gives the latch a cause where it stands in TRIP with trip enabled, or in FAULT with fault trips set. -/
theorem chanCause_trip (used : s.chanUsed c = true) (h : x.status = .trip) (on : (s.working.channels.get c).tripOn = true) :
    (s.setChan c x).chanCause c = some (.channelTrip c) := by
  simp [State.chanCause, h, used, on]
theorem chanCause_fault (used : s.chanUsed c = true) (h : x.status = .fault)
    (on : (s.working.channels.get c).faultTrips = true) : (s.setChan c x).chanCause c = some (.channelFault c) := by
  simp [State.chanCause, h, used, on]
theorem chanCause_none (trip : ¬ (x.status = .trip ∧ (s.working.channels.get c).tripOn = true))
    (fault : ¬ (x.status = .fault ∧ (s.working.channels.get c).faultTrips = true)) : (s.setChan c x).chanCause c = none := by
  unfold State.chanCause
  rw [State.setChan_air, Tab.get_put_same]
  split
  next h => exact if_neg fun on => trip ⟨h, (Bool.and_eq_true_iff.mp on).2⟩
  next h => exact if_neg fun on => fault ⟨h, (Bool.and_eq_true_iff.mp on).2⟩
  next => rfl

/-- The latch with a cause taken, if there is one. -/
def LatchPart.withCauseOpt (l : LatchPart) (k : Option Cause) (cycle : Nat) : LatchPart :=
  match k with | some k => l.withCause k cycle | none => l
theorem latchPart_takeCauseOpt (k : Option Cause) (s : State) :
    latchPart (takeCauseOpt k s) = (latchPart s).withCauseOpt k s.line.cycle := by
  cases k with
  | none => rfl
  | some k => exact latchPart_takeCause k s
/-- R18, R19, R21: a changed status marks its source and gives its cause, and is nothing else to the latch. -/
theorem latchPart_changeChan (h : x.status ≠ (s.air.get c).status) : latchPart (changeChan c x s) =
    ((latchPart s).markIf (marksChannel s c x) (.channel c)).withCauseOpt ((s.setChan c x).chanCause c) s.line.cycle := by
  have cause : ((markChannel c (s.setChan c x)).notify (.channel c)).chanCause c = (s.setChan c x).chanCause c := by
    simp [State.chanCause, markChannel]
  have marked : latchPart (markChannel c (s.setChan c x)) = (latchPart s).markIf (marksChannel s c x) (.channel c) := by
    rw [markChannel, latchPart_markIf_eq _ _ rfl, latchPart_setChan]
    simp [marksChannel, State.held]
  rw [changeChan, statusChanged, if_neg (by simpa using h)]
  simp only [latchPart_reformLocal, latchPart_refugesAtChannel, latchPart_takeCauseOpt, latchPart_notify, cause, marked]
  simp [markChannel]

/-- R146: with a changed status handed over and taken by the Action Unit, the air channels differ in the one entry. -/
theorem settle_changeChan_air : (settle (changeChan c x s)).air = s.air.put c x :=
  air_of_outsideActions ((outsideActions_settle _).trans (outsideActions_of_outsideLevel outsideLevel_changeChan))
theorem outsideActions_settle_changeChan :
    outsideActions (settle (changeChan c x s)) = outsideActions (s.setChan c x) :=
  (outsideActions_settle _).trans (outsideActions_of_outsideLevel outsideLevel_changeChan)
theorem settle_changeChan_same (h : x.status = (s.air.get c).status) (idle : NoNotices s) :
    settle (changeChan c x s) = s.setChan c x := by
  rw [changeChan_same h]
  exact settle_of_noNotices idle
theorem latchPart_settle_changeChan_quiet (q : Quiet s) :
    latchPart (settle (changeChan c x s)) = latchPart (changeChan c x s) :=
  latchPart_settle_quiet (Quiet.of_outsideLevel (s := s.setChan c x) ⟨q.queue, q.lists⟩ outsideLevel_changeChan)

/-- R36, R37, R38: a cause that a changed status gives has been taken, whatever the Action Unit then does. -/
theorem latchTook_changeChan {k : Cause} (h : x.status ≠ (s.air.get c).status)
    (cause : (s.setChan c x).chanCause c = some k) : LatchTook k s (settle (changeChan c x s)) := by
  have took := latchPart_changeChan h
  rw [cause] at took
  change _ = LatchPart.withCause _ k _ at took
  have grows := latchPart_settle_grows (changeChan c x s)
  have quiet := latchPart_settle_changeChan_quiet (s := s) (c := c) (x := x)
  rw [took] at grows quiet
  generalize settle (changeChan c x s) = t at grows quiet
  exact {
    set := ⟨grows.latch rfl, grows.output rfl⟩
    first := grows.firstCause rfl
    causes := ⟨grows.causes k (mem_insertCause.mpr (.inl rfl)), fun y hy => grows.causes y (mem_insertCause.mpr (.inr hy))⟩
    sent := ⟨grows.accumulated k (mem_insertCause.mpr (.inl rfl)),
      fun y hy => grows.accumulated y (mem_insertCause.mpr (.inr hy))⟩
    prepare := grows.prepare rfl
    alone := fun q => by
      have causes : t.level.causes = insertCause k s.level.causes := congrArg LatchPart.causes (quiet q)
      have sent : t.level.accumulated = insertCause k s.level.accumulated := congrArg LatchPart.accumulated (quiet q)
      have held : t.held .isolation = _ := congrArg (fun l => l.held .isolation) (quiet q)
      rw [LatchPart.withCause_held_isolation, LatchPart.markIf_held_ne _ _ (by simp)] at held
      exact ⟨fun y hy => mem_insertCause.mp (causes ▸ hy), fun y hy => mem_insertCause.mp (sent ▸ hy), held⟩ }
/-- R19: a changed status that gives no cause leaves the latch as it was, where the Action Unit does nothing. -/
theorem latchStood_changeChan (h : x.status ≠ (s.air.get c).status) (cause : (s.setChan c x).chanCause c = none) (q : Quiet s) :
    LatchStood s (settle (changeChan c x s)) := by
  have stood := latchPart_settle_changeChan_quiet (c := c) (x := x) q
  rw [latchPart_changeChan h, cause] at stood
  change _ = LatchPart.markIf _ _ _ at stood
  have held : (settle (changeChan c x s)).held .isolation = _ := congrArg (fun l => l.held .isolation) stood
  rw [LatchPart.markIf_held_ne _ _ (by simp)] at held
  exact ⟨congrArg LatchPart.latch stood, congrArg LatchPart.causes stood, congrArg LatchPart.accumulated stood,
    congrArg LatchPart.firstCause stood, congrArg LatchPart.prepare stood, held⟩
/-- R21: where the Action Unit does nothing, the mark of a changed status is its source's only one. -/
theorem held_changeChan (h : x.status ≠ (s.air.get c).status) (q : Quiet s) :
    (settle (changeChan c x s)).held (.channel c) =
      if (s.held (.channel c)).isSome = true ∨ x.status ≠ x.lastReported then markHeld (s.held (.channel c)) else none := by
  have marked : (settle (changeChan c x s)).held (.channel c) = (latchPart (changeChan c x s)).held (.channel c) :=
    congrArg (fun l => l.held (.channel c)) (latchPart_settle_changeChan_quiet q)
  have causeStands (l : LatchPart) (k : Option Cause) (n : Nat) : (l.withCauseOpt k n).held (.channel c) = l.held (.channel c) := by
    cases k with
    | none => rfl
    | some k => exact l.withCause_held_ne k n (by simp)
  rw [marked, latchPart_changeChan h, causeStands, LatchPart.markIf_held_same]
  have held : (latchPart s).held (.channel c) = s.held (.channel c) := rfl
  cases here : s.held (.channel c) <;> simp [marksChannel, held, here]
end

/-! ## Readings (R6, R14 to R16, R202) -/

section
variable (c : ChanCfg) {raw q : Nat} (x : Channel)

theorem enterStatus_fault_same {x : Channel} (h : x.status = .fault) : enterStatus .fault x = x := by simp [enterStatus, h]
theorem enterStatus_of_ne {st : ChanStatus} {x : Channel} (h : st ≠ .fault ∨ x.status ≠ .fault) :
    enterStatus st x = { x with status := st, n := 0, m := none } := if_neg (by tauto)
@[simp] theorem enterStatus_lastReported (st : ChanStatus) : (enterStatus st x).lastReported = x.lastReported := by
  unfold enterStatus; split <;> rfl

theorem readingOf_good (h : raw ≤ 4095) : readingOf c raw 0 x = goodReading c raw x := by simp [readingOf, h]
theorem readingOf_warmup (h : raw ≤ 4095) :
    readingOf c raw 1 x = { x with stale := 0, status := .warmup, n := 0, m := none } := by
  simp [readingOf, h, enterStatus]
theorem readingOf_bad (h : 4095 < raw ∨ 2 ≤ q) : readingOf c raw q x = enterStatus .fault { x with stale := 0 } := by
  unfold readingOf
  split
  · rfl
  · split
    · omega
    · omega
    · rfl
@[simp] theorem readingOf_lastReported : (readingOf c raw q x).lastReported = x.lastReported := by
  unfold readingOf
  repeat' split
  all_goals simp
end

section
variable {s : State} {p : SpurId}

/-- R164: a valid frame on an UP spur is heard, and changes nothing else. -/
theorem validFrame_up (h : s.spurUp p = true) : validFrame p s = heard p s := by
  have up : (s.spurs.get p).state = .up := by simpa [State.spurUp] using h
  simp [validFrame, heard, up]
@[simp] theorem heard_spurUpAs (t : SpurType) (p q : SpurId) (s : State) : (heard p s).spurUpAs t q = s.spurUpAs t q := by
  have state : ((heard p s).spurs.get q).state = (s.spurs.get q).state := by
    simp only [heard, State.setSpur_spurs, Tab.get_put]
    split
    next e => rw [e]
    next => rfl
  simp only [State.spurUpAs, State.spurUp, state]
  rfl
/-- R6, R168: a READING on an UP GAS spur is taken by the Air Monitor. -/
theorem exec_reading {sub raw q : Nat} (powered : s.powered = true) (h : s.spurUpAs .gas p = true) :
    exec (.reading p sub raw q) s = .next (settle (takeReading p sub raw q (heard p s))) := by
  have both : s.spurUp p = true ∧ s.spurType p = .gas := by simpa [State.spurUpAs] using h
  obtain ⟨up, gas⟩ := both
  have heardUp : (heard p s).spurUp p = true ∧ (heard p s).spurType p = .gas := by
    simpa [State.spurUpAs] using (heard_spurUpAs .gas p p s).trans h
  have notOff : (s.spurs.get p).state ≠ .off := by
    have : (s.spurs.get p).state = .up := by simpa [State.spurUp] using up
    simp [this]
  have taken : headMessage p (.reading sub raw q) s = takeReading p sub raw q (heard p s) := by
    rw [headMessage, if_neg notOff, validFrame_up up, takeMsg, if_pos (by simp [heardUp, HeadMsg.fits]), deliver]
  rw [← taken]
  exact settled_powered _ powered
theorem takeReading_bound {sub raw q : Nat} {c : ChanId} (h : s.spurUpAs .gas p = true) (bound : s.chanFor p sub = some c) :
    takeReading p sub raw q s = changeChan c (readingOf (s.working.channels.get c) raw q (s.air.get c)) s := by
  simp [takeReading, h, bound]
theorem takeReading_unbound {sub raw q : Nat} (h : s.spurUpAs .gas p = true) (unbound : s.chanFor p sub = none) :
    takeReading p sub raw q s = s := by simp [takeReading, h, unbound]
theorem chanUsed_of_chanFor {sub : Nat} {c : ChanId} (h : s.chanFor p sub = some c) : s.chanUsed c = true := by
  have bound := Tab.firstIx_some h
  simp only [Bool.and_eq_true] at bound
  exact bound.1.1
theorem LatchTook.of_heard {k : Cause} {t : State} (h : LatchTook k (heard p s) t) : LatchTook k s t :=
  ⟨h.set, h.first, h.causes, h.sent, h.prepare, fun q => h.alone ⟨q.queue, q.lists⟩⟩
end

/-- Settles O19: a READING replaces one entry, and a changed status is handed over as `latchPart_changeChan` says. -/
theorem readingUpdatesItsEntryAlone : Obligations.ReadingUpdatesItsEntryAlone := by
  constructor
  · intro s p sub raw q c powered idle up bound
    have heardUp : (heard p s).spurUpAs .gas p = true := (heard_spurUpAs ..).trans up
    have used : (heard p s).chanUsed c = true := chanUsed_of_chanFor (s := s) bound
    refine ⟨_, readingOf (s.working.channels.get c) raw q (s.air.get c), exec_reading powered up, ?_⟩
    rw [takeReading_bound heardUp bound]
    refine ⟨settle_changeChan_air, fun low good => ?_, fun low warm => ?_, fun bad entered => ?_, fun bad stood => ?_,
      outsideActions_settle_changeChan, fun same => settle_changeChan_same same idle, fun changed => ⟨fun trip on => ?_,
      fun fault on => ?_, fun quiet => ⟨?_, fun noTrip noFault => ?_⟩⟩⟩
    · subst good
      rw [readingOf_good _ _ low]
      exact ⟨rfl, goodReading_stale _ _ _⟩
    · subst warm
      exact readingOf_warmup _ _ low
    · exact (readingOf_bad _ _ bad).trans (enterStatus_of_ne (.inr entered))
    · exact (readingOf_bad _ _ bad).trans (enterStatus_fault_same stood)
    · exact (latchTook_changeChan (s := heard p s) changed (chanCause_trip used trip on)).of_heard
    · exact (latchTook_changeChan (s := heard p s) changed (chanCause_fault used fault on)).of_heard
    · have held := held_changeChan changed (s := heard p s) ⟨quiet.queue, quiet.lists⟩
      rwa [readingOf_lastReported] at held
    · exact latchStood_changeChan (s := heard p s) changed (chanCause_none noTrip noFault)
        ⟨quiet.queue, quiet.lists⟩
  · intro s p sub raw q powered idle up unbound
    rw [exec_reading powered up, takeReading_unbound ((heard_spurUpAs ..).trans up) unbound]
    exact congrArg _ (settle_of_noNotices idle)

/-- Settles O20: an expiry that is due is the replacement of one entry by itself in FAULT. -/
theorem staleExpiryEntersFault : Obligations.StaleExpiryEntersFault := by
  intro s c powered idle
  have run : exec (.staleExpiry c) s = .next (settle (staleExpire c s)) := settled_powered _ powered
  rw [run]
  constructor
  · intro due notFault
    have used : s.chanUsed c = true := (Bool.and_eq_true_iff.mp due).1
    have faulted : staleExpire c s = changeChan c { s.air.get c with status := .fault, n := 0, m := none } s := by
      rw [staleExpire, if_pos due, chanFault, enterStatus_of_ne (.inr notFault)]
    have changed : ChanStatus.fault ≠ (s.air.get c).status := Ne.symm notFault
    rw [faulted]
    refine ⟨_, rfl, settle_changeChan_air, outsideActions_settle_changeChan, fun on => ?_, fun q => ⟨?_, fun off => ?_⟩⟩
    · exact latchTook_changeChan changed (chanCause_fault used rfl on)
    · rw [held_changeChan changed q]
      simp only [ne_comm]
    · exact latchStood_changeChan changed (chanCause_none (by simp) (by simp [off])) q
  · intro noEntry
    have stands : staleExpire c s = s := by
      unfold staleExpire
      split
      next due =>
        have fault : (s.air.get c).status = .fault := noEntry.resolve_left (by simp [due])
        rw [chanFault, enterStatus_fault_same fault, changeChan_same rfl, State.setChan, Tab.put_get]
      next => rfl
    rw [stands, settle_of_noNotices idle]

end Sys2Proof.Safety
end

section
/-! PROOFS. The family of the district levels and isolation: what the levels, the mask, the drives and the output are formed from, what
leaves that alone, what every command keeps of it, and what the latch's own commands do. -/

namespace Sys2Proof.Safety
open Sys2Proof.Machine

/-! ## What the levels are formed from (R28, R32, R33, R37, R44) -/

/-- The formed values, and what forms them beside the contributions to the local level. The fields of the Level Unit that form
nothing are blanked, and so are the hold and the contacts, which are contributions. -/
structure FormedPart where
  level      : LevelUnit
  commission : Commission
  levelMap   : Tab 5 Nat
def formedPart (s : State) : FormedPart :=
  { level := { s.level with
      received := false, causes := [], accumulated := [], hold := 0, contacts := Tab.fill 2 { active := false, run := 0 } }
    commission := s.working.commission
    levelMap := s.working.levelMap }
/-- R28: the contributions to the local level, but for the latch's. -/
structure Contributions where
  status   : ChanId → ChanStatus
  refugeOn : PairIx → Bool
  refuge   : PairIx → RefugeState
  active   : PairIx → Bool
  alarm    : Bool
  hold     : Level
def contributions (s : State) : Contributions :=
  { status := fun c => (s.air.get c).status, refugeOn := s.refugeOn, refuge := fun r => (s.refuges.get r).state
    active := fun i => (s.level.contacts.get i).active, alarm := s.blocks.truckAlarm.isSome, hold := s.level.hold }
/-- All that the relations of the levels and of the output speak of. -/
structure LevelPart where
  formed        : FormedPart
  contributions : Contributions
def levelPart (s : State) : LevelPart := { formed := formedPart s, contributions := contributions s }

section
variable {s t : State}

theorem formedPart_of_levelPart (h : levelPart t = levelPart s) : formedPart t = formedPart s := congrArg LevelPart.formed h
theorem contributions_of_levelPart (h : levelPart t = levelPart s) : contributions t = contributions s :=
  congrArg LevelPart.contributions h
theorem levelPart_eq (hf : formedPart t = formedPart s) (hc : contributions t = contributions s) : levelPart t = levelPart s :=
  congrArg₂ LevelPart.mk hf hc

theorem latch_of_formedPart (h : formedPart t = formedPart s) : t.level.latch = s.level.latch :=
  congrArg (fun p => p.level.latch) h
theorem firstCause_of_formedPart (h : formedPart t = formedPart s) : t.level.firstCause = s.level.firstCause :=
  congrArg (fun p => p.level.firstCause) h
end

/-! ### The writes of one record -/

section
variable (s : State)

@[simp] theorem levelPart_setCall (r : RecId) (x : CallRec) : levelPart (s.setCall r x) = levelPart s := rfl
@[simp] theorem levelPart_setCalls (c : Calls) : levelPart (s.setCalls c) = levelPart s := rfl
@[simp] theorem levelPart_setHook (p : SpurId) (b : Bool) : levelPart (s.setHook p b) = levelPart s := rfl
@[simp] theorem levelPart_setSlot (e : SlotIx) (x : SlotEntry) : levelPart (s.setSlot e x) = levelPart s := rfl
@[simp] theorem levelPart_setSlots (x : SlotSwitch) : levelPart (s.setSlots x) = levelPart s := rfl
@[simp] theorem levelPart_setMaster (i : BlockIx) (m : Master) : levelPart (s.setMaster i m) = levelPart s := rfl
@[simp] theorem levelPart_setFar (i : BlockIx) (f : FarEnd) : levelPart (s.setFar i f) = levelPart s := rfl
@[simp] theorem levelPart_setLine (l : Line) : levelPart (s.setLine l) = levelPart s := rfl
@[simp] theorem levelPart_setPort (d : Side) (x : LinePort) : levelPart (s.setPort d x) = levelPart s := by cases d <;> rfl
@[simp] theorem levelPart_setAction (a : ActionUnit) : levelPart (s.setAction a) = levelPart s := rfl
@[simp] theorem levelPart_mark (x : Source) : levelPart (s.mark x) = levelPart s := rfl
@[simp] theorem levelPart_markIf (b : Bool) (x : Source) : levelPart (s.markIf b x) = levelPart s := by cases b <;> rfl
@[simp] theorem levelPart_notify (n : Notice) : levelPart (s.notify n) = levelPart s := rfl
theorem levelPart_setBlocks (b : Blocks) (h : b.truckAlarm = s.blocks.truckAlarm) : levelPart (s.setBlocks b) = levelPart s := by
  simp [levelPart, formedPart, contributions, h]
  rfl
theorem levelPart_setChan (c : ChanId) (x : Channel) (h : x.status = (s.air.get c).status) :
    levelPart (s.setChan c x) = levelPart s := by
  have status (d : ChanId) : ((s.air.put c x).get d).status = (s.air.get d).status := by
    rw [Tab.get_put]
    split
    next e => rw [h, e]
    next => rfl
  simp [levelPart, formedPart, contributions, status]
  rfl
theorem levelPart_setRefuge (r : PairIx) (x : Refuge) (h : x.state = (s.refuges.get r).state) :
    levelPart (s.setRefuge r x) = levelPart s := by
  have state (q : PairIx) : ((s.refuges.put r x).get q).state = (s.refuges.get q).state := by
    rw [Tab.get_put]
    split
    next e => rw [h, e]
    next => rfl
  simp [levelPart, formedPart, contributions, state]
  rfl
@[simp] theorem formedPart_setChan (c : ChanId) (x : Channel) : formedPart (s.setChan c x) = formedPart s := rfl
@[simp] theorem formedPart_setBlocks (b : Blocks) : formedPart (s.setBlocks b) = formedPart s := rfl
/-- The walk over a table keeps what its turns keep. -/
theorem levelPart_forEach (n : Nat) (f : Fin n → State → State) (h : ∀ i s, levelPart (f i s) = levelPart s) :
    levelPart (forEach n f s) = levelPart s := forEach_keeps levelPart n f h s
end

/-! ## What leaves the levels alone -/

/-! ### Messages and slots -/

section
variable (s : State)

@[simp] theorem levelPart_offer (p : SpurId) (m : OutMsg) : levelPart (offer p m s) = levelPart s := by
  unfold offer; split <;> rfl
@[simp] theorem levelPart_tone (p : SpurId) (t : Tone) : levelPart (tone p t s) = levelPart s := levelPart_offer s p _
@[simp] theorem levelPart_toneOpt (p : Option SpurId) (t : Tone) : levelPart (toneOpt p t s) = levelPart s := by
  cases p <;> simp [toneOpt]
@[simp] theorem levelPart_ringOpt (p : Option SpurId) (b : Bool) : levelPart (ringOpt p b s) = levelPart s := by
  cases p <;> simp [ringOpt]
@[simp] theorem levelPart_post (d : Side) (m : NMsg) : levelPart (post d m s) = levelPart s := by
  unfold post; split <;> simp
@[simp] theorem levelPart_refugeSpurOffer (r : PairIx) (m : OutMsg) : levelPart (refugeSpurOffer r m s) = levelPart s := by
  unfold refugeSpurOffer; split <;> simp
@[simp] theorem levelPart_installPair (r : RecId) (far : Side) (sl : Slot) : levelPart (installPair r far sl s) = levelPart s := rfl
@[simp] theorem levelPart_removePair (far : Side) (sl : Slot) : levelPart (removePair far sl s) = levelPart s := rfl
@[simp] theorem levelPart_startContinuity (far : Side) (sl : Slot) : levelPart (startContinuity far sl s) = levelPart s := rfl
@[simp] theorem levelPart_dropCell (e : SlotIx) (r : RecId) (a : Arrival) : levelPart (dropCell e r a s) = levelPart s := by
  simp only [dropCell, deliverVoice, levelPart_setSlot]; split <;> rfl
@[simp] theorem levelPart_collide : levelPart (collide s) = levelPart s := rfl
@[simp] theorem levelPart_switchCell (e : SlotIx) (a : Arrival) : levelPart (switchCell e a s) = levelPart s := by
  simp only [switchCell]; split <;> (try split) <;> simp

/-! ### Calls -/

@[simp] theorem levelPart_enterCall (r : RecId) (st : CallState) (f : CallRec → CallRec) :
    levelPart (enterCall r st f s) = levelPart s := rfl
@[simp] theorem levelPart_dropPair (x : CallRec) : levelPart (dropPair x s) = levelPart s := by
  unfold dropPair; split <;> (try split) <;> simp
@[simp] theorem levelPart_dropBridge (x : CallRec) : levelPart (dropBridge x s) = levelPart s := by
  unfold dropBridge; split <;> rfl
@[simp] theorem levelPart_clearTones (c : ClearCause) (l : List SpurId) : levelPart (clearTones c l s) = levelPart s :=
  foldl_keeps levelPart _ (fun s p => by split <;> simp) l s
@[simp] theorem levelPart_clearCall (r : RecId) (c : ClearCause) : levelPart (clearCall r c s) = levelPart s := by
  simp only [clearCall]; split
  · split <;> simp
  · rfl
@[simp] theorem levelPart_clearWhere (p : CallRec → Bool) (c : ClearCause) : levelPart (clearWhere p c s) = levelPart s :=
  levelPart_forEach s 16 _ fun r s => by split <;> simp
@[simp] theorem levelPart_ringStep (r : RecId) : levelPart (ringStep r s) = levelPart s := by
  simp only [ringStep]; repeat' split
  all_goals simp
@[simp] theorem levelPart_proceedCall (r : RecId) : levelPart (proceedCall r s) = levelPart s := by
  simp only [proceedCall, requestCall]; repeat' split
  all_goals simp
@[simp] theorem levelPart_callsAtMask (old new : Nat) : levelPart (callsAtMask old new s) = levelPart s := by
  unfold callsAtMask; split
  · exact levelPart_clearWhere s _ _
  · exact foldl_keeps levelPart _ (fun s r => by split <;> simp) _ s
@[simp] theorem levelPart_admitCall (r : RecId) : levelPart (admitCall r s) = levelPart s := by
  simp only [admitCall]; split <;> simp
@[simp] theorem levelPart_completeCall (r : RecId) (d : Dialled) (n : Option Nat) :
    levelPart (completeCall r d n s) = levelPart s :=
  (levelPart_admitCall _ r).trans (levelPart_setCall s r _)
@[simp] theorem levelPart_completeStation (r : RecId) (n d : Nat) : levelPart (completeStation r n d s) = levelPart s := by
  simp only [completeStation]; repeat' split
  all_goals simp
@[simp] theorem levelPart_takeDigit (p : SpurId) (d : Nat) : levelPart (takeDigit p d s) = levelPart s := by
  simp only [takeDigit]
  generalize (if d ≤ 9 then s.collectingAt p else none) = o
  cases o with
  | none => rfl
  | some r => simp only; split <;> split <;> simp
@[simp] theorem levelPart_reclaim (r : RecId) : levelPart (reclaim r s) = levelPart s := by
  unfold reclaim; split <;> rfl
@[simp] theorem levelPart_numberCall (r : RecId) : levelPart (numberCall r s) = levelPart s := rfl
@[simp] theorem levelPart_countRefused : levelPart (countRefused s) = levelPart s := rfl
@[simp] theorem levelPart_startCall (p : SpurId) : levelPart (startCall p s) = levelPart s := by
  simp only [startCall]; split <;> simp
@[simp] theorem levelPart_answerDestination (r : RecId) (p : SpurId) : levelPart (answerDestination r p s) = levelPart s := by
  simp only [answerDestination, levelPart_tone, levelPart_offer]; split <;> simp
@[simp] theorem levelPart_answerLocal (r : RecId) (p : SpurId) : levelPart (answerLocal r p s) = levelPart s := by
  simp only [answerLocal]; split <;> simp
@[simp] theorem levelPart_liftHandset (p : SpurId) : levelPart (liftHandset p s) = levelPart s := by
  simp only [liftHandset]; repeat' split
  all_goals simp
@[simp] theorem levelPart_takeOffhook (p : SpurId) : levelPart (takeOffhook p s) = levelPart s := by
  unfold takeOffhook; split <;> simp
@[simp] theorem levelPart_takeOnhook (p : SpurId) : levelPart (takeOnhook p s) = levelPart s := by
  unfold takeOnhook; split <;> simp
@[simp] theorem levelPart_callsSpurLost (p : SpurId) : levelPart (callsSpurLost p s) = levelPart s := by simp [callsSpurLost]
@[simp] theorem levelPart_resetRequested : levelPart (resetRequested s) = levelPart s :=
  levelPart_forEach s 16 _ fun r s => by split <;> simp
@[simp] theorem levelPart_callsAutonomous : levelPart (callsAutonomous s) = levelPart s := by simp [callsAutonomous]
@[simp] theorem levelPart_timeoutCall (st : CallState) (r : RecId) : levelPart (timeoutCall st r s) = levelPart s := by
  unfold timeoutCall; split <;> simp
@[simp] theorem levelPart_ringDestination (r : RecId) (p : SpurId) (k : Nat) (sl : Slot) (f : Side) :
    levelPart (ringDestination r p k sl f s) = levelPart s := by simp [ringDestination]
@[simp] theorem levelPart_connectCall (r : RecId) : levelPart (connectCall r s) = levelPart s := by
  simp only [connectCall, levelPart_toneOpt]; split <;> simp

/-! ### Blocks -/

@[simp] theorem levelPart_reformLights : levelPart (reformLights s) = levelPart s :=
  levelPart_forEach s 8 _ fun p s => by
    simp only [reformLight]; generalize (if s.spurType p = .truck then s.lightOf p else .dark) = l
    split
    · rfl
    · exact levelPart_offer _ p _
@[simp] theorem levelPart_reformStopAll : levelPart (reformStopAll s) = levelPart s := by
  unfold reformStopAll; split
  · rfl
  · exact levelPart_forEach _ 8 _ fun p s => by split <;> simp
@[simp] theorem levelPart_postState (i : BlockIx) : levelPart (postState i s) = levelPart s := levelPart_post s _ _
/-- R116: an event of a master leaves alone what its own work leaves alone. -/
theorem levelPart_masterEvent (i : BlockIx) (f : State → State) (h : levelPart (f s) = levelPart s) :
    levelPart (masterEvent i f s) = levelPart s := by
  simp only [masterEvent, levelPart_reformLights]
  repeat' split
  all_goals simpa using h
/-- R107: so does an event of a far end. -/
theorem levelPart_farEvent (i : BlockIx) (f : State → State) (h : levelPart (f s) = levelPart s) :
    levelPart (farEvent i f s) = levelPart s := by
  simp only [farEvent, levelPart_reformLights]
  split <;> simpa using h
@[simp] theorem levelPart_grantClaim (i : BlockIx) (e : BlockEnd) (t : Nat) : levelPart (grantClaim i e t s) = levelPart s := by
  simp only [grantClaim]; split <;> simp
@[simp] theorem levelPart_decideClaim (i : BlockIx) (e : BlockEnd) (t : Nat) :
    levelPart (decideClaim i e t s) = levelPart s := by
  simp only [decideClaim, waitClaim]; repeat' split
  all_goals simp
@[simp] theorem levelPart_answerDuplicate (i : BlockIx) (e : BlockEnd) (t : Nat) :
    levelPart (answerDuplicate i e t s) = levelPart s := by
  simp only [answerDuplicate]; repeat' split
  all_goals simp
@[simp] theorem levelPart_takeClaim (i : BlockIx) (e : BlockEnd) (t : Nat) : levelPart (takeClaim i e t s) = levelPart s := by
  unfold takeClaim; split
  · exact levelPart_answerDuplicate s i e t
  · exact levelPart_masterEvent s i _ (levelPart_decideClaim s i e t)
@[simp] theorem levelPart_serveWaits (i : BlockIx) : levelPart (serveWaits i s) = levelPart s := by
  have served (l : List BlockEnd) : levelPart (l.foldl
      (fun s e => match (s.master i).waitAt e with | some t => decideClaim i e t s | none => s) s) = levelPart s :=
    foldl_keeps levelPart _ (fun s e => by split <;> simp) l s
  simp only [serveWaits]; repeat' split
  case h_1 => exact served _
  all_goals simp
@[simp] theorem levelPart_takeExit (i : BlockIx) (e : BlockEnd) (t : Nat) : levelPart (takeExit i e t s) = levelPart s := by
  simp only [takeExit]; repeat' split
  · exact levelPart_masterEvent s i _ (by simp [exitListed])
  · exact levelPart_masterEvent s i _ (by simp [exitFaulted])
  · rfl
  · rfl
@[simp] theorem levelPart_masterFault (i : BlockIx) : levelPart (masterFault i s) = levelPart s := by
  simp only [masterFault]; split
  · rfl
  · exact levelPart_masterEvent s i _ (by simp)
@[simp] theorem levelPart_setFarReady (i : BlockIx) (b : Bool) : levelPart (setFarReady i b s) = levelPart s := by
  simp only [setFarReady]; split <;> simp
@[simp] theorem levelPart_openBlock (i : BlockIx) (b : Bool) : levelPart (openBlock i b s) = levelPart s := by
  have go (m : Master) : levelPart (masterEvent i (fun s => serveWaits i ((s.setMaster i m).mark (.block i))) s) = levelPart s :=
    levelPart_masterEvent s i _ (by simp)
  simp only [openBlock]; split
  · exact go _
  · split <;> exact go _
  · split <;> exact go _
  · rfl
@[simp] theorem levelPart_closeBlock (i : BlockIx) : levelPart (closeBlock i s) = levelPart s := by
  simp only [closeBlock]; split
  case h_4 => rfl
  all_goals exact levelPart_masterEvent s i _ (by simp)
@[simp] theorem levelPart_setClaim (i : BlockIx) (c : Option (Nat × Standing)) : levelPart (setClaim i c s) = levelPart s := by
  unfold setClaim; split <;> rfl
@[simp] theorem levelPart_setExits (i : BlockIx) (l : List Nat) : levelPart (setExits i l s) = levelPart s := by
  unfold setExits; split <;> rfl
@[simp] theorem levelPart_farArriving (i : BlockIx) (t : Nat) : levelPart (farArriving i t s) = levelPart s :=
  levelPart_farEvent s i _ (by simp only [levelPart_post]; split <;> split <;> simp)
@[simp] theorem levelPart_farLeaving (i : BlockIx) (t : Nat) : levelPart (farLeaving i t s) = levelPart s :=
  levelPart_farEvent s i _ (by simp)
@[simp] theorem levelPart_farAnswer (i : BlockIx) (t : Nat) (st : Standing) : levelPart (farAnswer i t st s) = levelPart s := by
  unfold farAnswer; repeat' split
  · exact levelPart_farEvent s i _ (levelPart_setClaim s i _)
  all_goals rfl
@[simp] theorem levelPart_farTakeState (i : BlockIx) (m : Mirror) : levelPart (farTakeState i m s) = levelPart s :=
  levelPart_farEvent s i _ (by simp)
@[simp] theorem levelPart_postReadiness (i : BlockIx) : levelPart (postReadiness i s) = levelPart s := by simp [postReadiness]
@[simp] theorem levelPart_recheckFar (s0 : State) : levelPart (recheckFar s0 s) = levelPart s :=
  levelPart_forEach s 4 _ fun i s => by
    have fault : levelPart (farEvent i (fun s =>
        if s.farFaultNow i = (s.farEnd i).localFault then s
        else (s.setFar i { s.farEnd i with localFault := s.farFaultNow i }).mark (.block i)) s) = levelPart s :=
      levelPart_farEvent s i _ (by split <;> rfl)
    split
    · simp only; split
      · exact fault
      · rw [levelPart_postReadiness]; exact fault
    · rfl
@[simp] theorem levelPart_blocksSpurLost (p : SpurId) (s0 : State) : levelPart (blocksSpurLost p s0 s) = levelPart s :=
  (levelPart_recheckFar _ s0).trans (levelPart_forEach s 4 _ fun i s => by split <;> simp)
@[simp] theorem levelPart_blocksSpurUp (p : SpurId) (s0 : State) : levelPart (blocksSpurUp p s0 s) = levelPart s := by
  simp [blocksSpurUp]
@[simp] theorem levelPart_blocksPortLost (d : Side) (s0 : State) : levelPart (blocksPortLost d s0 s) = levelPart s := by
  cases d with
  | inbye => exact levelPart_forEach s 4 _ fun i s => by split <;> simp
  | outbye =>
    refine (levelPart_recheckFar _ s0).trans (levelPart_forEach s 4 _ fun i s => ?_)
    split
    · exact levelPart_farEvent s i _ (by simp)
    · rfl
@[simp] theorem levelPart_blocksPortUp (d : Side) (s0 : State) : levelPart (blocksPortUp d s0 s) = levelPart s := by
  cases d
  · rfl
  · exact levelPart_recheckFar s s0
@[simp] theorem levelPart_blocksAtLevel (b : Bool) : levelPart (blocksAtLevel b s) = levelPart s := by
  simp only [blocksAtLevel, levelPart_reformStopAll, levelPart_reformLights]; split
  · exact levelPart_forEach s 4 _ fun i s => by
      split
      · exact levelPart_masterEvent s i _ (levelPart_serveWaits s i)
      · rfl
  · rfl
@[simp] theorem levelPart_blockTag (p : SpurId) (t sense : Nat) : levelPart (blockTag p t sense s) = levelPart s := by
  unfold blockTag; repeat' split
  all_goals simp
@[simp] theorem levelPart_takeNeighbour (d : Side) (m : NMsg) : levelPart (takeNeighbour d m s) = levelPart s := by
  unfold takeNeighbour neighbourClaim neighbourExit neighbourFarState neighbourGrant neighbourWait neighbourState
  repeat' split
  all_goals simp
@[simp] theorem levelPart_blockTurn (i : BlockIx) : levelPart (blockTurn i s) = levelPart s := by
  have posted (l : List Nat) (s : State) : levelPart (l.foldl (fun s t => post .outbye (.exit (s.blockId i) t) s) s) = levelPart s :=
    foldl_keeps levelPart _ (fun s t => by simp) l s
  simp only [blockTurn]; repeat' split
  · simp
  · simp only [farTurn, posted, levelPart_setExits]; repeat' split
    all_goals simp
  · rfl
@[simp] theorem levelPart_takeOverdue (i : BlockIx) (t : Nat) : levelPart (takeOverdue i t s) = levelPart s := by
  simp only [takeOverdue]; split <;> rfl
@[simp] theorem levelPart_resetBlock (i : BlockIx) : levelPart (resetBlock i s) = levelPart s := rfl
@[simp] theorem levelPart_replaceBlock (i : BlockIx) : levelPart (replaceBlock i s) = levelPart s := by
  simp only [replaceBlock]; split <;> simp
end

/-! ## What every command keeps of the levels -/

/-- `formed` is a property of the levels, and `loose` is what stands of it while a contribution has moved and the local level has not
been formed again. Each is read from its part of the state, and the operations of the Level Unit restore or keep `formed`. -/
structure LevelKeeps (loose formed : State → Prop) : Prop where
  loosen     : ∀ {s}, formed s → loose s
  same       : ∀ {s t}, formed s → levelPart t = levelPart s → formed t
  looseSame  : ∀ {s t}, loose s → formedPart t = formedPart s → loose t
  localLevel : ∀ {s} stay, loose s → formed (reformLocalBut stay s)
  cause      : ∀ {s} stay c, loose s → formed (takeCauseBut stay c s)
  force      : ∀ {s} o f, formed s → formed (setForce o f s)
  ordered    : ∀ {s} t, formed s → formed (takeOrdered t s)
  mask       : ∀ {s} m, formed s → formed (reformMask (s.setWorking { s.working with levelMap := m }))

namespace LevelKeeps
variable {L P : State → Prop} (keeps : LevelKeeps L P) {s t : State}
include keeps

/-! ### Refuges, channels and trucks -/

theorem loose_of_formedPart (h : P s) (e : formedPart t = formedPart s) : L t := keeps.looseSame (keeps.loosen h) e
theorem looseSame' (h : L s) (e : levelPart t = levelPart s) : L t := keeps.looseSame h (formedPart_of_levelPart e)

/-- A contribution moves, and the local level is formed again. -/
theorem contribution (h : P s) (e : formedPart t = formedPart s) : P (reformLocal t) :=
  keeps.localLevel _ (keeps.loose_of_formedPart h e)
theorem looseReformRefuge (r : PairIx) (h : L s) : L (reformRefuge r s) := by
  simp only [Machine.reformRefuge]; split
  · exact h
  · exact keeps.loosen (keeps.localLevel _ (keeps.looseSame h rfl))
theorem reformRefuge (r : PairIx) (h : P s) : P (reformRefuge r s) := by
  simp only [Machine.reformRefuge]; split
  · exact h
  · exact keeps.contribution h rfl
theorem changeRoll (r : PairIx) (y : Refuge) (state : y.state = (s.refuges.get r).state) (h : P s) : P (changeRoll r y s) := by
  simp only [Machine.changeRoll, notifyOccupied]; split
  · exact h
  · refine keeps.reformRefuge r (keeps.same h ?_)
    split <;> simp [levelPart_setRefuge s r y state]
end LevelKeeps

/-- R168: a panel's message changes nothing but what its record's own work changes. -/
theorem deliverRefuge_of {P : State → Prop} {s : State} (p : SpurId) {f : PairIx → State → State} (work : ∀ r, P s → P (f r s))
    (h : P s) : P (deliverRefuge p f s) := by
  unfold deliverRefuge; split
  · exact work _ h
  · exact h
theorem checkin_state (x : Refuge) (t : Nat) : (x.checkin t).state = x.state := by
  unfold Refuge.checkin; repeat' split
  all_goals rfl
theorem checkout_state (x : Refuge) (t : Nat) : (x.checkout t).state = x.state := by
  unfold Refuge.checkout; repeat' split
  all_goals rfl

section
variable (s : State)
@[simp] theorem levelPart_sendPrepare (r : PairIx) : levelPart (sendPrepare r s) = levelPart s := by
  simp only [sendPrepare, levelPart_markIf]
  rw [levelPart_setRefuge _ _ _ (by rfl), levelPart_refugeSpurOffer]
@[simp] theorem levelPart_standdownTest (r : PairIx) : levelPart (standdownTest r s) = levelPart s := by
  simp only [standdownTest]; split
  · rw [levelPart_mark, levelPart_setRefuge _ _ _ (by simp), levelPart_refugeSpurOffer]
  · rfl
@[simp] theorem levelPart_refugesAtLevelBut (stay : PairIx → Bool) (old : Level) :
    levelPart (refugesAtLevelBut stay old s) = levelPart s := by
  simp only [refugesAtLevelBut]; repeat' split
  · exact levelPart_forEach s 2 _ fun r s => by split <;> simp
  · exact levelPart_forEach s 2 _ fun r s => by split <;> simp
  · rfl
@[simp] theorem levelPart_setDistress (r : PairIx) (b : Bool) : levelPart (setDistress r b s) = levelPart s := by
  simp only [setDistress]; split
  · rfl
  · exact levelPart_setRefuge s r _ rfl
@[simp] theorem levelPart_panelStartUp (r : PairIx) : levelPart (panelStartUp r s) = levelPart s := by simp [panelStartUp]
@[simp] theorem levelPart_notifyOccupied (r : PairIx) (n : Nat) : levelPart (notifyOccupied r n s) = levelPart s := by
  simp only [notifyOccupied]; split <;> simp
@[simp] theorem levelPart_markChannel (c : ChanId) : levelPart (markChannel c s) = levelPart s := by simp [markChannel]
@[simp] theorem levelPart_soundHandsets : levelPart (soundHandsets s) = levelPart s :=
  levelPart_forEach s 8 _ fun p s => by split <;> simp
@[simp] theorem levelPart_setStopTrucks (n : Nat) : levelPart (setStopTrucks n s) = levelPart s := by simp [setStopTrucks]
end

namespace LevelKeeps
variable {L P : State → Prop} (keeps : LevelKeeps L P) {s t : State}
include keeps

theorem refugeCheckin (r : PairIx) (n : Nat) (h : P s) : P (refugeCheckin r n s) :=
  keeps.changeRoll r _ (checkin_state _ n) h
theorem refugeCheckout (r : PairIx) (n : Nat) (h : P s) : P (refugeCheckout r n s) := by
  simp only [Machine.refugeCheckout]
  generalize ((s.refuges.get r).occupancy != 0 && ((s.refuges.get r).checkout n).occupancy == 0) = emptied
  cases emptied
  · exact keeps.same (keeps.changeRoll r _ (checkout_state _ n) h) (by simp)
  · exact keeps.same (keeps.changeRoll r { (s.refuges.get r).checkout n with distress := false } (checkout_state _ n) h) (by simp)
theorem refugeDoor (r : PairIx) (v : Nat) (h : P s) : P (refugeDoor r v s) := by
  simp only [Machine.refugeDoor]; split
  · exact h
  · exact keeps.reformRefuge r (keeps.same h (levelPart_setRefuge s r _ rfl))
theorem refugeDistress (r : PairIx) (h : P s) : P (refugeDistress r s) := by
  simp only [Machine.refugeDistress]
  refine keeps.reformRefuge r (keeps.same h ?_)
  split <;> simp
theorem prepareAction (r : PairIx) (h : P s) : P (prepareAction r s) :=
  keeps.reformRefuge r (keeps.same h (by simp))
theorem refugesAtChannel (c : ChanId) (h : L s) : L (refugesAtChannel c s) :=
  forEach_invariant L 2 _ (fun r s h => by
    simp only; split
    · exact keeps.looseReformRefuge r h
    · exact h) s h
theorem takeCauseOpt (c : Option Cause) (h : L s) : L (takeCauseOpt c s) := by
  cases c with
  | none => exact h
  | some c => exact keeps.loosen (keeps.cause _ c h)
/-- R18, R19: an entry's state is replaced, and its changed status handed over. -/
theorem changeChan (c : ChanId) (x : Channel) (h : P s) : P (changeChan c x s) := by
  by_cases same : x.status = (s.air.get c).status
  · rw [changeChan_same same]
    exact keeps.same h (levelPart_setChan s c x same)
  · simp only [Machine.changeChan, statusChanged]
    rw [if_neg (by simpa using same)]
    exact keeps.localLevel _ (keeps.refugesAtChannel c (keeps.takeCauseOpt _
      (keeps.looseSame' (s := s.setChan c x) (keeps.loose_of_formedPart h rfl) (by simp))))
theorem takeReading (p : SpurId) (sub raw q : Nat) (h : P s) : P (takeReading p sub raw q s) := by
  unfold Machine.takeReading; split
  · exact h
  · exact keeps.changeChan _ _ h
theorem chanFault (c : ChanId) (h : P s) : P (chanFault c s) := keeps.changeChan c _ h
theorem setTruckAlarm (a : Option Nat) (h : P s) : P (setTruckAlarm a s) := keeps.contribution h rfl
theorem takeTruckStatus (p : SpurId) (n st : Nat) (h : P s) : P (takeTruckStatus p n st s) := by
  simp only [Machine.takeTruckStatus]
  generalize (if n = 0 ∨ 4095 < n then none else truckReportOf st) = o
  cases o with
  | none => exact h
  | some r =>
    have recorded : P ((s.setBlocks { s.blocks with truckLast := s.blocks.truckLast.put p (some (n, r, s.line.cycle)) }).mark
      (.truck p)) := keeps.same h (levelPart_setBlocks s _ rfl)
    simp only; split
    · exact recorded
    · exact keeps.same (keeps.setTruckAlarm _ recorded) (levelPart_mark _ _)
theorem clearTruckAlarm (h : P s) : P (clearTruckAlarm s) := by
  unfold Machine.clearTruckAlarm; split
  · exact h
  · exact forEach_invariant P 8 _ (fun p s h => by
      split
      · exact keeps.same h (levelPart_markIf s _ _)
      · exact h) _ (keeps.setTruckAlarm none h)

/-! ### The Action Unit -/

theorem runAction (a : Action) (h : P s) : P (runAction a s).1 := by
  cases a with
  | setOutput o f => exact keeps.force o f h
  | soundHandsets => simp only [Machine.runAction]; exact keeps.same h (levelPart_soundHandsets s)
  | closeBlock id =>
    simp only [Machine.runAction]; split
    · exact keeps.same h (levelPart_closeBlock s _)
    · exact h
  | raiseLevel l => exact keeps.contribution h rfl
  | setTrip => exact keeps.cause _ _ (keeps.loosen h)
  | clearCallsAbove n => simp only [Machine.runAction]; exact keeps.same h (levelPart_clearWhere s _ _)
  | refugePrepare r =>
    simp only [Machine.runAction]; split
    · exact keeps.prepareAction r h
    · exact h
  | stopTrucks => simp only [Machine.runAction]; exact keeps.same h (levelPart_setStopTrucks s _)
  | sendNote c => exact keeps.same h rfl
/-- R146: so the Action Unit's work keeps it. -/
theorem actions : KeptByActions P where
  unit _ _ h := keeps.same h rfl
  triggers _ _ h := keeps.same h rfl
  note _ h := keeps.same h rfl
  action a _ h := keeps.runAction a h
theorem settle (h : P s) : P (settle s) := keeps.actions.settle h
theorem evalLists (h : P s) : P (evalLists s) := by
  unfold Machine.evalLists; split
  · exact keeps.settle (keeps.actions.evalList 1 (keeps.actions.evalList 0 h))
  · exact h
theorem armEntry (a : Action) (c : QueueCond) (h : P s) : P (armEntry a c s) := by
  simp only [Machine.armEntry]; split
  · exact keeps.actions.examineHead 8 (keeps.same h rfl)
  · exact keeps.same h rfl

/-! ### Contacts -/

theorem contactChanged (i : PairIx) (b : Bool) (h : P s) : P (contactChanged i b s) := by
  have moved : L (((s.setLevel { s.level with contacts := s.level.contacts.put i { active := b, run := 0 } }).mark .level).notify
    (.contact i)) := keeps.loose_of_formedPart h rfl
  simp only [Machine.contactChanged]; split
  · exact keeps.cause _ _ moved
  · exact keeps.localLevel _ moved

/-! ### Spurs -/

theorem airSpurLost (p : SpurId) (h : P s) : P (airSpurLost p s) :=
  forEach_invariant P 16 _ (fun c s h => by
    split
    · exact keeps.settle (keeps.chanFault c h)
    · exact h) s h
theorem refugeSpurLost (p : SpurId) (h : P s) : P (refugeSpurLost p s) := by
  unfold Machine.refugeSpurLost; split
  · exact keeps.reformRefuge _ h
  · exact h
theorem refugeSpurUp (p : SpurId) (h : P s) : P (refugeSpurUp p s) := by
  unfold Machine.refugeSpurUp; split
  · exact keeps.same (keeps.reformRefuge _ h) (levelPart_panelStartUp _ _)
  · exact h
theorem ownerLost (ty : SpurType) (p : SpurId) (s0 : State) (h : P s) : P (ownerLost ty p s0 s) := by
  cases ty with
  | off => exact h
  | gas => exact keeps.airSpurLost p h
  | voice => exact keeps.same h (levelPart_callsSpurLost s p)
  | truck => exact keeps.same h (levelPart_blocksSpurLost s p s0)
  | refuge => exact keeps.refugeSpurLost p h
theorem ownerUp (ty : SpurType) (p : SpurId) (s0 : State) (h : P s) : P (ownerUp ty p s0 s) := by
  cases ty with
  | off => exact h
  | gas => exact h
  | voice => exact keeps.same h rfl
  | truck => exact keeps.same h (levelPart_blocksSpurUp s p s0)
  | refuge => exact keeps.refugeSpurUp p h
theorem leaveUp (ty : SpurType) (p : SpurId) (st : SpurState) (h : P s) : P (leaveUp ty p st s) :=
  keeps.ownerLost ty p s (keeps.same h rfl)
theorem enterUp (p : SpurId) (h : P s) : P (enterUp p s) := keeps.ownerUp _ p s (keeps.same h rfl)
theorem takeHello (p : SpurId) (ty : HeadType) (h : P s) : P (takeHello p ty s) := by
  have offered : P (s.setSpur p { s.spurs.get p with offered := some ty }) := keeps.same h rfl
  simp only [Machine.takeHello]
  generalize judged : (if State.spurUp _ p then Machine.settle _ else _ : State) = u
  have hu : P u := by
    rw [← judged]; split
    · exact keeps.settle (keeps.leaveUp _ p .starting offered)
    · exact offered
  simp only [judgeHello, enterSpur]; repeat' split
  · exact keeps.enterUp p hu
  · exact keeps.same hu rfl
  · exact keeps.same hu rfl
theorem deliver (p : SpurId) (m : HeadMsg) (h : P s) : P (deliver p m s) := by
  cases m with
  | hello ty => exact keeps.takeHello p _ h
  | reading sub raw q => exact keeps.takeReading p sub raw q h
  | offhook => exact keeps.same h (levelPart_takeOffhook s p)
  | onhook => exact keeps.same h (levelPart_takeOnhook s p)
  | digit d => exact keeps.same h (levelPart_takeDigit s p d)
  | tag n sense => exact keeps.same h (by simp only [Machine.deliver, deliverTag]; split <;> simp)
  | truckStatus n st => exact keeps.takeTruckStatus p n st h
  | door v => exact deliverRefuge_of p (fun r => keeps.refugeDoor r v) h
  | checkin n => exact deliverRefuge_of p (fun r => keeps.refugeCheckin r n) h
  | checkout n => exact deliverRefuge_of p (fun r => keeps.refugeCheckout r n) h
  | distress => exact deliverRefuge_of p keeps.refugeDistress h
theorem takeMsg (p : SpurId) (m : HeadMsg) (h : P s) : P (takeMsg p m s) := by
  unfold Machine.takeMsg; split
  · exact keeps.deliver p m h
  · exact keeps.same h rfl
end LevelKeeps

@[simp] theorem levelPart_validFrame (p : SpurId) (s : State) : levelPart (validFrame p s) = levelPart s := by
  simp only [validFrame]; split <;> rfl
@[simp] theorem levelPart_keepVoice (p : SpurId) (v : List Octet) (s : State) : levelPart (keepVoice p v s) = levelPart s := by
  unfold keepVoice; split <;> rfl

namespace LevelKeeps
variable {L P : State → Prop} (keeps : LevelKeeps L P) {s t : State}
include keeps

theorem headMessage (p : SpurId) (m : HeadMsg) (h : P s) : P (headMessage p m s) := by
  unfold Machine.headMessage; split
  · exact h
  · exact keeps.takeMsg p m (keeps.same h (levelPart_validFrame p s))
theorem takeFrame (p : SpurId) (f : List Octet) (h : P s) : P (takeFrame p f s) := by
  have framed : P (Machine.keepVoice p (frameVoice f) (validFrame p s)) := keeps.same h (by simp)
  unfold Machine.takeFrame; split
  · exact h
  · split
    · simp only; split
      · exact framed
      · exact keeps.same framed rfl
      · exact keeps.takeMsg p _ framed
    · exact keeps.same h rfl
theorem silenceTimeout (p : SpurId) (h : P s) : P (silenceTimeout p s) := by
  have timed : P (s.setSpur p { s.spurs.get p with silence := 500 }) := keeps.same h rfl
  simp only [Machine.silenceTimeout, enterSpur]; repeat' split
  · exact keeps.leaveUp _ p .down timed
  · exact keeps.same timed rfl
  · exact h
theorem retypeSpur (old ty : SpurType) (p : SpurId) (h : P s) : P (retypeSpur old ty p s) := by
  simp only [Machine.retypeSpur]; split
  · exact keeps.same (keeps.leaveUp old p _ h) rfl
  · exact keeps.same h rfl
theorem loadSpur (p : SpurId) (c : SpurCfg) (h : P s) : P (loadSpur p c s) := by
  simp only [Machine.loadSpur]; repeat' split
  · exact keeps.same h rfl
  · refine keeps.same (keeps.retypeSpur (s.working.spurs.get p).type c.type p h) ?_
    exact levelPart_reformLights _
  · exact keeps.same h rfl
theorem spursUncommissioned (tb : Tables) (h : P s) : P (spursUncommissioned tb s) := by
  have off : levelPart (forEach 8 (fun p s =>
      if (s.spurs.get p).state = .off then s else (s.setSpur p ((s.spurs.get p).reset .off)).mark (.spur p)) s) = levelPart s :=
    levelPart_forEach s 8 _ fun p s => by split <;> rfl
  exact forEach_invariant P 8 _ (fun p t h => by
    split
    · exact keeps.ownerLost _ p s h
    · exact h) _ (keeps.same h off)
theorem spurCommissioned (p : SpurId) (h : P s) : P (spurCommissioned p s) := by
  unfold Machine.spurCommissioned; split
  · exact h
  · exact keeps.retypeSpur _ _ p h

end LevelKeeps

/-! ### The line ports -/

section
variable (s : State)
@[simp] theorem levelPart_dropPartial : levelPart (dropPartial s) = levelPart s := by
  unfold dropPartial; split <;> rfl
@[simp] theorem levelPart_setPosition (p : Option Nat) : levelPart (setPosition p s) = levelPart s := by
  unfold setPosition; split <;> rfl
@[simp] theorem levelPart_setInbyeNeighbour (p : Option Nat) (e : Option Bool) :
    levelPart (setInbyeNeighbour p e s) = levelPart s := by
  unfold setInbyeNeighbour; split <;> rfl
@[simp] theorem levelPart_setEndOfLine (b : Bool) : levelPart (setEndOfLine b s) = levelPart s := by
  unfold setEndOfLine; split <;> rfl
/-- R29, R61: autonomy moves the ordered-level source, which forms nothing. -/
@[simp] theorem levelPart_setAutonomous (b : Bool) : levelPart (setAutonomous b s) = levelPart s := by
  simp only [setAutonomous]; repeat' split
  · rfl
  · exact levelPart_callsAutonomous _
  · exact levelPart_resetRequested _
@[simp] theorem levelPart_discardQueue (n : Nat) : levelPart (discardQueue n s) = levelPart s := rfl
@[simp] theorem levelPart_portLost (d : Side) : levelPart (portLost d s) = levelPart s := by
  cases d <;> simp [portLost]
@[simp] theorem levelPart_windowEnd : levelPart (windowEnd s) = levelPart s := by
  unfold windowEnd; split <;> simp [closeWindow]
@[simp] theorem levelPart_fillMissing : levelPart (fillMissing s) = levelPart s :=
  levelPart_forEach s 60 _ fun e s => by split <;> simp
@[simp] theorem levelPart_sendCycle : levelPart (sendCycle s) = levelPart s := rfl
theorem tickStale_status (b : Bool) (c : ChanCfg) (x : Channel) : (tickStale b c x).status = x.status := by
  unfold tickStale; split <;> rfl
theorem sampleContact_active (b : Bool) (c : Contact) : (sampleContact b c).active = c.active := by
  unfold sampleContact; repeat' split
  all_goals rfl
/-- R16, R41: a cycle moves counts, and no status and no active state. -/
@[simp] theorem levelPart_tick (closed : PairIx → Bool) : levelPart (tick closed s) = levelPart s := by
  have status (c : ChanId) : ((tick closed s).air.get c).status = (s.air.get c).status := by simp [tick, tickStale_status]
  have active (i : PairIx) : ((tick closed s).level.contacts.get i).active = (s.level.contacts.get i).active := by
    simp only [tick, State.tickContacts, Tab.get_mapIx]
    split
    · rfl
    · exact sampleContact_active _ _
  refine levelPart_eq rfl ?_
  simp only [contributions, status, active]
  rfl
end

namespace LevelKeeps
variable {L P : State → Prop} (keeps : LevelKeeps L P) {s t : State}
include keeps

theorem takeMessage (d : Side) (m : Option NMsg) (h : P s) : P (takeMessage d m s) := by
  cases m with
  | none => exact h
  | some m => exact keeps.same (keeps.settle h) (levelPart_takeNeighbour _ d m)
theorem takeSegment (d : Side) (pl : List Octet) (h : P s) : P (takeSegment d pl s) := by
  cases d with
  | inbye =>
    exact keeps.takeMessage _ _ (keeps.same h (levelPart_setInbyeNeighbour (s.setLine { s.line with rxMerged := segLevels pl }) _ _))
  | outbye =>
    simp only [Machine.takeSegment, takeInbyeCell]
    generalize lined : Machine.setAutonomous _ _ = u
    have hu : P u := keeps.same h (by rw [← lined]; simp)
    split
    · exact keeps.takeMessage _ _ (keeps.ordered _ hu)
    · exact keeps.takeMessage _ _ hu
theorem segmentHanded (d : Side) (a : Arrival) (h : P s) : P (segmentHanded d a s) := by
  unfold Machine.segmentHanded; split
  · simp only [goodSegment]; repeat' split
    · exact keeps.takeSegment d _ (keeps.same h (by simp))
    · exact h
    · exact keeps.same h (by simp)
  · exact h
theorem portUp (d : Side) (h : P s) : P (portUp d s) := by
  simp only [Machine.portUp]
  generalize up : State.mark _ .line = u
  have hu : P u := keeps.same h (by rw [← up]; simp)
  have told := keeps.settle (keeps.same hu (levelPart_blocksPortUp u d s))
  cases d with
  | inbye => exact keeps.takeSegment .inbye _ (keeps.same told (levelPart_setEndOfLine _ _))
  | outbye => exact keeps.takeSegment .outbye _ told
theorem portChangeDue (d : Side) (h : P s) : P (portChangeDue d s) := by
  unfold Machine.portChangeDue; repeat' split
  · exact keeps.settle (keeps.same h (levelPart_portLost s d))
  · exact keeps.settle (keeps.portUp d h)
  · exact h
theorem changesDue (h : P s) : P (changesDue s) :=
  forEach_invariant P 8 _ (fun p s h => by
    unfold spurChangeDue; split
    · exact keeps.settle (keeps.silenceTimeout p h)
    · exact h) _ (keeps.portChangeDue _ (keeps.portChangeDue _ h))
theorem lineCycle (closed : PairIx → Bool) (h : P s) : P (lineCycle closed s) :=
  keeps.same (keeps.changesDue h) (by simp [Machine.lineCycle])

/-! ### Table loads -/

theorem reloadChan (c : ChanId) (was : Bool) (old : ChanCfg) (h : P s) : P (reloadChan c was old s) := by
  simp only [Machine.reloadChan]; split
  · next new _ _ =>
    have reloaded : P (s.setChan c (reloadUsed old (s.working.channels.get c) (s.air.get c))) :=
      keeps.same h (levelPart_setChan s c _ (by unfold reloadUsed; split <;> rfl))
    generalize State.chanCause _ c = k
    cases k with
    | none => exact reloaded
    | some k => exact keeps.cause _ k (keeps.loosen reloaded)
  · exact keeps.changeChan _ _ h
  · exact keeps.changeChan _ _ h
  · exact h
theorem moveRefuge (r : PairIx) (n : RefugeCfg) (h : P s) : P (moveRefuge r n s) := by
  simp only [Machine.moveRefuge]
  generalize (s.refugeOn r && (s.refuges.get r).prepared && (s.refuges.get r).occupancy == 0) = standsDown
  generalize told : (if standsDown then Machine.refugeSpurOffer r .refugeStanddown s else s) = u
  have hu : P u := keeps.same h (by rw [← told]; split <;> simp)
  generalize moved : Machine.reformLocal _ = v
  have hv : P v := by
    rw [← moved]
    refine keeps.contribution hu ?_
    obtain ⟨m, replaced⟩ := replaceRefuge_frame r (.start
      ((u.setWorking { u.working with refuges := u.working.refuges.put r n }).refugeOn r))
      (u.setWorking { u.working with refuges := u.working.refuges.put r n })
    rw [formedPart_of_levelPart (levelPart_notifyOccupied _ _ _), replaced]
    rfl
  split
  · split
    · exact keeps.same (keeps.reformRefuge r (keeps.settle hv)) (levelPart_panelStartUp _ _)
    · exact hv
  · exact hv
theorem loadRefugeSame (r : PairIx) (n : RefugeCfg) (same : (s.working.refuges.get r).spur = n.spur) (h : P s) :
    P (s.setWorking { s.working with refuges := s.working.refuges.put r n }) := by
  refine keeps.same h (levelPart_eq rfl ?_)
  have on (q : PairIx) : (s.setWorking { s.working with refuges := s.working.refuges.put r n }).refugeOn q = s.refugeOn q := by
    simp only [State.refugeOn, State.setWorking_working, Tab.get_put]
    split
    next e => rw [e, same]; rfl
    next => rfl
  simp only [contributions, show State.refugeOn (s.setWorking _) = s.refugeOn from funext on]
  rfl
end LevelKeeps

/-! ### Commissioning, loads and restarts -/

section
variable (s : State)
theorem formedPart_replaceRefuge (r : PairIx) (y : Refuge) : formedPart (replaceRefuge r y s) = formedPart s := by
  obtain ⟨m, replaced⟩ := replaceRefuge_frame r y s
  rw [replaced]
  rfl
theorem formedPart_contactNone (i : PairIx) : formedPart (contactNone i s) = formedPart s := by
  simp only [contactNone]; split <;> rfl
@[simp] theorem levelPart_blockCommissioning (i : BlockIx) : levelPart (blockCommissioning i s) = levelPart s := by
  unfold blockCommissioning; split <;> rfl
@[simp] theorem levelPart_notifyReplaced (i : BlockIx) (old : Nat) : levelPart (notifyReplaced i old s) = levelPart s := by
  simp only [notifyReplaced]; split <;> rfl
@[simp] theorem levelPart_readinessLoaded (i : BlockIx) (was : Bool) : levelPart (readinessLoaded i was s) = levelPart s := by
  unfold readinessLoaded; split <;> simp
@[simp] theorem levelPart_actionUncommissioned : levelPart (actionUncommissioned s) = levelPart s := by
  simp [actionUncommissioned]
end

/-- `formed` as in `LevelKeeps`, and `latched` what stands of it while the tables are replaced and nothing is formed: a property of the
latch alone, from which forming everything again restores `formed`, and which power-on does not need. -/
structure LevelRelation (latched loose formed : State → Prop) : Prop where
  inner   : LevelKeeps loose formed
  outer   : LevelKeeps latched latched
  weaken  : ∀ {s}, formed s → latched s
  latch   : ∀ {s t}, latched s → t.level.latch = s.level.latch → t.level.firstCause = s.level.firstCause → latched t
  whole   : ∀ {s} stay, latched s → formed (reformAllBut stay s)
  powerOn : ∀ store pending n, formed (formQuietly (State.poweredOn store pending n))

namespace LevelRelation
variable {A L P : State → Prop} (relation : LevelRelation A L P) {s t : State}
include relation

theorem sameFormed (h : A s) (e : formedPart t = formedPart s) : A t :=
  relation.latch h (latch_of_formedPart e) (firstCause_of_formedPart e)
theorem contactRoles (stay : PairIx → Bool) (old : PairIx → Role) (h : A s) : A (contactRolesBut stay old s) := by
  simp only [contactRolesBut]
  refine relation.outer.localLevel stay (forEach_invariant A 2 _ (fun i s h => ?_) _ (forEach_invariant A 2 _ (fun i s h => ?_) _ h))
  · split
    · exact relation.outer.cause stay _ h
    · exact h
  · split
    · exact relation.sameFormed h (formedPart_contactNone s i)
    · exact h
theorem commissioningChanged (tb : Tables) (was : Bool) (h : A s) : A (commissioningChanged tb was s) := by
  simp only [Machine.commissioningChanged]
  generalize spurs : (if was then Machine.spursUncommissioned tb s else forEach 8 Machine.spurCommissioned s) = u
  have hu : A u := by
    rw [← spurs]; split
    · exact relation.outer.spursUncommissioned tb h
    · exact forEach_invariant A 8 _ (fun p s => relation.outer.spurCommissioned p) s h
  have refuges : A (forEach 2 refugeCommissioning u) :=
    forEach_invariant A 2 _ (fun r s h => relation.sameFormed h (formedPart_replaceRefuge s r _)) u hu
  have blocks : A (reformLights (forEach 4 blockCommissioning (forEach 2 refugeCommissioning u))) :=
    relation.outer.same refuges
      ((levelPart_reformLights _).trans (levelPart_forEach _ 4 _ fun i s => levelPart_blockCommissioning s i))
  exact forEach_invariant A 16 _ (fun c s h => relation.outer.reloadChan c _ _ h) _ blocks
theorem applyCommission (c : Commission) (h : P s) : P (applyCommission c s) := by
  simp only [Machine.applyCommission]
  generalize spaced : (if c.spacing = s.working.commission.spacing then _ else _ : State) = u
  have hu : A u := relation.latch (relation.weaken h) (by rw [← spaced]; split <;> rfl) (by rw [← spaced]; split <;> rfl)
  generalize (u.commissioned != s.commissioned) = changed
  generalize acted : (if changed then Machine.commissioningChanged s.working s.commissioned u else u) = v
  have hv : A v := by
    rw [← acted]; split
    · exact relation.commissioningChanged _ _ hu
    · exact hu
  have formed : P ((reformAll (contactRolesBut (fun _ => false) s.roleInForce v)).markIf changed .level) :=
    relation.inner.same (relation.whole _ (relation.contactRoles _ _ hv)) (levelPart_markIf _ _ _)
  repeat' split
  · exact formed
  · exact relation.inner.same formed (levelPart_actionUncommissioned _)
  · exact relation.inner.evalLists formed
theorem loadBlock (i : BlockIx) (n : BlockCfg) (h : P s) (e : loadBlock i n s = .ok t) : P t := by
  unfold Machine.loadBlock at e
  repeat' split at e
  · cases e
  · cases e
  · cases e
  · rw [← Except.ok.inj e]
    have written : P (s.setWorking { s.working with blocks := s.working.blocks.put i n }) := relation.inner.same h rfl
    refine relation.inner.same written ?_
    rw [levelPart_readinessLoaded, levelPart_reformLights, levelPart_notifyReplaced, levelPart_mark, levelPart_replaceBlock]
theorem loadChannel (c : ChanId) (n : ChanCfg) (h : P s) (e : loadChannel c n s = .ok t) : P t := by
  simp only [Machine.loadChannel] at e
  repeat' split at e
  all_goals cases e
  exact relation.inner.reloadChan c _ _ (relation.inner.same h rfl)
theorem loadRefuge (r : PairIx) (n : RefugeCfg) (h : P s) (e : loadRefuge r n s = .ok t) : P t := by
  have marked : P (s.mark (.refuge r)) := relation.inner.same h rfl
  simp only [Machine.loadRefuge] at e
  repeat' split at e
  all_goals cases e
  · next same => exact relation.inner.reformRefuge r (relation.inner.loadRefugeSame r n same marked)
  · exact relation.inner.moveRefuge r n marked
theorem loadLevelMap (k : Fin 5) (m : Nat) (h : P s) (e : loadLevelMap k m s = .ok t) : P t := by
  simp only [Machine.loadLevelMap] at e
  split at e
  all_goals cases e
  exact relation.inner.mask _ h
theorem loadTrigger (x : PairIx) (n : TriggerCfg) (h : P s) : P (loadTrigger x n s) := by
  simp only [Machine.loadTrigger, triggerLoaded]
  generalize loaded : State.mark _ .action = u
  have hu : P u := relation.inner.same h (by rw [← loaded]; rfl)
  split
  · exact relation.inner.actions.evalList x hu
  · exact hu
end LevelRelation

theorem withEntry_ok {α : Type} {o : Option α} {f : α → Except Result State} {t : State} (e : withEntry o f = .ok t) :
    ∃ a, f a = .ok t := by
  cases o with
  | none => cases e
  | some a => exact ⟨a, e⟩
theorem withIx_ok {n k : Nat} {f : Fin n → Except Result State} {t : State} (e : withIx n k f = .ok t) : ∃ i, f i = .ok t := by
  unfold withIx at e
  split at e
  · exact ⟨_, e⟩
  · cases e

namespace LevelRelation
variable {A L P : State → Prop} (relation : LevelRelation A L P) {s t : State}
include relation

theorem applyEntry (tb : Table) (k : Nat) (b : List Octet) (h : P s) (e : applyEntry tb k b s = .ok t) : P t := by
  cases tb with
  | commission => obtain ⟨c, e⟩ := withEntry_ok e; cases e; exact relation.applyCommission c h
  | levelMap =>
    simp only [Machine.applyEntry] at e
    split at e
    · exact relation.loadLevelMap _ _ h e
    · cases e
  | spurs => obtain ⟨p, e⟩ := withIx_ok e; obtain ⟨c, e⟩ := withEntry_ok e; cases e; exact relation.inner.loadSpur p c h
  | channels => obtain ⟨c, e⟩ := withIx_ok e; obtain ⟨n, e⟩ := withEntry_ok e; exact relation.loadChannel c n h e
  | blocks => obtain ⟨i, e⟩ := withIx_ok e; obtain ⟨n, e⟩ := withEntry_ok e; exact relation.loadBlock i n h e
  | refuges => obtain ⟨r, e⟩ := withIx_ok e; obtain ⟨n, e⟩ := withEntry_ok e; exact relation.loadRefuge r n h e
  | triggers => obtain ⟨x, e⟩ := withIx_ok e; obtain ⟨n, e⟩ := withEntry_ok e; cases e; exact relation.loadTrigger x n h
  | _ => cases e
theorem loadEntries (tb : Table) (size n k : Nat) (l : List Octet) (h : P s) : P (loadEntries tb size n k l s).1 := by
  induction n generalizing k l s with
  | zero => exact h
  | succ n ih =>
    unfold Machine.loadEntries
    split
    · exact h
    · next t e => exact ih _ _ (relation.inner.settle (relation.applyEntry tb k _ h e))

/-! ### Orders -/

theorem orderTableLoad (tb first n : Nat) (l : List Octet) (h : P s) : P (orderTableLoad tb first n l s).state := by
  have loaded (tb : Table) (size : Nat) : P (loadAnswer (Machine.loadEntries tb size n first l s)).state := by
    unfold loadAnswer
    split <;> exact relation.loadEntries tb size n first l h
  unfold Machine.orderTableLoad
  split
  · exact h
  · split
    · exact h
    · repeat' split
      · exact h
      · exact h
      · exact h
      · exact loaded _ _
end LevelRelation

section
variable (s : State)
@[simp] theorem levelPart_orderUnlock (code : Nat) : levelPart (orderUnlock code s).state = levelPart s := by
  unfold orderUnlock; repeat' split
  all_goals rfl
@[simp] theorem levelPart_orderAssignOrigin (index n slot far : Nat) :
    levelPart (orderAssignOrigin index n slot far s).state = levelPart s := by
  unfold orderAssignOrigin; repeat' split
  all_goals simp [answer]
@[simp] theorem levelPart_orderAssignDestination (p k slot far : Nat) :
    levelPart (orderAssignDestination p k slot far s).state = levelPart s := by
  unfold orderAssignDestination; repeat' split
  all_goals simp [answer]
@[simp] theorem levelPart_orderConnect (index n : Nat) : levelPart (orderConnect index n s).state = levelPart s := by
  simp only [orderConnect]; repeat' split
  all_goals simp [answer]
@[simp] theorem levelPart_orderRelease (index n : Nat) : levelPart (orderRelease index n s).state = levelPart s := by
  unfold orderRelease; split <;> simp [answer]
@[simp] theorem levelPart_orderRefuse (index n k : Nat) : levelPart (orderRefuse index n k s).state = levelPart s := by
  simp only [orderRefuse]; repeat' split
  all_goals simp [answer]
@[simp] theorem levelPart_orderBlockOpen (id clear : Nat) : levelPart (orderBlockOpen id clear s).state = levelPart s := by
  unfold orderBlockOpen; repeat' split
  all_goals simp [answer]
@[simp] theorem levelPart_orderBlockClose (id : Nat) : levelPart (orderBlockClose id s).state = levelPart s := by
  unfold orderBlockClose; split <;> simp [answer]
@[simp] theorem levelPart_reply (h : OrderHdr) (code : Nat) (a : Answer) : levelPart (reply h code a) = levelPart a.state := by
  unfold reply; split <;> rfl
@[simp] theorem levelPart_refreshAccess (o : Order) : levelPart (refreshAccess o s) = levelPart s := by
  unfold refreshAccess; split <;> rfl
@[simp] theorem levelPart_reportSent (x : Source) : levelPart (reportSent x s) = levelPart s := by
  cases x with
  | channel c => exact levelPart_setChan s c _ rfl
  | call r => simp only [reportSent]; split <;> rfl
  | _ => rfl
@[simp] theorem levelPart_earnCredit : levelPart (earnCredit s) = levelPart s := by
  unfold earnCredit; split <;> rfl
/-- R178: a fill reads the levels and moves none. -/
@[simp] theorem levelPart_outbyeFill : levelPart (outbyeFill s) = levelPart s := by
  have chosen (s : State) : levelPart (chooseMessage s) = levelPart s := by
    unfold chooseMessage; split
    · rfl
    · split
      · rfl
      · split
        · exact levelPart_reportSent _ _
        · rfl
  have filled (a : Nat × Nat) (s : State) : levelPart (fillCell a s) = levelPart s := by
    unfold fillCell; split <;> rfl
  unfold outbyeFill fillOutbye; split
  · rw [filled, chosen, levelPart_earnCredit]
  · exact levelPart_earnCredit s
@[simp] theorem levelPart_completeCommit : levelPart (completeCommit s) = levelPart s := by
  unfold completeCommit; repeat' split
  · exact levelPart_reply _ _ _
  all_goals rfl
end

namespace LevelRelation
variable {A L P : State → Prop} (relation : LevelRelation A L P) {s t : State}
include relation

/-- R176: an order's owner keeps the relation; TRIP RESET does where a reset of the latch does. -/
theorem runOrder (prep : Bool) (hdr : OrderHdr) (o : Order) (resets : o = .tripReset → ∀ {s}, P s → P (clearLatch s)) (h : P s) :
    P (runOrder prep hdr o s).state := by
  cases o with
  | tableRead tb f n =>
    simp only [Machine.runOrder, orderTableRead]; repeat' split
    all_goals exact h
  | tableLoad tb f n l => exact relation.orderTableLoad tb f n l h
  | historyRead c i n =>
    simp only [Machine.runOrder, orderHistoryRead]; repeat' split
    all_goals exact h
  | restart =>
    simp only [Machine.runOrder, orderRestart]; split
    · exact h
    · exact relation.inner.same h rfl
  | unlock c => exact relation.inner.same h (levelPart_orderUnlock s c)
  | lock => exact relation.inner.same h rfl
  | callAssignOrigin r n sl f => exact relation.inner.same h (levelPart_orderAssignOrigin s r n sl f)
  | callAssignDestination p k sl f => exact relation.inner.same h (levelPart_orderAssignDestination s p k sl f)
  | callConnect r n => exact relation.inner.same h (levelPart_orderConnect s r n)
  | callRelease r n => exact relation.inner.same h (levelPart_orderRelease s r n)
  | callRefuse r n k => exact relation.inner.same h (levelPart_orderRefuse s r n k)
  | tripPrepare => exact relation.inner.same h rfl
  | tripReset =>
    simp only [Machine.runOrder, orderTripReset]; split
    · exact resets rfl h
    · exact h
  | blockOpen b c => exact relation.inner.same h (levelPart_orderBlockOpen s b c)
  | blockClose b => exact relation.inner.same h (levelPart_orderBlockClose s b)
  | arm a0 a1 a2 c0 c1 c2 c3 =>
    simp only [Machine.runOrder, orderArm]; repeat' split
    case h_1.isFalse => exact relation.inner.armEntry _ _ h
    all_goals exact h
  | levelClear => exact relation.inner.contribution h rfl
  | truckClear => exact relation.inner.clearTruckAlarm h
  | outputSet o f =>
    simp only [Machine.runOrder, orderOutputSet]; split
    · exact relation.inner.force _ _ h
    · exact h
  | _ => exact h
theorem takeOrder (hdr : OrderHdr) (o : Order) (resets : o = .tripReset → ∀ {s}, P s → P (clearLatch s)) (h : P s) :
    P (takeOrder hdr o s) := by
  have replied (code : Nat) (a : Answer) (h : P a.state) : P (reply hdr code a) :=
    relation.inner.same h (levelPart_reply hdr code a)
  unfold Machine.takeOrder; split
  · exact relation.inner.same h rfl
  · generalize s.mgmt.prepare = prep
    generalize unprepared : s.setMgmt { s.mgmt with prepare := false } = u
    have hu : P (refreshAccess o u) := relation.inner.same h (by rw [levelPart_refreshAccess, ← unprepared]; rfl)
    simp only [judgeOrder]
    split
    · exact replied _ _ hu
    · exact replied _ _ hu
    · split
      · exact replied _ _ hu
      · split
        · exact replied _ _ hu
        · exact relation.inner.same hu rfl
    · split
      · exact replied _ _ hu
      · exact replied _ _ (relation.runOrder prep hdr o resets hu)

/-! ### Cells -/

theorem mgmtHanded (d : Side) (a : Arrival) (resets : (d = .outbye ∧ ∃ pl, a = .occupied pl) → ∀ {s}, P s → P (clearLatch s)) (h : P s) :
    P (mgmtHanded d a s) := by
  unfold Machine.mgmtHanded
  split
  · next pl =>
    have reset {s : State} : P s → P (clearLatch s) := resets ⟨rfl, pl, rfl⟩
    have taken (hdr : OrderHdr) (o : Order) {s : State} (h : P s) : P (Machine.takeOrder hdr o s) :=
      relation.takeOrder hdr o (fun _ => reset) h
    have appended (last : Bool) (hd : MgmtHeader) (body : List Octet) {s : State} (h : P s) : P (appendCell last hd body s) := by
      unfold appendCell; repeat' split
      · exact relation.inner.same h rfl
      · exact relation.inner.same h (levelPart_dropPartial s)
      · exact taken _ _ (relation.inner.same h (levelPart_dropPartial s))
      · exact taken _ _ (relation.inner.same h rfl)
      · exact relation.inner.same h rfl
    have assembled (hd : MgmtHeader) (body : List Octet) {s : State} (h : P s) : P (assembleCell hd body s) := by
      unfold assembleCell; split
      · exact taken _ _ (relation.inner.same h (levelPart_dropPartial s))
      · exact relation.inner.same h (levelPart_dropPartial s)
      · exact appended _ _ _ h
      · exact appended _ _ _ h
    simp only [inbyeMgmt]; split
    · exact relation.inner.same h rfl
    · split
      · exact assembled _ _ (relation.inner.same h rfl)
      · exact relation.inner.same h rfl
  · exact relation.inner.same h rfl
  · exact relation.inner.same h (levelPart_dropPartial _)
  · exact relation.inner.same h rfl
  · exact h
end LevelRelation

theorem found_eq_atCell (x : LinePort) : found x = x.atCell := by
  by_cases framed : x.framed = true <;> by_cases run : x.errRun = 32
  · rw [LinePort.atCell_due framed run, found, if_pos ⟨framed, run⟩]
  · rw [LinePort.atCell_run run, found, if_neg (fun h => run h.2)]
  · rw [LinePort.atCell_hunt (by simpa using framed), found, if_neg (fun h => framed h.1)]
  · rw [LinePort.atCell_run run, found, if_neg (fun h => run h.2)]
/-- R49: an occupied cell is handed over by a FRAMED port alone, and passed on by an UP one. -/
theorem framed_up_of_occupied {x : LinePort} {place : Nat} {c pl : List Octet}
    (h : x.maskLost (x.handed place c) = .occupied pl) : x.framed = true ∧ x.up = true := by
  unfold LinePort.maskLost LinePort.handed at h
  split at h
  · split at h
    · next up framed => exact ⟨framed, up⟩
    · cases h
  · cases h

section
variable (s : State)
theorem levelPart_restartSpur (old : SpurType) (p : SpurId) : levelPart (restartSpur old p s) = levelPart s := by
  simp only [restartSpur]; split <;> rfl
theorem formedPart_restartBlocks (was : BlockIx → Bool) : formedPart (restartBlocks was s) = formedPart s :=
  (formedPart_of_levelPart (levelPart_forEach _ 4 _ fun i s => by simp)).trans (formedPart_setBlocks s _)
theorem levelPart_restartAction : levelPart (restartAction s) = levelPart s := rfl
theorem formedPart_restartChan (became : Bool) (c : ChanId) : formedPart (restartChan became c s) = formedPart s := by
  simp only [restartChan]; split <;>
    simp only [formedPart_of_levelPart (levelPart_notify _ _), formedPart_of_levelPart (levelPart_markIf _ _ _), formedPart_setChan]
theorem formedPart_restartRefuge (same : Bool) (r : PairIx) : formedPart (restartRefuge same r s) = formedPart s :=
  (formedPart_of_levelPart (levelPart_notifyOccupied _ r _)).trans rfl
/-- R102, R130, R144, R172: what the owners send after a restart are messages. -/
theorem levelPart_restartSends : levelPart (restartSends s) = levelPart s := by
  have spurs (s : State) : levelPart (forEach 8 (fun p s => (s.setSpur p (s.spurs.get p).restart).mark (.spur p)) s) = levelPart s :=
    levelPart_forEach s 8 _ fun p s => rfl
  have handsets (s : State) : levelPart (restartHandsets s) = levelPart s :=
    (levelPart_forEach _ 8 _ fun p s => by split <;> simp).trans (levelPart_forEach s 8 _ fun p s => by split <;> simp)
  have trucks (s : State) : levelPart (restartTrucks s) = levelPart s := levelPart_forEach s 8 _ fun p s => by split <;> simp
  have panels (s : State) : levelPart (restartPanels s) = levelPart s :=
    levelPart_forEach s 2 _ fun r s => by split <;> (try split) <;> simp
  rw [restartSends, panels, trucks, handsets, spurs]
end

namespace LevelRelation
variable {A L P : State → Prop} (relation : LevelRelation A L P) {s t : State}
include relation

/-- R48, R49: a cell keeps the relation; one that can complete an order does where a reset of the latch does. -/
theorem cellArrives (d : Side) (place : Nat) (c : List Octet)
    (resets : (d = .outbye ∧ (found (s.port d)).framed = true ∧ (found (s.port d)).up = true ∧ (found (s.port d)).expected place = 0) →
      ∀ {s}, P s → P (clearLatch s)) (h : P s) : P (cellArrives d place c s) := by
  rw [found_eq_atCell] at resets
  have arrived : P (s.setPort d ((s.port d).atCell.arrive place c)) := relation.inner.same h (levelPart_setPort s d _)
  simp only [Machine.cellArrives]; split
  · exact relation.inner.same arrived (levelPart_switchCell _ _ _)
  · split
    · next slot0 =>
      refine relation.mgmtHanded d _ (fun ⟨outbye, pl, occupied⟩ => ?_) arrived
      obtain ⟨framed, up⟩ := framed_up_of_occupied occupied
      exact resets ⟨outbye, framed, up, slot0⟩
    · exact relation.inner.segmentHanded d _ arrived

/-! ### Power-on and restarts -/

theorem setForces (f : Tab 2 Force) (h : A s) : A (s.setLevel { s.level with force := f }) := relation.latch h rfl rfl
theorem restartState (h : A s) : P (restartState s) := by
  simp only [Machine.restartState]
  generalize roled : contactRolesBut s.restartStays s.roleInForce _ = u
  have hu : A u := by
    rw [← roled]
    refine relation.contactRoles _ _ (relation.setForces _ ?_)
    refine forEach_invariant A 2 _ (fun r s h => relation.sameFormed h (formedPart_restartRefuge s _ r)) _ ?_
    refine forEach_invariant A 16 _ (fun c s h => relation.sameFormed h (formedPart_restartChan s _ c)) _ ?_
    refine relation.outer.same (relation.sameFormed ?_ (formedPart_restartBlocks _ _)) (levelPart_restartAction _)
    refine forEach_invariant A 8 _ (fun p s h => relation.outer.same h (levelPart_restartSpur s _ p)) _ ?_
    exact relation.latch h rfl rfl
  refine relation.inner.same (relation.whole s.restartStays hu) ?_
  simp
theorem restartNode (h : P s) : P (restartNode s) :=
  relation.inner.evalLists (relation.inner.same (relation.restartState (relation.weaken h)) (levelPart_restartSends _))
end LevelRelation

/-! ### Every command -/

/-- The command can bring an order to reset the latch: it is one, or the cell that a FRAMED and UP outbye port takes in slot 0. -/
def MayReset (c : Instr) (s : State) : Prop :=
  (∃ h, c = .tripReset h) ∨ ∃ place l, c = cellRow .outbye place l ∧ (found (s.port .outbye)).framed = true ∧
    (found (s.port .outbye)).up = true ∧ (found (s.port .outbye)).expected place.val = 0

theorem trafficCell_eq_cellRow (d : Side) (sl : Slot) (l : List Octet) :
    Instr.trafficCell d sl l = cellRow d ⟨sl.val + 2, by omega⟩ l := by
  simp [cellRow]

theorem exec_restartCarriedOut (s : State) :
    exec .restartCarriedOut s = settled (fun s => if s.mgmt.restartDue then restartNode s else s) s := rfl
theorem exec_contactChange (i : PairIx) (s : State) : exec (.contactChange i) s = settled (fun s =>
    if s.roleInForce i ≠ .none ∧ (s.level.contacts.get i).run = 3 then contactChanged i (!(s.level.contacts.get i).active) s
    else s) s := rfl
theorem exec_framingLost (d : Side) (s : State) :
    exec (.framingLost d) s = settled (fun s => s.setPort d (s.port d).atCell) s := rfl
theorem exec_erroredSegmentCell (d : Side) (s : State) : exec (.erroredSegmentCell d) s =
    settled (fun s => s.setPort d (if (s.port d).atCell.framed then (s.port d).atCell.erroredCell else (s.port d).atCell)) s := rfl
theorem exec_continuityLoss (e : SlotIx) (s : State) : exec (.continuityLoss e) s = whenPowered (fun s =>
    match (s.slots.map.get e).drop with
    | some r => if (s.slots.map.get e).continuity = 125 ∧ (s.call r).state = .connected then clearCall r .lost s else s
    | none => s) s := rfl

namespace LevelRelation
variable {A L P : State → Prop} (relation : LevelRelation A L P) {s t : State}
include relation

omit relation in
theorem of_whenPowered {f : State → State} (work : P s → P (f s)) (h : P s) (e : whenPowered f s = .next t) : P t := by
  rw [whenPowered_next] at e
  cases e
  split
  · exact work h
  · exact h
theorem of_settled {f : State → State} (work : P s → P (f s)) (h : P s) (e : settled f s = .next t) : P t :=
  of_whenPowered (f := fun s => settle (f s)) (fun h => relation.inner.settle (work h)) h e
theorem of_message (p : SpurId) (m : HeadMsg) (h : P s) (e : exec (m.command p) s = .next t) : P t := by
  have run : exec (m.command p) s = settled (headMessage p m) s := by cases m <;> rfl
  exact relation.of_settled (relation.inner.headMessage p m) h (run.symm.trans e)
theorem of_order (hdr : OrderHdr) (o : Order) (resets : o = .tripReset → ∀ {s}, P s → P (clearLatch s)) (h : P s)
    (e : orderArrives hdr o s = .next t) : P t := by
  refine relation.of_settled (fun h => ?_) h e
  split
  · exact relation.takeOrder hdr o resets h
  · exact h
theorem of_cell (d : Side) (place : Fin 32) (l : List Octet)
    (resets : MayReset (cellRow d place l) s → ∀ {s}, P s → P (clearLatch s)) (h : P s)
    (e : exec (cellRow d place l) s = .next t) : P t := by
  rw [exec_cellRow] at e
  refine relation.of_settled (relation.cellArrives d place.val l fun ⟨outbye, framed, up, slot0⟩ => ?_) h e
  subst outbye
  exact resets (.inr ⟨place, l, rfl, framed, up, slot0⟩)
theorem of_neighbour (d : Side) (m : NMsg) (h : P s) (e : settled (takeNeighbour d m) s = .next t) : P t :=
  relation.of_settled (fun h => relation.inner.same h (levelPart_takeNeighbour s d m)) h e

/-- A command keeps the relation; one that can bring an order to reset the latch does where a reset of the latch does. -/
theorem exec (c : Instr) (resets : MayReset c s → ∀ {s}, P s → P (clearLatch s)) (h : P s) (e : exec c s = .next t) : P t := by
  have noOrder {o : Order} (ne : o ≠ .tripReset) : o = .tripReset → ∀ {s}, P s → P (clearLatch s) := fun eq => absurd eq ne
  cases c with
  | powerOn =>
    have run : Machine.powerOn s = t := Host.Outcome.next.inj e
    rw [← run]
    exact relation.inner.evalLists (relation.inner.same (relation.powerOn _ _ _)
      ((levelPart_reformStopAll _).trans (levelPart_reformLights _)))
  | restartCarriedOut =>
    refine relation.of_settled (fun h => ?_) h (exec_restartCarriedOut s ▸ e)
    split
    · exact relation.restartNode h
    · exact h
  | lineCycle => exact relation.of_settled (relation.inner.lineCycle _) h e
  | inbyeSegmentCell l => exact relation.of_cell .outbye 1 l resets h e
  | outbyeSegmentCell l => exact relation.of_cell .inbye 1 l resets h e
  | trafficCell d sl l =>
    rw [trafficCell_eq_cellRow] at resets e
    exact relation.of_cell d _ l resets h e
  | managementCell d l => exact relation.of_cell d 0 l resets h e
  | framingLost d =>
    refine relation.of_settled (fun h => ?_) h (exec_framingLost d s ▸ e)
    exact relation.inner.same h (levelPart_setPort s d _)
  | portLost d =>
    refine relation.of_settled (fun h => ?_) h e
    split
    · exact relation.inner.same h (levelPart_portLost s d)
    · exact h
  | portUp d =>
    refine relation.of_settled (fun h => ?_) h e
    split
    · exact relation.inner.portUp d h
    · exact h
  | windowEnd => exact relation.of_settled (fun h => relation.inner.same h (levelPart_windowEnd s)) h e
  | reading p sub raw q => exact relation.of_message p (.reading sub raw q) h e
  | staleExpiry c =>
    refine relation.of_settled (fun h => ?_) h e
    unfold staleExpire; split
    · exact relation.inner.chanFault c h
    · exact h
  | contactChange i =>
    refine relation.of_settled (fun h => ?_) h (exec_contactChange i s ▸ e)
    split
    · exact relation.inner.contactChanged i _ h
    · exact h
  | offhook p => exact relation.of_message p .offhook h e
  | onhook p => exact relation.of_message p .onhook h e
  | digit p d => exact relation.of_message p (.digit d) h e
  | surfaceCompletionTimeout r =>
    refine of_whenPowered (fun h => ?_) h e
    split
    · exact relation.inner.same h (levelPart_completeCall s r _ _)
    · exact h
  | refugeEmergencyCompletion r =>
    refine of_whenPowered (fun h => ?_) h e
    split
    · exact relation.inner.same h (levelPart_completeCall s r _ _)
    · exact h
  | collectingTimeout r =>
    refine of_whenPowered (fun h => ?_) h e
    split
    · exact relation.inner.same h (levelPart_timeoutCall s _ r)
    · exact h
  | requestedTimeout r => exact of_whenPowered (fun h => relation.inner.same h (levelPart_timeoutCall s _ r)) h e
  | heldTimeout r => exact of_whenPowered (fun h => relation.inner.same h (levelPart_timeoutCall s _ r)) h e
  | alertingTimeout r => exact of_whenPowered (fun h => relation.inner.same h (levelPart_timeoutCall s _ r)) h e
  | ringingTimeout r => exact of_whenPowered (fun h => relation.inner.same h (levelPart_timeoutCall s _ r)) h e
  | continuityLoss slot =>
    refine of_whenPowered (fun h => ?_) h (exec_continuityLoss slot s ▸ e)
    repeat' split
    · exact relation.inner.same h (levelPart_clearCall s _ _)
    all_goals exact h
  | tag p n sense => exact relation.of_message p (.tag n sense) h e
  | truckStatus p n st => exact relation.of_message p (.truckStatus n st) h e
  | claim => exact relation.of_neighbour _ _ h e
  | grant => exact relation.of_neighbour _ _ h e
  | wait => exact relation.of_neighbour _ _ h e
  | exit => exact relation.of_neighbour _ _ h e
  | state => exact relation.of_neighbour _ _ h e
  | farEndState => exact relation.of_neighbour _ _ h e
  | blockTurn i =>
    refine relation.of_settled (fun h => ?_) h e
    split
    · exact relation.inner.same h ((levelPart_blockTurn _ i).trans (levelPart_setBlocks s _ rfl))
    · exact h
  | overdue i n => exact relation.of_settled (fun h => relation.inner.same h (levelPart_takeOverdue s i n)) h e
  | checkin p n => exact relation.of_message p (.checkin n) h e
  | checkout p n => exact relation.of_message p (.checkout n) h e
  | door p v => exact relation.of_message p (.door v) h e
  | distress p => exact relation.of_message p .distress h e
  | stopTrucksEnd =>
    refine relation.of_settled (fun h => ?_) h e
    split
    · exact relation.inner.same h (levelPart_reformStopAll s)
    · exact h
  | headDelayExpiry =>
    refine relation.of_settled (fun h => ?_) h e
    split
    · exact relation.inner.actions.examineHead 8 h
    · exact h
  | spurFrame p f => exact relation.of_settled (relation.inner.takeFrame p f) h e
  | hello p ty => exact relation.of_message p (.hello ty) h e
  | spurSilenceTimeout p => exact relation.of_settled (relation.inner.silenceTimeout p) h e
  | fillCreditEarned => exact relation.of_settled (fun h => relation.inner.same h (levelPart_earnCredit s)) h e
  | outbyeCellFill => exact relation.of_settled (fun h => relation.inner.same h (levelPart_outbyeFill s)) h e
  | accessExpiry =>
    refine relation.of_settled (fun h => ?_) h e
    unfold expireAccess; split
    · exact relation.inner.same h rfl
    · exact h
  | commitComplete => exact relation.of_settled (fun h => relation.inner.same h (levelPart_completeCommit s)) h e
  | tripReset hdr => exact relation.of_order hdr .tripReset (fun _ => resets (.inl ⟨hdr, rfl⟩)) h e
  | blockOpen hdr b clear => exact relation.of_order hdr _ (noOrder (by split <;> nofun)) h e
  | unknownOrder hdr k => exact relation.of_order hdr _ (noOrder (by split <;> nofun)) h e
  | supplyLoss =>
    refine of_whenPowered (fun h => relation.inner.same h ?_) h e
    simp only [loseSupply]; split <;> rfl
  | erroredSegmentCell d =>
    refine relation.of_settled (fun h => ?_) h (exec_erroredSegmentCell d s ▸ e)
    exact relation.inner.same h (levelPart_setPort s d _)
  | enquire hdr => exact relation.of_order hdr .enquire (noOrder nofun) h e
  | statusPoll hdr => exact relation.of_order hdr .statusPoll (noOrder nofun) h e
  | tableRead hdr tb f n => exact relation.of_order hdr (.tableRead tb f n) (noOrder nofun) h e
  | tableLoad hdr tb f n l => exact relation.of_order hdr (.tableLoad tb f n l) (noOrder nofun) h e
  | historyRead hdr c i n => exact relation.of_order hdr (.historyRead c i n) (noOrder nofun) h e
  | commit hdr => exact relation.of_order hdr .commit (noOrder nofun) h e
  | restart hdr => exact relation.of_order hdr .restart (noOrder nofun) h e
  | unlock hdr c => exact relation.of_order hdr (.unlock c) (noOrder nofun) h e
  | lock hdr => exact relation.of_order hdr .lock (noOrder nofun) h e
  | callAssignOrigin hdr r n sl f => exact relation.of_order hdr (.callAssignOrigin r n sl f) (noOrder nofun) h e
  | callAssignDestination hdr p k sl f => exact relation.of_order hdr (.callAssignDestination p k sl f) (noOrder nofun) h e
  | callConnect hdr r n => exact relation.of_order hdr (.callConnect r n) (noOrder nofun) h e
  | callRelease hdr r n => exact relation.of_order hdr (.callRelease r n) (noOrder nofun) h e
  | callRefuse hdr r n k => exact relation.of_order hdr (.callRefuse r n k) (noOrder nofun) h e
  | tripPrepare hdr => exact relation.of_order hdr .tripPrepare (noOrder nofun) h e
  | blockClose hdr b => exact relation.of_order hdr (.blockClose b) (noOrder nofun) h e
  | arm hdr a0 a1 a2 c0 c1 c2 c3 => exact relation.of_order hdr (.arm a0 a1 a2 c0 c1 c2 c3) (noOrder nofun) h e
  | levelClear hdr => exact relation.of_order hdr .levelClear (noOrder nofun) h e
  | truckClear hdr => exact relation.of_order hdr .truckClear (noOrder nofun) h e
  | outputSet hdr o f => exact relation.of_order hdr (.outputSet o f) (noOrder nofun) h e
end LevelRelation

/-! ## What the Level Unit's operations form (R28, R32, R33, R37, R44) -/

namespace FormedPart
variable (p : FormedPart)

def commissioned : Bool := p.commission.station != 0
def ordered : Level := if p.commissioned then p.level.ordered.get p.commission.district else 0
def effectiveOf : Level := if p.commissioned then maxLevel p.level.localLevel p.ordered else 0
def maskOf : Nat := if p.commissioned then p.levelMap.get p.level.effective else 15
def outputOf : Bool := p.level.latch || (3 ≤ p.ordered.val)
def driveOf (o : PairIx) : Bool :=
  match p.level.force.get o with
  | .on => true
  | .off => false
  | .follow => match p.commission.outLevels.get o with
    | some l => l.val ≤ p.level.effective.val
    | none => false

/-- Each formed value formed again, as its operation of the Level Unit leaves it. -/
def formDrive (o : PairIx) : FormedPart := { p with level := { p.level with drive := p.level.drive.put o (p.driveOf o) } }
def formDrives : FormedPart := { p with level := { p.level with drive := Tab.build 2 p.driveOf } }
def formMask : FormedPart := { p with level := { p.level with mask := p.maskOf } }
def formOutput : FormedPart := { p with level := { p.level with output := p.outputOf } }
def setEffective (l : Level) : FormedPart := { p with level := { p.level with effective := l } }
def setLocal (l : Level) : FormedPart := { p with level := { p.level with localLevel := l } }
def formEffective : FormedPart :=
  if p.effectiveOf = p.level.effective then p else (p.setEffective p.effectiveOf).formMask.formDrives
def formLocal (l : Level) : FormedPart := if l = p.level.localLevel then p else (p.setLocal l).formEffective
def setOrdered (t : Tab 16 Level) : FormedPart := { p with level := { p.level with ordered := t } }
def setForce (o : PairIx) (f : Force) : FormedPart := { p with level := { p.level with force := p.level.force.put o f } }
def setMap (m : Tab 5 Nat) : FormedPart := { p with levelMap := m }
def withCause (c : Cause) (cycle : Nat) : FormedPart :=
  { p with level := { p.level with latch := true, firstCause := if p.level.latch then p.level.firstCause else some (c, cycle) } }
end FormedPart

section
variable (s : State)

theorem formedPart_reformDrive (o : PairIx) : formedPart (reformDrive o s) = (formedPart s).formDrive o := by
  unfold reformDrive; split
  next same =>
    have drive : s.level.drive.put o (s.driveOf o) = s.level.drive := by rw [same, Tab.put_get]
    change formedPart s = formedPart (s.setLevel { s.level with drive := s.level.drive.put o (s.driveOf o) })
    rw [drive]
    rfl
  next => rfl
theorem formedPart_reformDrives : formedPart (reformDrives s) = (formedPart s).formDrives := by
  have both (p : FormedPart) : (p.formDrive 0).formDrive 1 = p.formDrives := by
    have drive : (p.level.drive.put 0 (p.driveOf 0)).put 1 (p.driveOf 1) = Tab.build 2 p.driveOf :=
      Tab.ext fun i => by
        rw [Tab.get_build]
        match i with
        | 0 => rw [Tab.get_put_ne _ _ (by decide), Tab.get_put_same]
        | 1 => rw [Tab.get_put_same]
    rw [FormedPart.formDrives, ← drive]
    rfl
  change formedPart (reformDrive 1 (reformDrive 0 s)) = _
  rw [formedPart_reformDrive, formedPart_reformDrive, both]
theorem formedPart_reformMask : formedPart (reformMask s) = (formedPart s).formMask := by
  simp only [reformMask]; split
  next same =>
    change formedPart s = formedPart (s.setLevel { s.level with mask := s.maskOf })
    rw [same]
    rfl
  next => exact (formedPart_of_levelPart (levelPart_callsAtMask _ _ _)).trans rfl
theorem formedPart_reformOutput : formedPart (reformOutput s) = (formedPart s).formOutput := by
  unfold reformOutput; split
  next same =>
    change formedPart s = formedPart (s.setLevel { s.level with output := s.outputOf })
    rw [same]
    rfl
  next => rfl
theorem formedPart_reformEffectiveBut (stay : PairIx → Bool) :
    formedPart (reformEffectiveBut stay s) = (formedPart s).formEffective := by
  simp only [reformEffectiveBut, FormedPart.formEffective]
  split
  next same => exact (if_pos same).symm
  next changed =>
    refine Eq.trans ?_ (if_neg changed).symm
    rw [formedPart_of_levelPart (levelPart_notify _ _), formedPart_of_levelPart (levelPart_refugesAtLevelBut _ _ _),
      formedPart_of_levelPart (levelPart_blocksAtLevel _ _), formedPart_reformDrives, formedPart_reformMask]
    rfl
theorem formedPart_reformLocalBut (stay : PairIx → Bool) :
    formedPart (reformLocalBut stay s) = (formedPart s).formLocal s.localOf := by
  simp only [reformLocalBut, FormedPart.formLocal]
  split
  next same => exact (if_pos same).symm
  next changed =>
    refine Eq.trans ?_ (if_neg changed).symm
    rw [formedPart_reformEffectiveBut]
    rfl
theorem formedPart_takeCauseBut (stay : PairIx → Bool) (c : Cause) :
    ∃ l, formedPart (takeCauseBut stay c s) = ((formedPart s).withCause c s.line.cycle).formOutput.formLocal l :=
  ⟨_, (formedPart_reformLocalBut _ stay).trans (by rw [formedPart_reformOutput]; rfl)⟩
theorem formedPart_takeOrdered (t : Tab 16 Level) :
    formedPart (takeOrdered t s) = ((formedPart s).setOrdered t).formEffective.formOutput := by
  rw [takeOrdered, formedPart_reformOutput, reformEffective, formedPart_reformEffectiveBut]
  rfl
theorem formedPart_setForce (o : PairIx) (f : Force) :
    formedPart (setForce o f s) = ((formedPart s).setForce o f).formDrive o := by
  rw [setForce, formedPart_reformDrive]
  rfl
theorem formedPart_reformMap (m : Tab 5 Nat) :
    formedPart (reformMask (s.setWorking { s.working with levelMap := m })) = ((formedPart s).setMap m).formMask := by
  rw [formedPart_reformMask]
  rfl
theorem formedPart_reformAllBut (stay : PairIx → Bool) : formedPart (reformAllBut stay s) =
    ((formedPart s).formLocal s.localOf).formEffective.formOutput.formMask.formDrives := by
  rw [reformAllBut, formedPart_reformDrives, formedPart_reformMask, formedPart_reformOutput, formedPart_reformEffectiveBut,
    formedPart_reformLocalBut]

/-! ### Forming moves no contribution -/

theorem contributions_reformDrive (o : PairIx) : contributions (reformDrive o s) = contributions s := by
  unfold reformDrive; split <;> rfl
theorem contributions_reformDrives : contributions (reformDrives s) = contributions s :=
  forEach_keeps contributions 2 _ (fun o s => contributions_reformDrive s o) s
theorem contributions_reformMask : contributions (reformMask s) = contributions s := by
  simp only [reformMask]; split
  · rfl
  · exact (contributions_of_levelPart (levelPart_callsAtMask _ _ _)).trans rfl
theorem contributions_reformOutput : contributions (reformOutput s) = contributions s := by
  unfold reformOutput; split <;> rfl
theorem contributions_reformEffectiveBut (stay : PairIx → Bool) :
    contributions (reformEffectiveBut stay s) = contributions s := by
  simp only [reformEffectiveBut]; split
  · rfl
  · rw [contributions_of_levelPart (levelPart_notify _ _), contributions_of_levelPart (levelPart_refugesAtLevelBut _ _ _),
      contributions_of_levelPart (levelPart_blocksAtLevel _ _), contributions_reformDrives, contributions_reformMask]
    rfl
theorem contributions_reformLocalBut (stay : PairIx → Bool) : contributions (reformLocalBut stay s) = contributions s := by
  simp only [reformLocalBut]; split
  · rfl
  · exact (contributions_reformEffectiveBut _ stay).trans rfl
end

/-! ### What forming leaves in the formed part -/

namespace FormedPart
variable {p : FormedPart}

/-- Forming the effective level reaches it, the mask and the drives; forming the local level that too. -/
theorem formEffective_frame (p : FormedPart) : ∃ e m d,
    p.formEffective = { p with level := { p.level with effective := e, mask := m, drive := d } } := by
  unfold formEffective; split
  · exact ⟨_, _, _, rfl⟩
  · exact ⟨_, _, _, rfl⟩
theorem formLocal_frame (p : FormedPart) (l : Level) : ∃ e m d,
    p.formLocal l = { p with level := { p.level with localLevel := l, effective := e, mask := m, drive := d } } := by
  unfold formLocal; split
  next same => exact ⟨p.level.effective, p.level.mask, p.level.drive, by rw [same]⟩
  next => exact formEffective_frame (p.setLocal l)

/-- R33, R44: the mask and the drives stand as the effective level gives. -/
structure Driven (p : FormedPart) : Prop where
  mask  : p.level.mask = p.maskOf
  drive : ∀ o, p.level.drive.get o = p.driveOf o
/-- R32, R33, R44: so does the effective level as the local and the ordered level give. -/
structure Follows (p : FormedPart) : Prop extends Driven p where
  effective : p.level.effective = p.effectiveOf

theorem driveOf_congr {p q : FormedPart} {o : PairIx} (force : q.level.force.get o = p.level.force.get o)
    (outLevels : q.commission.outLevels = p.commission.outLevels) (effective : q.level.effective = p.level.effective) :
    q.driveOf o = p.driveOf o := by
  rw [driveOf, driveOf, force, outLevels, effective]
theorem driven_formed (p : FormedPart) : p.formMask.formDrives.Driven := ⟨rfl, fun _ => Tab.get_build _ _⟩
theorem Driven.formEffective (h : p.Driven) : p.formEffective.Follows := by
  unfold FormedPart.formEffective; split
  next same => exact { toDriven := h, effective := same.symm }
  next => exact { toDriven := driven_formed _, effective := rfl }
theorem Follows.formLocal (h : p.Follows) (l : Level) : (p.formLocal l).Follows := by
  unfold FormedPart.formLocal; split
  · exact h
  · exact Driven.formEffective (p := p.setLocal l) ⟨h.mask, h.drive⟩
/-- An effective level that is formed stays so while the output, the mask and the drives are. -/
theorem follows_formRest (h : p.level.effective = p.effectiveOf) : p.formOutput.formMask.formDrives.Follows :=
  { toDriven := driven_formed _, effective := h }
theorem effective_formEffective (p : FormedPart) : p.formEffective.level.effective = p.formEffective.effectiveOf := by
  unfold formEffective; split
  next same => exact same.symm
  next => rfl
theorem Follows.withCause (h : p.Follows) (c : Cause) (cycle : Nat) : (p.withCause c cycle).formOutput.Follows :=
  { mask := h.mask, drive := h.drive, effective := h.effective }
theorem Follows.formDrive_setForce (h : p.Follows) (o : PairIx) (f : Force) : ((p.setForce o f).formDrive o).Follows where
  mask := h.mask
  effective := h.effective
  drive j := by
    change ((p.level.drive.put o _).get j) = (p.setForce o f).driveOf j
    rw [Tab.get_put]
    split
    next e => rw [e]
    next ne =>
      exact (h.drive j).trans (driveOf_congr (p := p) (q := p.setForce o f) (Tab.get_put_ne _ _ ne) rfl rfl).symm

/-- R36, R37: the output follows the latch and the ordered level, and the latch has a first cause exactly while it is set. -/
structure Isolated (p : FormedPart) : Prop where
  output : p.level.output = p.outputOf
  cause  : p.level.latch = p.level.firstCause.isSome

theorem output_formRest (p : FormedPart) :
    p.formOutput.formMask.formDrives.level.output = p.formOutput.formMask.formDrives.outputOf := rfl
theorem Isolated.formLocal (h : p.Isolated) (l : Level) : (p.formLocal l).Isolated := by
  obtain ⟨e, m, d, formed⟩ := p.formLocal_frame l
  rw [formed]
  exact ⟨h.output, h.cause⟩
theorem Isolated.withCause (c : Cause) (cycle : Nat) (h : p.level.latch = p.level.firstCause.isSome) :
    (p.withCause c cycle).formOutput.Isolated := by
  refine ⟨rfl, ?_⟩
  cases latch : p.level.latch <;> simp_all [FormedPart.withCause, formOutput]
end FormedPart

/-! ## The relations of the steps -/

/-! ### The latch alone -/

/-- The latch and its first cause stand as in another state. -/
def SameLatch (p q : FormedPart) : Prop := q.level.latch = p.level.latch ∧ q.level.firstCause = p.level.firstCause

theorem SameLatch.trans {p q r : FormedPart} (h : SameLatch p q) (g : SameLatch q r) : SameLatch p r :=
  ⟨g.1.trans h.1, g.2.trans h.2⟩
theorem sameLatch_formRest (p : FormedPart) : SameLatch p p.formOutput.formMask.formDrives := ⟨rfl, rfl⟩
theorem sameLatch_formLocal (p : FormedPart) (l : Level) : SameLatch p (p.formLocal l) := by
  obtain ⟨e, m, d, formed⟩ := p.formLocal_frame l
  rw [formed]
  exact ⟨rfl, rfl⟩
theorem sameLatch_formEffective (p : FormedPart) : SameLatch p p.formEffective := by
  obtain ⟨e, m, d, formed⟩ := p.formEffective_frame
  rw [formed]
  exact ⟨rfl, rfl⟩
theorem sameLatch_reformLocalBut (stay : PairIx → Bool) (s : State) : SameLatch (formedPart s) (formedPart (reformLocalBut stay s)) := by
  rw [formedPart_reformLocalBut]
  exact sameLatch_formLocal _ _
theorem sameLatch_takeOrdered (t : Tab 16 Level) (s : State) : SameLatch (formedPart s) (formedPart (takeOrdered t s)) := by
  rw [formedPart_takeOrdered]
  exact sameLatch_formEffective ((formedPart s).setOrdered t)
theorem sameLatch_setForce (o : PairIx) (f : Force) (s : State) : SameLatch (formedPart s) (formedPart (setForce o f s)) := by
  rw [formedPart_setForce]
  exact ⟨rfl, rfl⟩
theorem sameLatch_reformMap (m : Tab 5 Nat) (s : State) :
    SameLatch (formedPart s) (formedPart (reformMask (s.setWorking { s.working with levelMap := m }))) := by
  rw [formedPart_reformMap]
  exact ⟨rfl, rfl⟩
theorem sameLatch_reformAllBut (stay : PairIx → Bool) (s : State) :
    SameLatch (formedPart s) (formedPart (reformAllBut stay s)) := by
  rw [formedPart_reformAllBut]
  exact ((sameLatch_formLocal _ _).trans (sameLatch_formEffective _)).trans (sameLatch_formRest _)

/-- A property of the latch and its first cause. -/
def OfLatch (q : Bool → Option (Cause × Nat) → Prop) (s : State) : Prop := q s.level.latch s.level.firstCause

section
variable {q : Bool → Option (Cause × Nat) → Prop}

theorem OfLatch.of_latch {s t : State} (h : OfLatch q s) (latch : t.level.latch = s.level.latch)
    (cause : t.level.firstCause = s.level.firstCause) : OfLatch q t := (congrArg₂ q latch cause).mpr h
theorem OfLatch.of_same {s t : State} (h : OfLatch q s) (e : SameLatch (formedPart s) (formedPart t)) : OfLatch q t :=
  h.of_latch e.1 e.2
theorem OfLatch.of_formedPart {s t : State} (h : OfLatch q s) (e : formedPart t = formedPart s) : OfLatch q t :=
  h.of_latch (latch_of_formedPart e) (firstCause_of_formedPart e)
/-- R36: what a cause keeps of the latch, the Level Unit keeps. -/
theorem levelKeeps_ofLatch (taken : ∀ l f k, q l f → q true (if l then f else some k)) : LevelKeeps (OfLatch q) (OfLatch q) where
  loosen := id
  same h e := h.of_formedPart (formedPart_of_levelPart e)
  looseSame h e := h.of_formedPart e
  localLevel {s} stay h := h.of_same (sameLatch_reformLocalBut stay s)
  cause {s} stay c h := by
    obtain ⟨l, caused⟩ := formedPart_takeCauseBut s stay c
    have latched := sameLatch_formLocal ((formedPart s).withCause c s.line.cycle).formOutput l
    rw [← caused] at latched
    obtain ⟨latch, cause⟩ := latched
    exact (congrArg₂ q latch cause).mpr (taken _ _ _ h)
  force {s} o f h := h.of_same (sameLatch_setForce o f s)
  ordered {s} t h := h.of_same (sameLatch_takeOrdered t s)
  mask {s} m h := h.of_same (sameLatch_reformMap m s)
end

/-- R37: the latch is set. -/
theorem levelRelation_latched : LevelRelation (OfLatch fun l _ => l = true) (OfLatch fun l _ => l = true)
    (OfLatch fun l _ => l = true) where
  inner := levelKeeps_ofLatch fun _ _ _ _ => rfl
  outer := levelKeeps_ofLatch fun _ _ _ _ => rfl
  weaken := id
  latch h latch cause := h.of_latch latch cause
  whole {s} stay h := h.of_same (sameLatch_reformAllBut stay s)
  powerOn _ _ _ := rfl

/-! ### The output -/

theorem isolationFormed_iff (s : State) : IsolationFormed s ↔ (formedPart s).Isolated :=
  ⟨fun h => ⟨h.output, h.cause⟩, fun h => ⟨h.output, h.cause⟩⟩

theorem levelKeeps_isolated : LevelKeeps (fun s => (formedPart s).Isolated) (fun s => (formedPart s).Isolated) where
  loosen := id
  same h e := by rwa [formedPart_of_levelPart e]
  looseSame h e := by rwa [e]
  localLevel {s} stay h := by
    rw [formedPart_reformLocalBut]
    exact h.formLocal _
  cause {s} stay c h := by
    obtain ⟨l, caused⟩ := formedPart_takeCauseBut s stay c
    rw [caused]
    exact (FormedPart.Isolated.withCause c _ h.cause).formLocal l
  force {s} o f h := by
    rw [formedPart_setForce]
    exact ⟨h.output, h.cause⟩
  ordered {s} t h := by
    rw [formedPart_takeOrdered]
    obtain ⟨latch, cause⟩ := sameLatch_formEffective ((formedPart s).setOrdered t)
    exact ⟨rfl, latch.trans (h.cause.trans (congrArg Option.isSome cause).symm)⟩
  mask {s} m h := by
    rw [formedPart_reformMap]
    exact ⟨h.output, h.cause⟩

theorem levelRelation_isolated : LevelRelation (OfLatch fun l f => l = f.isSome) (fun s => (formedPart s).Isolated)
    (fun s => (formedPart s).Isolated) where
  inner := levelKeeps_isolated
  outer := levelKeeps_ofLatch fun l f k h => by cases l <;> simp_all
  weaken h := h.cause
  latch h latch cause := h.of_latch latch cause
  whole {s} stay h := by
    obtain ⟨latch, cause⟩ := sameLatch_reformAllBut stay s
    refine ⟨?_, latch.trans (Eq.trans h (congrArg Option.isSome cause).symm)⟩
    rw [formedPart_reformAllBut]
    exact FormedPart.output_formRest _
  powerOn store pending n := ⟨rfl, rfl⟩

/-! ### The levels, the mask and the drives -/

theorem localOf_congr {s t : State} (contributed : contributions t = contributions s)
    (commission : t.working.commission = s.working.commission) (latch : t.level.latch = s.level.latch) : t.localOf = s.localOf := by
  have status (c : ChanId) : (t.air.get c).status = (s.air.get c).status :=
    congrArg (fun k : Contributions => k.status c) contributed
  have on (r : PairIx) : t.refugeOn r = s.refugeOn r := congrArg (fun k : Contributions => k.refugeOn r) contributed
  have refuge (r : PairIx) : (t.refuges.get r).state = (s.refuges.get r).state :=
    congrArg (fun k : Contributions => k.refuge r) contributed
  have active (i : PairIx) : (t.level.contacts.get i).active = (s.level.contacts.get i).active :=
    congrArg (fun k : Contributions => k.active i) contributed
  have alarm : t.blocks.truckAlarm.isSome = s.blocks.truckAlarm.isSome := congrArg Contributions.alarm contributed
  have hold : t.level.hold = s.level.hold := congrArg Contributions.hold contributed
  simp only [State.localOf, State.commissioned, State.roleInForce, status, on, refuge, active, alarm, hold, commission, latch]
  rfl
theorem localOf_reformLocalBut (stay : PairIx → Bool) (s : State) : (reformLocalBut stay s).localOf = s.localOf := by
  obtain ⟨e, m, d, formed⟩ := (formedPart s).formLocal_frame s.localOf
  rw [← formedPart_reformLocalBut s stay] at formed
  exact localOf_congr (contributions_reformLocalBut s stay) (congrArg FormedPart.commission formed)
    (congrArg (fun p => p.level.latch) formed)
theorem contributions_formedAll (stay : PairIx → Bool) (s : State) :
    contributions (reformAllBut stay s) = contributions (reformLocalBut stay s) := by
  rw [reformAllBut, contributions_reformDrives, contributions_reformMask, contributions_reformOutput, contributions_reformEffectiveBut]
/-- R28: the local level stands as its contributions give. -/
def LocalFormed (s : State) : Prop := s.level.localLevel = s.localOf

theorem LocalFormed.of_parts {s t : State} (h : LocalFormed s) (contributed : contributions t = contributions s)
    (commission : t.working.commission = s.working.commission) (latch : t.level.latch = s.level.latch)
    (level : t.level.localLevel = s.level.localLevel) : LocalFormed t :=
  level.trans (h.trans (localOf_congr contributed commission latch).symm)
theorem LocalFormed.of_formAll {s t : State} (h : LocalFormed s) (contributed : contributions t = contributions s)
    (formed : formedPart t = (formedPart s).formEffective.formOutput.formMask.formDrives) : LocalFormed t := by
  obtain ⟨e, m, d, frame⟩ := (formedPart s).formEffective_frame
  rw [frame] at formed
  exact h.of_parts contributed (congrArg FormedPart.commission formed) (congrArg (fun p => p.level.latch) formed)
    (congrArg (fun p => p.level.localLevel) formed)
theorem localFormed_reformLocalBut (stay : PairIx → Bool) (s : State) : LocalFormed (reformLocalBut stay s) := by
  have level : (reformLocalBut stay s).level.localLevel = s.localOf := by
    change (formedPart (reformLocalBut stay s)).level.localLevel = _
    rw [formedPart_reformLocalBut, FormedPart.formLocal]
    split
    next same => exact same.symm
    next =>
      obtain ⟨e, m, d, formed⟩ := ((formedPart s).setLocal s.localOf).formEffective_frame
      rw [formed]
      rfl
  exact level.trans (localOf_reformLocalBut stay s).symm

theorem levelsFormed_iff (s : State) : LevelsFormed s ↔ LocalFormed s ∧ (formedPart s).Follows :=
  ⟨fun h => ⟨h.localLevel, { mask := h.mask, drive := h.drive, effective := h.effective }⟩,
    fun ⟨level, follows⟩ => ⟨level, follows.effective, follows.mask, follows.drive⟩⟩

theorem levelKeeps_levelsFormed : LevelKeeps (fun s => (formedPart s).Follows)
    (fun s => LocalFormed s ∧ (formedPart s).Follows) where
  loosen h := h.2
  same {s t} h e := by
    have formed := formedPart_of_levelPart e
    exact ⟨h.1.of_parts (contributions_of_levelPart e) (congrArg FormedPart.commission formed) (latch_of_formedPart formed)
      (congrArg (fun p => p.level.localLevel) formed), formed ▸ h.2⟩
  looseSame h e := by rwa [e]
  localLevel {s} stay h := ⟨localFormed_reformLocalBut stay s, by
    rw [formedPart_reformLocalBut]
    exact h.formLocal _⟩
  cause {s} stay c h := ⟨localFormed_reformLocalBut stay _, by
    obtain ⟨l, caused⟩ := formedPart_takeCauseBut s stay c
    rw [caused]
    exact (h.withCause c _).formLocal l⟩
  force {s} o f h := by
    have formed := formedPart_setForce s o f
    refine ⟨h.1.of_parts (contributions_reformDrive _ o) (congrArg FormedPart.commission formed)
      (congrArg (fun p => p.level.latch) formed) (congrArg (fun p => p.level.localLevel) formed), ?_⟩
    rw [formed]
    exact h.2.formDrive_setForce o f
  ordered {s} t h := by
    have formed := formedPart_takeOrdered s t
    have follows : ((formedPart s).setOrdered t).formEffective.Follows :=
      FormedPart.Driven.formEffective ⟨h.2.mask, h.2.drive⟩
    obtain ⟨e, m, d, frame⟩ := ((formedPart s).setOrdered t).formEffective_frame
    refine ⟨h.1.of_parts ((contributions_reformOutput _).trans (contributions_reformEffectiveBut _ _)) ?_ ?_ ?_, ?_⟩
    · rw [frame] at formed; exact congrArg FormedPart.commission formed
    · rw [frame] at formed; exact congrArg (fun p => p.level.latch) formed
    · rw [frame] at formed; exact congrArg (fun p => p.level.localLevel) formed
    · rw [formed]
      exact { mask := follows.mask, drive := follows.drive, effective := follows.effective }
  mask {s} m h := by
    have formed := formedPart_reformMap s m
    refine ⟨h.1.of_parts (contributions_reformMask _) (congrArg FormedPart.commission formed)
      (congrArg (fun p => p.level.latch) formed) (congrArg (fun p => p.level.localLevel) formed), ?_⟩
    rw [formed]
    exact { mask := rfl, drive := h.2.drive, effective := h.2.effective }

theorem levelRelation_levelsFormed : LevelRelation (fun _ => True) (fun s => (formedPart s).Follows)
    (fun s => LocalFormed s ∧ (formedPart s).Follows) where
  inner := levelKeeps_levelsFormed
  outer := ⟨id, fun _ _ => trivial, fun _ _ => trivial, fun _ _ => trivial, fun _ _ _ => trivial, fun _ _ _ => trivial,
    fun _ _ => trivial, fun _ _ => trivial⟩
  weaken _ := trivial
  latch _ _ _ := trivial
  whole {s} stay _ := by
    have formed := formedPart_reformAllBut s stay
    refine ⟨(localFormed_reformLocalBut stay s).of_formAll (contributions_formedAll stay s) ?_, ?_⟩
    · rw [formed, formedPart_reformLocalBut]
    · rw [formed]
      exact FormedPart.follows_formRest (FormedPart.effective_formEffective _)
  powerOn store pending n := by
    exact ⟨rfl, { mask := rfl, drive := fun o => Tab.get_build _ o, effective := rfl }⟩

/-! ### A reset of the latch, and a step -/

/-- R40: the formed part with the latch and its first cause clear. -/
def FormedPart.unlatched (p : FormedPart) : FormedPart := { p with level := { p.level with latch := false, firstCause := none } }

theorem formedPart_unlatched (s : State) : formedPart (reformOutput
    ((s.setLevel { s.level with latch := false, causes := [], firstCause := none }).mark .isolation)) =
      (formedPart s).unlatched.formOutput := by
  rw [formedPart_reformOutput]
  rfl
theorem isolated_clearLatch {s : State} (h : (formedPart s).Isolated) : (formedPart (clearLatch s)).Isolated := by
  unfold clearLatch; split
  · rw [reformLocal, formedPart_reformLocalBut, formedPart_unlatched]
    exact FormedPart.Isolated.formLocal (p := (formedPart s).unlatched.formOutput) ⟨rfl, rfl⟩ _
  · exact h
theorem levelsFormed_clearLatch {s : State} (h : LocalFormed s ∧ (formedPart s).Follows) :
    LocalFormed (clearLatch s) ∧ (formedPart (clearLatch s)).Follows := by
  unfold clearLatch; split
  · refine ⟨localFormed_reformLocalBut _ _, ?_⟩
    rw [reformLocal, formedPart_reformLocalBut, formedPart_unlatched]
    exact FormedPart.Follows.formLocal (p := (formedPart s).unlatched.formOutput)
      { mask := h.2.mask, drive := h.2.drive, effective := h.2.effective } _
  · exact h

/-- A step keeps the relation where a reset of the latch does. -/
theorem LevelRelation.step {A L P : State → Prop} (relation : LevelRelation A L P)
    (resets : ∀ {s}, P s → P (clearLatch s)) {s t : State} (h : P s) (e : step s = .next t) : P t := by
  unfold Machine.step at e
  split at e
  next => cases e; exact h
  next c rest _ =>
    have front : P { s with pending := rest } := relation.inner.same h rfl
    exact relation.exec c (fun _ => resets) front e

/-! ## The invariants of the levels and the latch -/

/-- The isolation output is asserted while the latch is set, and so the contactor is open. -/
theorem methaneSafe_of_isolationFormed {s : State} (h : IsolationFormed s) : MethaneSafe s := by
  intro latch
  rw [State.isolated, h.output, State.outputOf, latch, Bool.true_or, Bool.or_true]

/-- Settles O4: the relation holds of the formed part, and every command and the reset of the latch keep it. -/
theorem isolationFollowsItsConditions : Obligations.IsolationFollowsItsConditions := by
  intro s t h e
  have formed := (isolationFormed_iff t).mpr
    (levelRelation_isolated.step isolated_clearLatch ((isolationFormed_iff s).mp h) e)
  exact ⟨formed, methaneSafe_of_isolationFormed formed⟩

/-- Settles O5: a command that cannot bring an order to reset the latch keeps a set latch. -/
theorem latchHoldsUntilTripReset : Obligations.LatchHoldsUntilTripReset := by
  intro c s t noOrder noCell latch e
  refine levelRelation_latched.exec c (fun brings => ?_) latch e
  obtain ⟨h, order⟩ | ⟨place, l, cell, framed, up, slot0⟩ := brings
  · exact absurd order (noOrder h)
  · exact absurd slot0 (noCell place l cell framed up)

/-- Settles O6: each level, the mask and the drives are formed again wherever what they are formed from moves. -/
theorem levelsStayFormed : Obligations.LevelsStayFormed := by
  intro s t h e
  exact (levelsFormed_iff t).mpr (levelRelation_levelsFormed.step levelsFormed_clearLatch ((levelsFormed_iff s).mp h) e)

/-! ## A new part -/

/-- A new part is uncommissioned: nothing contributes, the mask is 15, and no drive's level is reached. -/
theorem levelsFormed_reset : LevelsFormed State.reset where
  localLevel := rfl
  effective := rfl
  mask := rfl
  drive o := match o with
    | 0 => rfl
    | 1 => rfl
theorem masterFormed_start (convoy : Nat) : MasterFormed convoy Master.start where
  room := ⟨Nat.zero_le _, Nat.zero_le _⟩
  once := List.nodup_nil
  engaged := rfl
  faults := .inr rfl
theorem mastersFormed_reset : MastersFormed State.reset := by
  intro i
  rw [State.master, reset_block]
  exact masterFormed_start _
theorem ownersLive_reset : OwnersLive State.reset where
  clearing := nofun
  drop e r owned := by rw [reset_slot] at owned; cases owned
  add e r owned := by rw [reset_slot] at owned; cases owned

/-- Settles O3: each relation by what a new part's tables and fields start as. -/
theorem resetMeetsTheInvariants : Obligations.ResetMeetsTheInvariants := by
  refine ⟨⟨rfl, rfl⟩, levelsFormed_reset, fun r admitted => ?_, mastersFormed_reset, ⟨rfl, rfl, ?_, ?_⟩, ?_, ownersLive_reset, rfl⟩
  · rw [reset_call] at admitted; cases admitted
  · exact ⟨Nat.zero_le _, fun _ => rfl⟩
  · exact ⟨Nat.zero_le _, fun _ => rfl⟩
  · exact ⟨Nat.zero_le _, le_refl _, Nat.zero_le _, rfl⟩

/-! ## A contact changes (R41, R42) -/

/-- R36, R37, R38: a cause that the latch has taken stands taken, whatever the Action Unit then does. -/
theorem latchTook_settle {s u : State} {k : Cause} (took : latchPart u = (latchPart s).withCause k s.line.cycle)
    (quiet : Quiet s → Quiet u) : LatchTook k s (settle u) := by
  have grows := latchPart_settle_grows u
  have alone (q : Quiet s) := latchPart_settle_quiet (quiet q)
  rw [took] at grows alone
  generalize settle u = t at grows alone
  exact {
    set := ⟨grows.latch rfl, grows.output rfl⟩
    first := grows.firstCause rfl
    causes := ⟨grows.causes k (mem_insertCause.mpr (.inl rfl)), fun y hy => grows.causes y (mem_insertCause.mpr (.inr hy))⟩
    sent := ⟨grows.accumulated k (mem_insertCause.mpr (.inl rfl)),
      fun y hy => grows.accumulated y (mem_insertCause.mpr (.inr hy))⟩
    prepare := grows.prepare rfl
    alone := fun q => by
      have causes : t.level.causes = insertCause k s.level.causes := congrArg LatchPart.causes (alone q)
      have sent : t.level.accumulated = insertCause k s.level.accumulated := congrArg LatchPart.accumulated (alone q)
      have held : t.held .isolation = _ := congrArg (fun l => l.held .isolation) (alone q)
      rw [LatchPart.withCause_held_isolation] at held
      exact ⟨fun y hy => mem_insertCause.mp (causes ▸ hy), fun y hy => mem_insertCause.mp (sent ▸ hy), held⟩ }
/-- What leaves the latch alone gives it no cause, where the Action Unit does nothing. -/
theorem latchStood_settle {s u : State} (stood : latchPart u = latchPart s) (q : Quiet u) : LatchStood s (settle u) := by
  have same := (latchPart_settle_quiet q).trans stood
  exact ⟨congrArg LatchPart.latch same, congrArg LatchPart.causes same, congrArg LatchPart.accumulated same,
    congrArg LatchPart.firstCause same, congrArg LatchPart.prepare same, congrArg (fun l => l.held .isolation) same⟩

section
variable (i : PairIx) (active : Bool) (s : State)

/-- R42: the contact inputs with one of them changed. -/
def contactSet : State := s.setLevel { s.level with contacts := s.level.contacts.put i { active := active, run := 0 } }
/-- R42: its change marked and handed on, before it acts by its role. -/
def contactHanded : State := ((contactSet i active s).mark .level).notify (.contact i)
theorem latchPart_contactHanded : latchPart (contactHanded i active s) = latchPart s := by
  unfold contactHanded
  rw [latchPart_notify, latchPart_markLevel]
  exact latchPart_setLevel s _ ⟨rfl, rfl, rfl, rfl, rfl⟩
theorem outsideLevel_contactChanged : outsideLevel (contactChanged i active s) = outsideLevel (contactSet i active s) := by
  simp only [contactChanged]
  split
  · rw [outsideLevel_takeCause, outsideLevel_notify, outsideLevel_mark, contactSet]
  · rw [outsideLevel_reformLocal, outsideLevel_notify, outsideLevel_mark, contactSet]
variable {i active s}

theorem latchPart_contactChanged_trip (on : active = true) (trip : s.roleInForce i = .trip) :
    latchPart (contactChanged i active s) = (latchPart s).withCause (.contact i) s.line.cycle := by
  have changed : contactChanged i active s = takeCause (.contact i) (contactHanded i active s) :=
    if_pos ⟨on, trip⟩
  rw [changed, latchPart_takeCause, latchPart_contactHanded]
  rfl
theorem latchPart_contactChanged_other (other : ¬ (active = true ∧ s.roleInForce i = .trip)) :
    latchPart (contactChanged i active s) = latchPart s := by
  have changed : contactChanged i active s = reformLocal (contactHanded i active s) :=
    if_neg other
  rw [changed, latchPart_reformLocal, latchPart_contactHanded]
theorem quiet_contactChanged (q : Quiet s) : Quiet (contactChanged i active s) :=
  Quiet.of_outsideLevel (s := contactSet i active s) ⟨q.queue, q.lists⟩ (outsideLevel_contactChanged i active s)
end

/-- Settles O21: a change that is due is the input replaced and then a cause or the local level formed again, and one that is not
is nothing. -/
theorem contactChangeActsByRole : Obligations.ContactChangeActsByRole := by
  intro s i powered idle
  have run := (exec_contactChange i s).trans (settled_powered _ powered)
  refine ⟨fun role run3 => ?_, fun notDue => ?_⟩
  · rw [if_pos ⟨role, run3⟩] at run
    have frame : outsideActions (settle (contactChanged i (!(s.level.contacts.get i).active) s)) =
        outsideActions (contactSet i (!(s.level.contacts.get i).active) s) :=
      (outsideActions_settle _).trans (outsideActions_of_outsideLevel (outsideLevel_contactChanged ..))
    refine ⟨_, run, congrArg (fun t => t.level.contacts) frame, frame, fun trip off => ?_, fun q other => ?_⟩
    · exact latchTook_settle (latchPart_contactChanged_trip (by rw [off]; rfl) trip) quiet_contactChanged
    · refine latchStood_settle (latchPart_contactChanged_other fun ⟨on, trip⟩ => ?_) (quiet_contactChanged q)
      obtain notTrip | active := other
      · exact notTrip trip
      · simp [active] at on
  · rw [if_neg fun ⟨role, run3⟩ => notDue.elim role fun ne => ne run3, settle_of_noNotices idle] at run
    exact run

/-! ## Orders with access (R176, R177, R180) -/

/-! ### A made reply -/

section
variable (h : OrderHdr) (code : Nat) (r : Result) (fields : List Octet) (s : State)

theorem outsideLevel_replied : outsideLevel (replied h code r fields s) = replied h code r fields (outsideLevel s) := by
  unfold replied; split <;> rfl
theorem latchPart_replied : latchPart (replied h code r fields s) = latchPart s := by
  unfold replied; split <;> rfl
variable {s}
theorem noNotices_replied (idle : NoNotices s) : NoNotices (replied h code r fields s) := by
  unfold replied; split
  · exact idle
  · exact idle
theorem quiet_replied (q : Quiet s) : Quiet (replied h code r fields s) := by
  unfold replied; split
  · exact q
  · exact ⟨q.queue, q.lists⟩
end

/-! ### The order -/

/-- R176: a known order in form whose owner is done with it when it is taken: any but COMMIT. -/
def doneAtOnce : Order → Bool
  | .unknown _ | .badForm _ | .commit => false
  | _ => true

section
variable {h : OrderHdr} {s : State} {o : Order}

/-- R180: with access, taking an order that needs it is what taking one of its kind does. -/
theorem refreshAccess_taken (needs : kindNeedsAccess o.code = true) (access : s.access = true) :
    refreshAccess o (s.setMgmt { s.mgmt with prepare := false }) = taken o.code s := by
  have refreshed : (kindNeedsAccess o.code && s.access) = true := Bool.and_eq_true_iff.mpr ⟨needs, access⟩
  rw [taken, refreshed]
  exact if_pos refreshed
theorem judgeOrder_owned (prep : Bool) (atOnce : doneAtOnce o = true) (access : s.access = true) :
    judgeOrder prep h o s = reply h o.code (runOrder prep h o (refreshAccess o s)) := by
  have unlocked : ¬ (kindNeedsAccess o.code && !s.access) = true := by simp [access]
  unfold judgeOrder
  split
  · cases atOnce
  · cases atOnce
  · cases atOnce
  · exact if_neg unlocked
/-- R39, R176: an order that needs access, has it and is done at once is replied to as its owner answers. -/
theorem orderArrives_owned (takes : Takes h s) (access : s.access = true) (atOnce : doneAtOnce o = true)
    (needs : kindNeedsAccess o.code = true) :
    orderArrives h o s = .next (settle (reply h o.code (runOrder s.mgmt.prepare h o (taken o.code s)))) := by
  have room : ¬ (s.mgmt.restart.isSome || (!h.bcast && s.repliesFull)) = true := by
    cases cast : h.bcast <;> simp [takes.restart, takes.room, cast]
  have unprepared : (s.setMgmt { s.mgmt with prepare := false }).access = true := access
  have judged : takeOrder h o s = reply h o.code (runOrder s.mgmt.prepare h o (taken o.code s)) := by
    refine (if_neg room).trans ((judgeOrder_owned _ atOnce unprepared).trans ?_)
    rw [refreshAccess_taken needs access]
  rw [orderArrives, settled_powered _ takes.powered, if_pos takes.reach, judged]
/-- An owner that hands no change over leaves the Action Unit nothing to take. -/
theorem orderArrives_replied {r : Result} {fields : List Octet} {t : State} (takes : Takes h s) (access : s.access = true)
    (atOnce : doneAtOnce o = true) (needs : kindNeedsAccess o.code = true)
    (answers : runOrder s.mgmt.prepare h o (taken o.code s) = { state := t, result := r, fields := fields })
    (idle : NoNotices t) : orderArrives h o s = .next (replied h o.code r fields t) := by
  rw [orderArrives_owned takes access atOnce needs, answers]
  exact congrArg _ (settle_of_noNotices (noNotices_replied h o.code r fields idle))
end

/-! ## TRIP PREPARE and TRIP RESET (R39, R40) -/

theorem exec_tripPrepare (h : OrderHdr) (s : State) : exec (.tripPrepare h) s = orderArrives h .tripPrepare s := rfl
theorem exec_tripReset (h : OrderHdr) (s : State) : exec (.tripReset h) s = orderArrives h .tripReset s := rfl
theorem exec_outputSet (h : OrderHdr) (o f : Nat) (s : State) : exec (.outputSet h o f) s = orderArrives h (.outputSet o f) s := rfl
theorem exec_levelClear (h : OrderHdr) (s : State) : exec (.levelClear h) s = orderArrives h .levelClear s := rfl

theorem outsideLevel_clearLatch (s : State) : outsideLevel (clearLatch s) = outsideLevel s := by
  unfold clearLatch; split
  · rw [outsideLevel_reformLocal, outsideLevel_reformOutput, outsideLevel_mark]
    exact outsideLevel_setLevel s _ ⟨rfl, rfl, rfl, rfl, rfl⟩
  · rfl
/-- R38, R40: the latch reset, with the output as the ordered level gives it. -/
def LatchPart.unlatched (l : LatchPart) (output : Bool) : LatchPart where
  latch := false
  causes := []
  firstCause := none
  accumulated := l.accumulated
  output := output
  prepare := l.prepare
  held := ((l.markIf true .isolation).markIf (l.output != output) .isolation).held
theorem reformOutput_eq (s : State) : reformOutput s =
    (s.setLevel { s.level with output := s.outputOf }).markIf (s.level.output != s.outputOf) .isolation := by
  unfold reformOutput; split
  next same =>
    rw [same]
    have stands : (s.level.output != s.level.output) = false := bne_self_eq_false _
    rw [stands]
    rfl
  next changed =>
    have moves : (s.level.output != s.outputOf) = true := bne_iff_ne.mpr (Ne.symm changed)
    rw [moves]
    rfl
theorem latchPart_clearLatch {s : State} (latch : s.level.latch = true) :
    latchPart (clearLatch s) = (latchPart s).unlatched (decide (3 ≤ s.orderedLevel.val)) := by
  rw [clearLatch, if_pos latch, latchPart_reformLocal, reformOutput_eq, latchPart_markIf_eq _ _ rfl, LatchPart.unlatched,
    ← latchPart_markIf_eq s true (x := .isolation) rfl]
  rfl
theorem LatchPart.unlatched_held_isolation (l : LatchPart) (output : Bool) :
    (l.unlatched output).held .isolation = marked (1 + count (l.output ≠ output)) (l.held .isolation) := by
  rw [unlatched, markIf_held_same, markIf_held_same, if_pos rfl, count]
  by_cases same : l.output = output
  · simp [same, marked]
  · simp [same, marked]

/-- R40: TRIP RESET with its four conditions met. -/
theorem orderTripReset_done {prep : Bool} {s : State} (prepared : prep = true) (channels : s.channelsUnmet = false)
    (contacts : s.contactsUnmet = false) (store : s.mgmt.storeFault = false) :
    orderTripReset prep s = { state := clearLatch s, result := .done, fields := [] } := by
  rw [orderTripReset, prepared, channels, contacts, store]
  rfl
/-- Settles O22: a refusal by the four conditions, and an acceptance by what is left of the latch. -/
theorem tripResetNeedsItsConditions : Obligations.TripResetNeedsItsConditions := by
  refine ⟨fun h s takes access => ?_, fun h s takes access => ⟨fun unmet => ?_, fun prepared channels contacts store => ?_⟩⟩
  · rw [exec_tripPrepare]
    exact orderArrives_replied takes access rfl rfl rfl takes.settled
  · have refused : ¬ (s.mgmt.prepare && !(taken 16 s).channelsUnmet && !(taken 16 s).contactsUnmet &&
        !(taken 16 s).mgmt.storeFault) = true := by
      change ¬ (s.mgmt.prepare && !s.channelsUnmet && !s.contactsUnmet && !s.mgmt.storeFault) = true
      obtain clear | channels | contacts | store := unmet <;> simp [*]
    rw [exec_tripReset]
    exact orderArrives_replied takes access rfl rfl (if_neg refused) takes.settled
  · have accepted : runOrder s.mgmt.prepare h .tripReset (taken 16 s) =
        { state := clearLatch (taken 16 s), result := .done, fields := [] } :=
      orderTripReset_done prepared channels contacts store
    have run : exec (.tripReset h) s = .next (settle (replied h 16 .done [] (clearLatch (taken 16 s)))) := by
      rw [exec_tripReset, orderArrives_owned takes access rfl rfl]
      exact congrArg (fun a => Host.Outcome.next (settle (reply h 16 a))) accepted
    have level : outsideLevel (replied h 16 .done [] (clearLatch (taken 16 s))) = outsideLevel (replied h 16 .done [] (taken 16 s)) := by
      rw [outsideLevel_replied, outsideLevel_clearLatch, outsideLevel_replied]
    refine ⟨_, run, (outsideActions_settle _).trans (outsideActions_of_outsideLevel level), fun clear => ?_, fun set q => ?_⟩
    · have same : clearLatch (taken 16 s) = taken 16 s := if_neg (Bool.eq_false_iff.mp clear)
      rw [same]
      exact settle_of_noNotices (noNotices_replied h 16 .done [] takes.settled)
    · have quiet : Quiet (replied h 16 .done [] (clearLatch (taken 16 s))) :=
        quiet_replied _ _ _ _ (Quiet.of_outsideLevel (s := taken 16 s) ⟨q.queue, q.lists⟩ (outsideLevel_clearLatch _))
      have reset := latchPart_settle_quiet quiet
      rw [latchPart_replied, latchPart_clearLatch (s := taken 16 s) set] at reset
      refine ⟨congrArg LatchPart.latch reset, congrArg LatchPart.causes reset, congrArg LatchPart.firstCause reset,
        congrArg LatchPart.output reset, congrArg LatchPart.accumulated reset, ?_, (outsideLevel_settle_quiet quiet).trans level⟩
      exact (congrArg (fun l => l.held .isolation) reset).trans (LatchPart.unlatched_held_isolation _ _)

/-! ## The masters serve their waits (R109, R110) -/

/-! ### One master -/

/-- R109: what a claim at an end does to the master: granted, waiting, and by the table. -/
def masterGrant (e : BlockEnd) (t cycle : Nat) (m : Master) : Master :=
  let m := if m.waitAt e = some t then m.setWait e none else m
  { m with
    list := m.list ++ [{ tag := t, cycle := cycle, age := 0, overdue := false }]
    dir := some e.dir
    state := if m.state = .free then .held else m.state
    goTag := if e = .master then some t else m.goTag }
def masterWait (atTrip : Bool) (e : BlockEnd) (t : Nat) (m : Master) : Master :=
  let m := m.setWait e (some t)
  let m := if e = .master then { m with goTag := none } else m
  if m.state = .held ∧ m.opposed atTrip = true then { m with state := .draining } else m
def masterGrants (convoy : Nat) (atTrip : Bool) (e : BlockEnd) (m : Master) : Bool :=
  match m.state with
  | .free => e == .far || !atTrip
  | .held => m.dir == some e.dir && (e == .far || !atTrip) && decide (m.list.length < convoy) && !m.opposed atTrip
  | _ => false
def masterClaim (convoy cycle : Nat) (atTrip : Bool) (e : BlockEnd) (t : Nat) (m : Master) : Master :=
  if masterGrants convoy atTrip e m then masterGrant e t cycle m else masterWait atTrip e t m
/-- R110: a wait at an end decided again, and the master with its waits served. -/
def masterServeAt (convoy cycle : Nat) (atTrip : Bool) (m : Master) (e : BlockEnd) : Master :=
  match m.waitAt e with | some t => masterClaim convoy cycle atTrip e t m | none => m
def masterServe (convoy cycle : Nat) (atTrip : Bool) (m : Master) : Master :=
  match m.state with
  | .free => (serveOrder m.dir).foldl (masterServeAt convoy cycle atTrip) m
  | .held =>
    if m.opposed atTrip then { m with state := .draining }
    else match m.dir with
      | some d => match m.waitAt (entryEnd d) with
        | some t => if (entryEnd d == .far || !atTrip) && decide (m.list.length < convoy) then masterGrant (entryEnd d) t cycle m else m
        | none => m
      | none => m
  | _ => m

section
variable {convoy cycle : Nat} {atTrip : Bool} {m : Master} {e : BlockEnd} {t : Nat}

theorem setWait_same (wait : m.waitAt e = some t) : m.setWait e (some t) = m := by
  cases e <;> simp only [Master.waitAt] at wait <;> simp only [Master.setWait, ← wait]
theorem masterGrant_of_wait (wait : m.waitAt e = some t) (state : m.state = .free ∨ m.state = .held) :
    masterGrant e t cycle m = granted e t cycle m := by
  obtain free | held := state <;> cases e <;> simp [masterGrant, granted, Master.setWait, *]
/-- R110: in FREE a wait that is permitted is granted; at the master end at TRIP it stays, with no GO. -/
theorem masterServeAt_free (free : m.state = .free) (wait : m.waitAt e = some t) :
    masterServeAt convoy cycle atTrip m e = if e = .far ∨ atTrip = false then granted e t cycle m else { m with goTag := none } := by
  have grants : masterServeAt convoy cycle atTrip m e =
      if (e == .far || !atTrip) = true then masterGrant e t cycle m else masterWait atTrip e t m := by
    simp only [masterServeAt, masterClaim, masterGrants, wait, free]
  rw [grants, masterGrant_of_wait wait (.inl free), masterWait, setWait_same wait]
  cases e <;> cases atTrip <;> simp [free]
theorem masterServeAt_none (wait : m.waitAt e = none) : masterServeAt convoy cycle atTrip m e = m := by
  rw [masterServeAt, wait]
theorem serveOrder_eq (m : Master) : serveOrder m.dir = [firstEnd m, secondEnd m] := by
  rcases dir : m.dir with _ | _ | _ <;> simp [serveOrder, firstEnd, secondEnd, dir]
theorem masterServe_free (free : m.state = .free) : masterServe convoy cycle atTrip m =
    masterServeAt convoy cycle atTrip (masterServeAt convoy cycle atTrip m (firstEnd m)) (secondEnd m) := by
  simp only [masterServe, free, serveOrder_eq, List.foldl_cons, List.foldl_nil]
/-- R109, R110: a wait at the end that a held direction does not enter stays, and turns the block to DRAINING where it opposes. -/
theorem masterServeAt_held {d : Side} (held : m.state = .held) (dir : m.dir = some d) (away : d ≠ e.dir) (wait : m.waitAt e = some t) :
    masterServeAt convoy cycle atTrip m e =
      { m with
        goTag := if e = .master then none else m.goTag
        state := if e = .far ∨ atTrip = false then .draining else .held } := by
  have noGrant : (m.dir == some e.dir) = false := by simp [dir, away]
  have waits : masterServeAt convoy cycle atTrip m e = masterWait atTrip e t m := by
    simp [masterServeAt, masterClaim, masterGrants, wait, held, noGrant]
  rw [waits, masterWait, setWait_same wait]
  cases e <;> cases d <;> cases atTrip <;> simp_all [Master.opposed, Master.waitAt, BlockEnd.dir]
/-- R110: the two ends in the order of serving are the two ends of the block. -/
theorem ends_eq (m : Master) : firstEnd m = .master ∧ secondEnd m = .far ∨ firstEnd m = .far ∧ secondEnd m = .master := by
  unfold firstEnd secondEnd; split <;> simp
theorem second_ne_first (m : Master) : secondEnd m ≠ firstEnd m := by
  obtain ⟨first, second⟩ | ⟨first, second⟩ := ends_eq m <;> rw [first, second] <;> simp
theorem entryEnd_dir (e : BlockEnd) : entryEnd e.dir = e := by cases e <;> rfl
theorem waitAt_granted {e' : BlockEnd} (ne : e' ≠ e) : (granted e t cycle m).waitAt e' = m.waitAt e' := by
  cases e <;> cases e' <;> simp_all [granted, Master.setWait, Master.waitAt]
end

/-- R110: what the table leaves is what serving the waits is said to leave. -/
theorem waitsServed_masterServe (convoy cycle : Nat) (atTrip : Bool) (m : Master) :
    WaitsServed convoy cycle atTrip (firstEnd m) (secondEnd m) m (masterServe convoy cycle atTrip m) where
  idle mw fw := by
    have none (e : BlockEnd) : m.waitAt e = none := by cases e <;> assumption
    have unopposed : m.opposed atTrip = false := by
      rcases dir : m.dir with _ | _ | _ <;> simp [Master.opposed, dir, mw, fw]
    cases state : m.state with
    | free => rw [masterServe_free state, masterServeAt_none (none _), masterServeAt_none (none _)]
    | held => cases dir : m.dir <;> simp [masterServe, state, unopposed, dir, none]
    | _ => simp only [masterServe, state]
  alone e t free one wait := by
    rw [masterServe_free free]
    obtain ⟨rfl, none⟩ | ⟨rfl, none⟩ := one
    · rw [masterServeAt_free free wait]
      refine masterServeAt_none ?_
      split
      · exact (waitAt_granted (second_ne_first m)).trans none
      · exact none
    · rw [masterServeAt_none none, masterServeAt_free free wait]
  both t t' free w w' := by
    rw [masterServe_free free, masterServeAt_free free w]
    by_cases stays : firstEnd m = .master ∧ atTrip = true
    · obtain ⟨master, trip⟩ := stays
      have far : secondEnd m = .far := by obtain ends | ends := ends_eq m <;> simp_all
      rw [if_neg (by simp [master, trip]), if_pos ⟨master, trip⟩,
        masterServeAt_free (m := { m with goTag := none }) free w', if_pos (.inl far), far]
    · have permitted : firstEnd m = .far ∨ atTrip = false := by
        obtain ends | ends := ends_eq m <;> simp_all
      have away : (firstEnd m).dir ≠ (secondEnd m).dir := by obtain ends | ends := ends_eq m <;> simp [ends, BlockEnd.dir]
      rw [if_pos permitted, if_neg stays]
      exact masterServeAt_held rfl rfl away ((waitAt_granted (second_ne_first m)).trans w')
  opposed held opposed := by
    simp only [masterServe, held, opposed, if_true]
  entry e t held unopposed dir wait := by
    have grants : masterServe convoy cycle atTrip m =
        if (e == .far || !atTrip) && decide (m.list.length < convoy) then masterGrant e t cycle m else m := by
      simp [masterServe, held, unopposed, dir, entryEnd_dir, wait]
    rw [grants, masterGrant_of_wait wait (.inr held)]
    simp
  empty e held unopposed dir wait := by
    simp [masterServe, held, unopposed, dir, entryEnd_dir, wait]
  others notFree notHeld := by
    unfold masterServe
    split
    · exact absurd ‹_› notFree
    · exact absurd ‹_› notHeld
    · rfl

/-! ### The masters' part of the state -/

/-- The masters, and what serving their waits reads beside them. -/
structure BlockPart where
  masters   : BlockIx → Master
  working   : Tables
  cycle     : Nat
  effective : Level
def blockPart (s : State) : BlockPart :=
  { masters := s.master, working := s.working, cycle := s.line.cycle, effective := s.level.effective }
namespace BlockPart
def atTrip (p : BlockPart) : Bool := 3 ≤ p.effective.val
theorem atTrip_iff (p : BlockPart) : p.atTrip = true ↔ 3 ≤ p.effective.val := decide_eq_true_iff
def isMaster (p : BlockPart) (i : BlockIx) : Bool :=
  p.working.commission.station != 0 && (p.working.blocks.get i).id != 0 && (p.working.blocks.get i).role == .master
def set (p : BlockPart) (i : BlockIx) (m : Master) : BlockPart := { p with masters := Function.update p.masters i m }
/-- R110: the master of an entry with its waits served. -/
def serve (p : BlockPart) (i : BlockIx) : Master :=
  masterServe (p.working.blocks.get i).convoy p.cycle p.atTrip (p.masters i)
/-- R124: the master of an entry when the level has fallen from TRIP. -/
def fallen (p : BlockPart) (i : BlockIx) : Master :=
  if p.isMaster i = true ∧ ((p.masters i).state = .free ∨ (p.masters i).state = .held) then p.serve i else p.masters i
@[simp] theorem set_self (p : BlockPart) (i : BlockIx) : p.set i (p.masters i) = p := by
  rw [set, Function.update_eq_self]
@[simp] theorem set_set (p : BlockPart) (i : BlockIx) (m n : Master) : (p.set i m).set i n = p.set i n := by
  simp [set]
@[simp] theorem masters_set (p : BlockPart) (i : BlockIx) (m : Master) : (p.set i m).masters i = m := by simp [set]
end BlockPart

section
variable (s : State)

@[simp] theorem blockPart_setCall (r : RecId) (x : CallRec) : blockPart (s.setCall r x) = blockPart s := rfl
@[simp] theorem blockPart_setCalls (c : Calls) : blockPart (s.setCalls c) = blockPart s := rfl
@[simp] theorem blockPart_setSlot (e : SlotIx) (x : SlotEntry) : blockPart (s.setSlot e x) = blockPart s := rfl
@[simp] theorem blockPart_setSlots (x : SlotSwitch) : blockPart (s.setSlots x) = blockPart s := rfl
@[simp] theorem blockPart_setSpur (p : SpurId) (x : Spur) : blockPart (s.setSpur p x) = blockPart s := rfl
@[simp] theorem blockPart_setRefuge (r : PairIx) (x : Refuge) : blockPart (s.setRefuge r x) = blockPart s := rfl
@[simp] theorem blockPart_setAction (a : ActionUnit) : blockPart (s.setAction a) = blockPart s := rfl
@[simp] theorem blockPart_mark (x : Source) : blockPart (s.mark x) = blockPart s := rfl
@[simp] theorem blockPart_markIf (b : Bool) (x : Source) : blockPart (s.markIf b x) = blockPart s := by cases b <;> rfl
@[simp] theorem blockPart_notify (n : Notice) : blockPart (s.notify n) = blockPart s := rfl
@[simp] theorem blockPart_setPort (d : Side) (x : LinePort) : blockPart (s.setPort d x) = blockPart s := by cases d <;> rfl
theorem blockPart_setLevel (l : LevelUnit) (h : l.effective = s.level.effective) : blockPart (s.setLevel l) = blockPart s := by
  simp only [blockPart, State.setLevel_level, h]
  rfl
theorem blockPart_setMaster (i : BlockIx) (m : Master) : blockPart (s.setMaster i m) = (blockPart s).set i m := by
  have masters : (s.setMaster i m).master = Function.update s.master i m := by
    funext j
    by_cases same : j = i
    · subst same
      simp [State.master]
    · simp [State.master, Tab.get_put_ne _ _ same, same]
  simp only [blockPart, masters]
  rfl
/-- The walk over a table keeps what its turns keep. -/
theorem blockPart_forEach (n : Nat) (f : Fin n → State → State) (h : ∀ i s, blockPart (f i s) = blockPart s) :
    blockPart (forEach n f s) = blockPart s := forEach_keeps blockPart n f h s

/-! ### What leaves it alone -/

@[simp] theorem blockPart_offer (p : SpurId) (m : OutMsg) : blockPart (offer p m s) = blockPart s := by
  unfold offer; split <;> simp
@[simp] theorem blockPart_tone (p : SpurId) (t : Tone) : blockPart (tone p t s) = blockPart s := blockPart_offer s p _
@[simp] theorem blockPart_toneOpt (p : Option SpurId) (t : Tone) : blockPart (toneOpt p t s) = blockPart s := by
  cases p <;> simp [toneOpt]
@[simp] theorem blockPart_ringOpt (p : Option SpurId) (b : Bool) : blockPart (ringOpt p b s) = blockPart s := by
  cases p <;> simp [ringOpt]
@[simp] theorem blockPart_post (d : Side) (m : NMsg) : blockPart (post d m s) = blockPart s := by
  unfold post; split
  · simp
  · cases d <;> rfl
@[simp] theorem blockPart_enterCall (r : RecId) (st : CallState) (f : CallRec → CallRec) :
    blockPart (enterCall r st f s) = blockPart s := by simp [enterCall]
@[simp] theorem blockPart_dropPair (x : CallRec) : blockPart (dropPair x s) = blockPart s := by
  unfold dropPair; split <;> (try split) <;> simp [removePair]
@[simp] theorem blockPart_dropBridge (x : CallRec) : blockPart (dropBridge x s) = blockPart s := by
  unfold dropBridge; split <;> simp
@[simp] theorem blockPart_clearTones (c : ClearCause) (l : List SpurId) : blockPart (clearTones c l s) = blockPart s :=
  foldl_keeps blockPart _ (fun s p => by split <;> simp) l s
@[simp] theorem blockPart_clearCall (r : RecId) (c : ClearCause) : blockPart (clearCall r c s) = blockPart s := by
  simp only [clearCall]; split
  · split <;> simp
  · rfl
@[simp] theorem blockPart_clearWhere (p : CallRec → Bool) (c : ClearCause) : blockPart (clearWhere p c s) = blockPart s :=
  blockPart_forEach s 16 _ fun r s => by split <;> simp
@[simp] theorem blockPart_ringStep (r : RecId) : blockPart (ringStep r s) = blockPart s := by
  simp only [ringStep]; repeat' split
  all_goals simp
@[simp] theorem blockPart_proceedCall (r : RecId) : blockPart (proceedCall r s) = blockPart s := by
  simp only [proceedCall, requestCall]; repeat' split
  all_goals simp
@[simp] theorem blockPart_callsAtMask (old new : Nat) : blockPart (callsAtMask old new s) = blockPart s := by
  unfold callsAtMask; split
  · exact blockPart_clearWhere s _ _
  · exact foldl_keeps blockPart _ (fun s r => by split <;> simp) _ s
@[simp] theorem blockPart_refugeSpurOffer (r : PairIx) (m : OutMsg) : blockPart (refugeSpurOffer r m s) = blockPart s := by
  unfold refugeSpurOffer; split <;> simp
@[simp] theorem blockPart_sendPrepare (r : PairIx) : blockPart (sendPrepare r s) = blockPart s := by simp [sendPrepare]
@[simp] theorem blockPart_standdownTest (r : PairIx) : blockPart (standdownTest r s) = blockPart s := by
  simp only [standdownTest]; split <;> simp
@[simp] theorem blockPart_refugesAtLevelBut (stay : PairIx → Bool) (old : Level) :
    blockPart (refugesAtLevelBut stay old s) = blockPart s := by
  simp only [refugesAtLevelBut]; repeat' split
  · exact blockPart_forEach s 2 _ fun r s => by split <;> simp
  · exact blockPart_forEach s 2 _ fun r s => by split <;> simp
  · rfl
@[simp] theorem blockPart_reformDrives : blockPart (reformDrives s) = blockPart s :=
  blockPart_forEach s 2 _ fun o s => by
    unfold reformDrive; split
    · rfl
    · exact (blockPart_mark _ _).trans (blockPart_setLevel s _ rfl)
@[simp] theorem blockPart_reformMask : blockPart (reformMask s) = blockPart s := by
  simp only [reformMask]; split
  · rfl
  · rw [blockPart_callsAtMask, blockPart_mark]; exact blockPart_setLevel s _ rfl
@[simp] theorem blockPart_reformLights : blockPart (reformLights s) = blockPart s :=
  blockPart_forEach s 8 _ fun p s => by
    simp only [reformLight]; generalize (if s.spurType p = .truck then s.lightOf p else .dark) = l
    split
    · rfl
    · exact blockPart_offer _ p _
@[simp] theorem blockPart_reformStopAll : blockPart (reformStopAll s) = blockPart s := by
  unfold reformStopAll; split
  · rfl
  · exact blockPart_forEach _ 8 _ fun p s => by split <;> simp
/-- R116: an event of a master is its own work to the masters. -/
theorem blockPart_masterEvent (i : BlockIx) (f : State → State) : blockPart (masterEvent i f s) = blockPart (f s) := by
  simp only [masterEvent, blockPart_reformLights, postState]
  repeat' split
  all_goals simp
@[simp] theorem blockPart_replied (h : OrderHdr) (code : Nat) (r : Result) (fields : List Octet) :
    blockPart (replied h code r fields s) = blockPart s := by
  unfold replied; split <;> rfl

/-! ### The waits served -/

theorem blockPart_grantClaim (i : BlockIx) (e : BlockEnd) (t : Nat) :
    blockPart (grantClaim i e t s) = (blockPart s).set i (masterGrant e t s.line.cycle (s.master i)) := by
  simp only [grantClaim, blockPart_mark]
  split <;> simp only [blockPart_post, blockPart_setMaster, masterGrant]
theorem blockPart_waitClaim (i : BlockIx) (e : BlockEnd) (t : Nat) :
    blockPart (waitClaim i e t s) = (blockPart s).set i (masterWait s.atTrip e t (s.master i)) := by
  simp only [waitClaim, blockPart_mark, masterWait]
  split <;> simp only [blockPart_post, blockPart_setMaster, State.atTrip]
theorem blockPart_decideClaim (i : BlockIx) (e : BlockEnd) (t : Nat) : blockPart (decideClaim i e t s) =
    (blockPart s).set i (masterClaim (s.working.blocks.get i).convoy s.line.cycle s.atTrip e t (s.master i)) := by
  have decides : decideClaim i e t s = if masterGrants (s.working.blocks.get i).convoy s.atTrip e (s.master i) = true
      then grantClaim i e t s else waitClaim i e t s := rfl
  rw [decides, masterClaim]
  split
  · exact blockPart_grantClaim s i e t
  · exact blockPart_waitClaim s i e t
/-- R110: a wait at an end decided again. -/
def serveAt (i : BlockIx) (s : State) (e : BlockEnd) : State :=
  match (s.master i).waitAt e with | some t => decideClaim i e t s | none => s
theorem blockPart_serveAt (i : BlockIx) (e : BlockEnd) : blockPart (serveAt i s e) =
    (blockPart s).set i (masterServeAt (s.working.blocks.get i).convoy s.line.cycle s.atTrip (s.master i) e) := by
  cases wait : (s.master i).waitAt e with
  | none => simp only [serveAt, masterServeAt, wait]; exact ((blockPart s).set_self i).symm
  | some t => simp only [serveAt, masterServeAt, wait]; exact blockPart_decideClaim s i e t
theorem blockPart_serveEnds (i : BlockIx) (l : List BlockEnd) : blockPart (l.foldl (serveAt i) s) =
    (blockPart s).set i (l.foldl (masterServeAt (s.working.blocks.get i).convoy s.line.cycle s.atTrip) (s.master i)) := by
  induction l generalizing s with
  | nil => exact ((blockPart s).set_self i).symm
  | cons e l ih =>
    have turn := blockPart_serveAt s i e
    rw [List.foldl_cons, List.foldl_cons, ih]
    generalize serveAt i s e = u at turn ⊢
    have master : u.master i = _ := (congrArg (fun p => p.masters i) turn).trans (BlockPart.masters_set ..)
    have working : u.working = s.working := congrArg BlockPart.working turn
    have cycle : u.line.cycle = s.line.cycle := congrArg BlockPart.cycle turn
    have trip : u.atTrip = s.atTrip := congrArg BlockPart.atTrip turn
    rw [turn, master, working, cycle, trip, BlockPart.set_set]
theorem serveWaits_free {i : BlockIx} (free : (s.master i).state = .free) :
    serveWaits i s = (serveOrder (s.master i).dir).foldl (serveAt i) s := by
  simp only [serveWaits, free]
  rfl
theorem blockPart_serveWaits (i : BlockIx) : blockPart (serveWaits i s) = (blockPart s).set i ((blockPart s).serve i) := by
  have stands : blockPart s = (blockPart s).set i (s.master i) := ((blockPart s).set_self i).symm
  have served : (blockPart s).serve i = masterServe (s.working.blocks.get i).convoy s.line.cycle s.atTrip (s.master i) := rfl
  rw [served]
  cases state : (s.master i).state with
  | free =>
    rw [serveWaits_free s state, blockPart_serveEnds]
    simp only [masterServe, state]
  | held =>
    simp only [serveWaits, masterServe, state]
    split
    · rw [blockPart_mark, blockPart_setMaster]
    · cases (s.master i).dir with
      | none => exact stands
      | some d =>
        cases wait : (s.master i).waitAt (entryEnd d) with
        | none => simp only [wait]; exact stands
        | some t =>
          simp only [wait]
          change _ = (blockPart s).set i (if (s.permitted (entryEnd d) && s.convoyRoom i) = true
            then masterGrant (entryEnd d) t s.line.cycle (s.master i) else s.master i)
          split
          · exact blockPart_grantClaim s i _ t
          · exact stands
  | _ => simp only [serveWaits, masterServe, state]; exact stands

/-! ### The level falls from TRIP (R124) -/

/-- A walk whose turns set one master each, from what no other turn moves, sets them all. -/
theorem blockPart_walk (f : BlockIx → State → State) (g : BlockPart → BlockIx → Master)
    (turn : ∀ i s, blockPart (f i s) = (blockPart s).set i (g (blockPart s) i))
    (apart : ∀ p i j m, j ≠ i → g (p.set i m) j = g p j) :
    blockPart (forEach 4 f s) = { blockPart s with masters := g (blockPart s) } := by
  have walk (l : List BlockIx) (once : l.Nodup) (s : State) : blockPart (l.foldl (fun s i => f i s) s) =
      { blockPart s with masters := fun j => if j ∈ l then g (blockPart s) j else s.master j } := by
    induction l generalizing s with
    | nil => simp; rfl
    | cons i l ih =>
      obtain ⟨fresh, once⟩ := List.nodup_cons.mp once
      have masters (j : BlockIx) : (f i s).master j = if j = i then g (blockPart s) i else s.master j := by
        have moved := congrArg (fun p => p.masters j) (turn i s)
        exact moved.trans (Function.update_apply ..)
      rw [List.foldl_cons, ih once, turn]
      have after : (fun j => if j ∈ l then g ((blockPart s).set i (g (blockPart s) i)) j else (f i s).master j) =
          fun j => if j ∈ i :: l then g (blockPart s) j else s.master j := by
        funext j
        by_cases same : j = i
        · subst same
          simp [fresh, masters]
        · simp [same, masters, apart _ _ _ _ same]
      rw [after]
      rfl
  rw [forEach, walk _ (List.nodup_finRange 4)]
  simp
theorem blockPart_blocksAtLevel (wasTrip : Bool) : blockPart (blocksAtLevel wasTrip s) =
    if (wasTrip && !s.atTrip) = true then { blockPart s with masters := (blockPart s).fallen } else blockPart s := by
  simp only [blocksAtLevel, blockPart_reformStopAll, blockPart_reformLights]
  split
  · refine blockPart_walk s _ BlockPart.fallen (fun i s => ?_) (fun p i j m ne => ?_)
    · split
      next serves =>
        have fallen : (blockPart s).fallen i = (blockPart s).serve i := if_pos serves
        rw [blockPart_masterEvent, blockPart_serveWaits, fallen]
      next stays =>
        have fallen : (blockPart s).fallen i = s.master i := if_neg stays
        rw [fallen]
        exact ((blockPart s).set_self i).symm
    · have other : (p.set i m).masters j = p.masters j := Function.update_of_ne ne _ _
      simp only [BlockPart.fallen, BlockPart.serve, other]
      rfl
  · rfl

/-- R110, R124: the masters when the effective level has changed. -/
def BlockPart.atLevel (p : BlockPart) (l : Level) : BlockPart :=
  let q := { p with effective := l }
  if (p.atTrip && !q.atTrip) = true then { q with masters := q.fallen } else q
theorem blockPart_reformEffectiveBut (stay : PairIx → Bool) :
    blockPart (reformEffectiveBut stay s) = (blockPart s).atLevel s.effectiveOf := by
  simp only [reformEffectiveBut]
  split
  next same =>
    have still : ¬ ((blockPart s).atTrip && !(blockPart s).atTrip) = true := by simp
    rw [same]
    exact (if_neg still).symm
  next =>
    rw [blockPart_notify, blockPart_refugesAtLevelBut, blockPart_blocksAtLevel]
    have moved : blockPart (reformDrives (reformMask ((s.setLevel { s.level with effective := s.effectiveOf }).mark .level))) =
        { blockPart s with effective := s.effectiveOf } := by
      rw [blockPart_reformDrives, blockPart_reformMask]
      rfl
    have trip : (reformDrives (reformMask ((s.setLevel { s.level with effective := s.effectiveOf }).mark .level))).atTrip =
        ({ blockPart s with effective := s.effectiveOf } : BlockPart).atTrip := congrArg BlockPart.atTrip moved
    rw [moved, trip]
    rfl
theorem blockPart_reformLocal : ∃ l, blockPart (reformLocal s) = (blockPart s).atLevel l := by
  simp only [reformLocal, reformLocalBut]
  split
  next =>
    have still : ¬ ((blockPart s).atTrip && !(blockPart s).atTrip) = true := by simp
    exact ⟨s.level.effective, (if_neg still).symm⟩
  next => exact ⟨_, blockPart_reformEffectiveBut _ _⟩
end

section
variable {p : BlockPart} {s t : State} {l : Level}

theorem effective_of_atLevel (moved : blockPart t = (blockPart s).atLevel l) : t.level.effective = l := by
  have effective : ((blockPart s).atLevel l).effective = l := by simp only [BlockPart.atLevel]; split <;> rfl
  exact (congrArg BlockPart.effective moved).trans effective
/-- R124: below TRIP before, or at it after, the masters stand. -/
theorem masters_of_atLevel_stands (moved : blockPart t = (blockPart s).atLevel l)
    (stands : s.level.effective.val < 3 ∨ 3 ≤ t.level.effective.val) (i : BlockIx) : t.master i = s.master i := by
  have same : ¬ ((blockPart s).atTrip && !({ blockPart s with effective := l } : BlockPart).atTrip) = true := by
    rw [effective_of_atLevel moved] at stands
    rw [Bool.and_eq_true, Bool.not_eq_true', ← Bool.not_eq_true, BlockPart.atTrip_iff, BlockPart.atTrip_iff]
    change ¬ (3 ≤ s.level.effective.val ∧ ¬ 3 ≤ l.val)
    omega
  rw [BlockPart.atLevel, if_neg same] at moved
  exact congrArg (fun p => p.masters i) moved
/-- R110, R124: from TRIP to below it, each configured master in FREE or HELD serves its waits and the others stand. -/
theorem masters_of_atLevel_falls (moved : blockPart t = (blockPart s).atLevel l) (before : 3 ≤ s.level.effective.val)
    (below : t.level.effective.val < 3) (i : BlockIx) :
    (s.isMaster i = true → (s.master i).state = .free ∨ (s.master i).state = .held → Served i t (s.master i) (t.master i)) ∧
    (s.isMaster i = false ∨ (s.master i).state ≠ .free ∧ (s.master i).state ≠ .held → t.master i = s.master i) := by
  have falls : ((blockPart s).atTrip && !({ blockPart s with effective := l } : BlockPart).atTrip) = true := by
    rw [effective_of_atLevel moved] at below
    rw [Bool.and_eq_true, Bool.not_eq_true', ← Bool.not_eq_true, BlockPart.atTrip_iff, BlockPart.atTrip_iff]
    exact ⟨before, Nat.not_le.mpr below⟩
  rw [BlockPart.atLevel, if_pos falls] at moved
  have masters : t.master i = ({ blockPart s with effective := l } : BlockPart).fallen i := congrArg (fun p => p.masters i) moved
  refine ⟨fun used state => ?_, fun apart => ?_⟩
  · have serves : t.master i = ({ blockPart s with effective := l } : BlockPart).serve i := masters.trans (if_pos ⟨used, state⟩)
    have working : t.working = s.working := congrArg BlockPart.working moved
    have cycle : t.line.cycle = s.line.cycle := congrArg BlockPart.cycle moved
    have trip : t.atTrip = ({ blockPart s with effective := l } : BlockPart).atTrip := congrArg BlockPart.atTrip moved
    rw [Served, serves, working, cycle, trip]
    exact waitsServed_masterServe _ _ _ _
  · refine masters.trans (if_neg fun ⟨used, state⟩ => ?_)
    obtain unused | ⟨notFree, notHeld⟩ := apart
    · exact absurd used (Bool.eq_false_iff.mp unused)
    · exact state.elim notFree notHeld
end

/-! ## OUTPUT SET and LEVEL CLEAR (R45, R46) -/

theorem reformDrive_eq (o : PairIx) (s : State) : reformDrive o s =
    (s.setLevel { s.level with drive := s.level.drive.put o (s.driveOf o) }).markIf (s.driveOf o != s.level.drive.get o) .level := by
  unfold reformDrive; split
  next same =>
    have stands : (s.level.drive.get o != s.level.drive.get o) = false := bne_self_eq_false _
    rw [same, stands, Tab.put_get]
    rfl
  next changed => rw [bne_iff_ne.mpr changed]; rfl
/-- R44, R45: a force set reaches its own drive beside the force, and the marks. -/
theorem setForce_frame (o : PairIx) (f : Force) (s : State) : ∃ holding, setForce o f s =
    (s.setLevel
      { s.level with
        force := s.level.force.put o f
        drive := s.level.drive.put o ((s.setLevel { s.level with force := s.level.force.put o f }).driveOf o) }).setMgmt
      { s.mgmt with holding := holding } := by
  rw [setForce, reformDrive_eq]
  exact markIf_frame _ _ _
theorem replied_setLevel_holding (h : OrderHdr) (code : Nat) (r : Result) (fields : List Octet) (s : State) (l : LevelUnit)
    (holding : Tab 58 (Option Nat)) :
    replied h code r fields ((s.setLevel l).setMgmt { s.mgmt with holding := holding }) =
      { replied h code r fields s with
        level := l, mgmt := { (replied h code r fields s).mgmt with holding := holding } } := by
  unfold replied; split <;> rfl
theorem driveOf_forced (o : PairIx) (f : Force) (s : State) :
    (s.setLevel { s.level with force := s.level.force.put o f }).driveOf o = match f with
      | .on => true
      | .off => false
      | .follow => match s.working.commission.outLevels.get o with
        | some l => decide (l.val ≤ s.level.effective.val)
        | none => false := by
  rw [State.driveOf, State.setLevel_level, Tab.get_put_same]
  rfl
theorem orderOutputSet_done {o f : Nat} {k : PairIx} {x : Force} (output : identIx 2 o = some k) (force : forceOf f = some x)
    (s : State) : orderOutputSet o f s = { state := setForce k x s, result := .done, fields := [] } := by
  rw [orderOutputSet, output, force]
  rfl
theorem orderOutputSet_invalid {o f : Nat} (out : identIx 2 o = none ∨ forceOf f = none) (s : State) :
    orderOutputSet o f s = { state := s, result := .invalid, fields := [] } := by
  unfold orderOutputSet
  split
  next output force => simp [output, force] at out
  next => rfl

/-- R46: LEVEL CLEAR as its owner leaves it. -/
def holdCleared (s : State) : State := s.setLevel { s.level with hold := 0 }

/-- Settles O23: OUTPUT SET by the frame of a force, and LEVEL CLEAR by what a change of the level does to the masters. -/
theorem outputSetAndLevelClear : Obligations.OutputSetAndLevelClear := by
  refine ⟨fun h o f s takes access => ⟨fun k x output force => ?_, fun out => ?_⟩, fun h s takes access => ?_⟩
  · obtain ⟨holding, set⟩ := setForce_frame k x (taken 22 s)
    have idle : NoNotices (setForce k x (taken 22 s)) := by rw [set]; exact takes.settled
    have run := orderArrives_replied (o := .outputSet o f) takes access rfl rfl (orderOutputSet_done output force (taken 22 s)) idle
    rw [set] at run
    refine ⟨_, (exec_outputSet h o f s).trans run, ?_⟩
    rw [replied_setLevel_holding]
    refine ⟨rfl, ?_, fun j ne => Tab.get_put_ne _ _ ne, rfl⟩
    exact (Tab.get_put_same _ _ _).trans (driveOf_forced k x (taken 22 s))
  · rw [exec_outputSet]
    exact orderArrives_replied takes access rfl rfl (orderOutputSet_invalid out _) takes.settled
  · have run : exec (.levelClear h) s = .next (settle (replied h 20 .done [] (reformLocal (holdCleared (taken 20 s))))) := by
      rw [exec_levelClear, orderArrives_owned takes access rfl rfl]
      rfl
    have level : outsideLevel (replied h 20 .done [] (reformLocal (holdCleared (taken 20 s)))) =
        outsideLevel ((replied h 20 .done [] (taken 20 s)).setLevel { s.level with hold := 0 }) := by
      rw [outsideLevel_replied, outsideLevel_reformLocal, ← outsideLevel_replied]
      unfold replied; split <;> rfl
    have quiet (q : Quiet s) : Quiet (replied h 20 .done [] (reformLocal (holdCleared (taken 20 s)))) :=
      quiet_replied _ _ _ _ (Quiet.of_outsideLevel (s := holdCleared (taken 20 s)) ⟨q.queue, q.lists⟩ (outsideLevel_reformLocal _))
    obtain ⟨l, cleared⟩ := blockPart_reformLocal (holdCleared (taken 20 s))
    have moved (q : Quiet s) : blockPart (settle (replied h 20 .done [] (reformLocal (holdCleared (taken 20 s))))) =
        (blockPart s).atLevel l := by
      rw [settle_quiet (quiet q), blockPart_setAction, blockPart_replied, cleared]
      rfl
    refine ⟨_, run, ?_, fun q => (outsideLevel_settle_quiet (quiet q)).trans level,
      fun q before below => masters_of_atLevel_falls (moved q) before below,
      fun q stands => masters_of_atLevel_stands (moved q) stands⟩
    refine (outsideActions_settle _).trans ((outsideActions_of_outsideLevel level).trans ?_)
    unfold replied; split <;> rfl

end Sys2Proof.Safety
end

section
/-! PROOFS. The family of the roadway line: what the conditions of the line read, with the mark of LINE, and that every operation but
the line ports' own leaves it as it was. -/

namespace Sys2Proof.Safety
open Sys2Proof.Machine

/-! ## The line's part of the state -/

/-- R62: a port's queue is within its bound, and empty while the port is LOST. -/
def queueFits (x : LinePort) : Prop := x.queue.length ≤ 8 ∧ (x.up = false → x.queue = [])
/-- What the conditions of the line ports read. -/
structure LinePart where
  inUp       : Bool
  outUp      : Bool
  endOfLine  : Bool
  autonomous : Bool
  rxSurface  : Bool
  inFits     : Prop
  outFits    : Prop
def linePart (s : State) : LinePart :=
  { inUp := s.line.inPort.up, outUp := s.line.outPort.up, endOfLine := s.line.endOfLine, autonomous := s.line.autonomous
    rxSurface := s.line.rxSurface, inFits := queueFits s.line.inPort, outFits := queueFits s.line.outPort }
/-- The line's part with the mark of the LINE source. -/
structure LineView where
  part : LinePart
  held : Option Nat
def lineView (s : State) : LineView := { part := linePart s, held := s.held .line }

section
variable {s t : State}
theorem linePart_of_lineView (h : lineView t = lineView s) : linePart t = linePart s := congrArg LineView.part h
theorem held_of_lineView (h : lineView t = lineView s) : t.held .line = s.held .line := congrArg LineView.held h
theorem lineView_eq (hl : linePart t = linePart s) (hm : t.held .line = s.held .line) : lineView t = lineView s :=
  congrArg₂ LineView.mk hl hm
/-- A port that stands UP as it did, with a queue that fits where it did. -/
theorem linePart_setPort (s : State) (d : Side) (x : LinePort) (up : x.up = (s.port d).up) (fits : queueFits x ↔ queueFits (s.port d)) :
    linePart (s.setPort d x) = linePart s := by
  cases d <;> simp_all [linePart, State.port]
end

/-! ### The writes of one record -/

section
variable (s : State)

@[simp] theorem lineView_setCall (r : RecId) (x : CallRec) : lineView (s.setCall r x) = lineView s := rfl
@[simp] theorem lineView_setCalls (c : Calls) : lineView (s.setCalls c) = lineView s := rfl
@[simp] theorem lineView_setHook (p : SpurId) (b : Bool) : lineView (s.setHook p b) = lineView s := rfl
@[simp] theorem lineView_setSlot (e : SlotIx) (x : SlotEntry) : lineView (s.setSlot e x) = lineView s := rfl
@[simp] theorem lineView_setSlots (x : SlotSwitch) : lineView (s.setSlots x) = lineView s := rfl
@[simp] theorem lineView_setSpur (p : SpurId) (x : Spur) : lineView (s.setSpur p x) = lineView s := rfl
@[simp] theorem lineView_setChan (c : ChanId) (x : Channel) : lineView (s.setChan c x) = lineView s := rfl
@[simp] theorem lineView_setRefuge (r : PairIx) (x : Refuge) : lineView (s.setRefuge r x) = lineView s := rfl
@[simp] theorem lineView_setMaster (i : BlockIx) (m : Master) : lineView (s.setMaster i m) = lineView s := rfl
@[simp] theorem lineView_setFar (i : BlockIx) (f : FarEnd) : lineView (s.setFar i f) = lineView s := rfl
@[simp] theorem lineView_setBlocks (b : Blocks) : lineView (s.setBlocks b) = lineView s := rfl
@[simp] theorem lineView_setLevel (l : LevelUnit) : lineView (s.setLevel l) = lineView s := rfl
@[simp] theorem lineView_setAction (a : ActionUnit) : lineView (s.setAction a) = lineView s := rfl
@[simp] theorem lineView_setWorking (t : Tables) : lineView (s.setWorking t) = lineView s := rfl
@[simp] theorem lineView_notify (n : Notice) : lineView (s.notify n) = lineView s := rfl
theorem lineView_setMgmt (m : Mgmt) (h : m.holding = s.mgmt.holding) : lineView (s.setMgmt m) = lineView s := by
  simp [lineView, State.held, linePart, h]
@[simp] theorem linePart_setMgmt (m : Mgmt) : linePart (s.setMgmt m) = linePart s := rfl
@[simp] theorem linePart_mark (x : Source) : linePart (s.mark x) = linePart s := rfl
@[simp] theorem linePart_markIf (b : Bool) (x : Source) : linePart (s.markIf b x) = linePart s := by cases b <;> rfl
@[simp] theorem lineView_mark {x : Source} (h : x ≠ .line) : lineView (s.mark x) = lineView s :=
  lineView_eq rfl (held_mark_ne s h.symm)
@[simp] theorem lineView_markIf (b : Bool) {x : Source} (h : x ≠ .line) : lineView (s.markIf b x) = lineView s := by
  cases b
  · rfl
  · exact lineView_mark s h
/-- The walk over a table keeps what its turns keep. -/
theorem lineView_forEach (n : Nat) (f : Fin n → State → State) (h : ∀ i s, lineView (f i s) = lineView s) :
    lineView (forEach n f s) = lineView s := forEach_keeps lineView n f h s
/-- R62: a message that joins a queue finds the port UP and room, so the queue fits before and after. -/
@[simp] theorem lineView_post (d : Side) (m : NMsg) : lineView (post d m s) = lineView s := by
  unfold post; split
  · next room =>
    rw [Bool.and_eq_true, decide_eq_true_iff] at room
    obtain ⟨up, short⟩ := room
    refine lineView_eq (linePart_setPort s d _ rfl ?_) (by simp [State.held])
    have fits {q : List NMsg} (h : q.length ≤ 8) : queueFits { s.port d with queue := q } :=
      ⟨h, fun down => by simp [up] at down⟩
    exact iff_of_true (fits (by simp; omega)) (fits (by omega : (s.port d).queue.length ≤ 8))
  · rfl
end

/-! ### Messages and slots -/

section
variable (s : State)

@[simp] theorem lineView_offer (p : SpurId) (m : OutMsg) : lineView (offer p m s) = lineView s := by
  unfold offer; split <;> rfl
@[simp] theorem lineView_tone (p : SpurId) (t : Tone) : lineView (tone p t s) = lineView s := lineView_offer s p _
@[simp] theorem lineView_toneOpt (p : Option SpurId) (t : Tone) : lineView (toneOpt p t s) = lineView s := by
  cases p <;> simp [toneOpt]
@[simp] theorem lineView_ringOpt (p : Option SpurId) (b : Bool) : lineView (ringOpt p b s) = lineView s := by
  cases p <;> simp [ringOpt]
@[simp] theorem lineView_refugeSpurOffer (r : PairIx) (m : OutMsg) : lineView (refugeSpurOffer r m s) = lineView s := by
  unfold refugeSpurOffer; split <;> simp
@[simp] theorem lineView_installPair (r : RecId) (far : Side) (sl : Slot) : lineView (installPair r far sl s) = lineView s := rfl
@[simp] theorem lineView_startContinuity (far : Side) (sl : Slot) : lineView (startContinuity far sl s) = lineView s := rfl
@[simp] theorem lineView_dropCell (e : SlotIx) (r : RecId) (a : Arrival) : lineView (dropCell e r a s) = lineView s := by
  simp only [dropCell, deliverVoice, lineView_setSlot]; split <;> rfl
/-- R72: a collision marks LINE, and changes nothing of the line itself. -/
theorem linePart_switchCell (e : SlotIx) (a : Arrival) : linePart (switchCell e a s) = linePart s := by
  have dropped (r : RecId) : linePart (dropCell e r a s) = linePart s := linePart_of_lineView (lineView_dropCell s e r a)
  simp only [switchCell]; split
  · rfl
  · exact dropped _
  · split <;> rfl
  · exact dropped _
/-- R49: a slot without a cell collides with nothing. -/
@[simp] theorem lineView_switchVacant (e : SlotIx) : lineView (switchCell e .vacant s) = lineView s := by
  simp only [switchCell]; split <;> simp

/-! ### Calls -/

@[simp] theorem lineView_enterCall (r : RecId) (st : CallState) (f : CallRec → CallRec) :
    lineView (enterCall r st f s) = lineView s := by simp [enterCall]
@[simp] theorem lineView_dropPair (x : CallRec) : lineView (dropPair x s) = lineView s := by
  unfold dropPair; repeat' split
  all_goals rfl
@[simp] theorem lineView_dropBridge (x : CallRec) : lineView (dropBridge x s) = lineView s := by
  unfold dropBridge; split <;> rfl
@[simp] theorem lineView_clearTones (c : ClearCause) (l : List SpurId) : lineView (clearTones c l s) = lineView s :=
  foldl_keeps lineView _ (fun s p => by split <;> simp) l s
@[simp] theorem lineView_clearCall (r : RecId) (c : ClearCause) : lineView (clearCall r c s) = lineView s := by
  simp only [clearCall]; repeat' split
  all_goals simp
@[simp] theorem lineView_clearWhere (p : CallRec → Bool) (c : ClearCause) : lineView (clearWhere p c s) = lineView s :=
  lineView_forEach s 16 _ fun r s => by split <;> simp
@[simp] theorem lineView_proceedCall (r : RecId) : lineView (proceedCall r s) = lineView s := by
  simp only [proceedCall, requestCall, ringStep]; repeat' split
  all_goals simp
@[simp] theorem lineView_callsAtMask (old new : Nat) : lineView (callsAtMask old new s) = lineView s := by
  unfold callsAtMask; split
  · exact lineView_clearWhere s _ _
  · exact foldl_keeps lineView _ (fun s r => by split <;> simp) _ s
@[simp] theorem lineView_completeCall (r : RecId) (d : Dialled) (n : Option Nat) : lineView (completeCall r d n s) = lineView s := by
  have admitted (s : State) : lineView (admitCall r s) = lineView s := by
    simp only [admitCall]; split <;> simp
  simp [completeCall, admitted]
@[simp] theorem lineView_takeDigit (p : SpurId) (d : Nat) : lineView (takeDigit p d s) = lineView s := by
  have station (r : RecId) (n k : Nat) (s : State) : lineView (completeStation r n k s) = lineView s := by
    simp only [completeStation]; repeat' split
    all_goals simp
  simp only [takeDigit]
  generalize (if d ≤ 9 then s.collectingAt p else none) = o
  cases o with
  | none => rfl
  | some r => simp only; split <;> split <;> simp [station]
@[simp] theorem lineView_reclaim (r : RecId) : lineView (reclaim r s) = lineView s := by
  unfold reclaim; split
  · exact lineView_eq rfl (Tab.get_put_ne _ _ (by cases r; simp [Source.ix, Fin.ext_iff]; omega))
  · rfl
@[simp] theorem lineView_numberCall (r : RecId) : lineView (numberCall r s) = lineView s := rfl
@[simp] theorem lineView_countRefused : lineView (countRefused s) = lineView s := rfl
@[simp] theorem lineView_liftHandset (p : SpurId) : lineView (liftHandset p s) = lineView s := by
  simp only [liftHandset, answerDestination, answerLocal, startCall]; repeat' split
  all_goals simp
@[simp] theorem lineView_takeOffhook (p : SpurId) : lineView (takeOffhook p s) = lineView s := by
  unfold takeOffhook; split <;> simp
@[simp] theorem lineView_takeOnhook (p : SpurId) : lineView (takeOnhook p s) = lineView s := by
  unfold takeOnhook; split <;> simp
@[simp] theorem lineView_callsSpurLost (p : SpurId) : lineView (callsSpurLost p s) = lineView s := by simp [callsSpurLost]
@[simp] theorem lineView_resetRequested : lineView (resetRequested s) = lineView s :=
  lineView_forEach s 16 _ fun r s => by split <;> simp
@[simp] theorem lineView_callsAutonomous : lineView (callsAutonomous s) = lineView s := by simp [callsAutonomous]
@[simp] theorem lineView_timeoutCall (st : CallState) (r : RecId) : lineView (timeoutCall st r s) = lineView s := by
  unfold timeoutCall; split <;> simp
@[simp] theorem lineView_ringDestination (r : RecId) (p : SpurId) (k : Nat) (sl : Slot) (f : Side) :
    lineView (ringDestination r p k sl f s) = lineView s := by simp [ringDestination]
@[simp] theorem lineView_connectCall (r : RecId) : lineView (connectCall r s) = lineView s := by
  simp only [connectCall, lineView_toneOpt]; split <;> simp

/-! ### Blocks -/

@[simp] theorem lineView_reformLights : lineView (reformLights s) = lineView s :=
  lineView_forEach s 8 _ fun p s => by
    simp only [reformLight]; generalize (if s.spurType p = .truck then s.lightOf p else .dark) = l
    split <;> simp
@[simp] theorem lineView_reformStopAll : lineView (reformStopAll s) = lineView s := by
  unfold reformStopAll; split
  · rfl
  · exact (lineView_forEach _ 8 _ fun p s => by split <;> simp).trans (lineView_setBlocks s _)
@[simp] theorem lineView_postState (i : BlockIx) : lineView (postState i s) = lineView s := lineView_post s _ _
/-- R116: an event of a master leaves alone what its own work leaves alone. -/
theorem lineView_masterEvent (i : BlockIx) (f : State → State) (h : lineView (f s) = lineView s) :
    lineView (masterEvent i f s) = lineView s := by
  simp only [masterEvent, lineView_reformLights]
  repeat' split
  all_goals simpa using h
/-- R107: so does an event of a far end. -/
theorem lineView_farEvent (i : BlockIx) (f : State → State) (h : lineView (f s) = lineView s) :
    lineView (farEvent i f s) = lineView s := by
  simp only [farEvent, lineView_reformLights]
  split <;> simpa using h
@[simp] theorem lineView_grantClaim (i : BlockIx) (e : BlockEnd) (t : Nat) : lineView (grantClaim i e t s) = lineView s := by
  simp only [grantClaim]; split <;> simp
@[simp] theorem lineView_decideClaim (i : BlockIx) (e : BlockEnd) (t : Nat) : lineView (decideClaim i e t s) = lineView s := by
  simp only [decideClaim, waitClaim]; repeat' split
  all_goals simp
@[simp] theorem lineView_takeClaim (i : BlockIx) (e : BlockEnd) (t : Nat) : lineView (takeClaim i e t s) = lineView s := by
  simp only [takeClaim, answerDuplicate]; repeat' split
  case isFalse => exact lineView_masterEvent s i _ (lineView_decideClaim s i e t)
  all_goals simp
@[simp] theorem lineView_serveWaits (i : BlockIx) : lineView (serveWaits i s) = lineView s := by
  have served (l : List BlockEnd) : lineView (l.foldl
      (fun s e => match (s.master i).waitAt e with | some t => decideClaim i e t s | none => s) s) = lineView s :=
    foldl_keeps lineView _ (fun s e => by split <;> simp) l s
  simp only [serveWaits]; repeat' split
  case h_1 => exact served _
  all_goals simp
@[simp] theorem lineView_takeExit (i : BlockIx) (e : BlockEnd) (t : Nat) : lineView (takeExit i e t s) = lineView s := by
  simp only [takeExit]; repeat' split
  · exact lineView_masterEvent s i _ (by simp [exitListed])
  · exact lineView_masterEvent s i _ (by simp [exitFaulted])
  all_goals simp
@[simp] theorem lineView_masterFault (i : BlockIx) : lineView (masterFault i s) = lineView s := by
  simp only [masterFault]; split
  · rfl
  · exact lineView_masterEvent s i _ (by simp)
@[simp] theorem lineView_setFarReady (i : BlockIx) (b : Bool) : lineView (setFarReady i b s) = lineView s := by
  simp only [setFarReady]; split <;> simp
@[simp] theorem lineView_openBlock (i : BlockIx) (b : Bool) : lineView (openBlock i b s) = lineView s := by
  have go (m : Master) : lineView (masterEvent i (fun s => serveWaits i ((s.setMaster i m).mark (.block i))) s) = lineView s :=
    lineView_masterEvent s i _ (by simp)
  simp only [openBlock]; repeat' split
  case h_4 => rfl
  all_goals exact go _
@[simp] theorem lineView_closeBlock (i : BlockIx) : lineView (closeBlock i s) = lineView s := by
  simp only [closeBlock]; split
  case h_4 => rfl
  all_goals exact lineView_masterEvent s i _ (by simp)
@[simp] theorem lineView_setClaim (i : BlockIx) (c : Option (Nat × Standing)) : lineView (setClaim i c s) = lineView s := by
  unfold setClaim; split <;> simp
@[simp] theorem lineView_setExits (i : BlockIx) (l : List Nat) : lineView (setExits i l s) = lineView s := by
  unfold setExits; split <;> simp
@[simp] theorem lineView_farArriving (i : BlockIx) (t : Nat) : lineView (farArriving i t s) = lineView s :=
  lineView_farEvent s i _ (by simp only [lineView_post]; split <;> split <;> simp)
@[simp] theorem lineView_farLeaving (i : BlockIx) (t : Nat) : lineView (farLeaving i t s) = lineView s :=
  lineView_farEvent s i _ (by simp)
@[simp] theorem lineView_blockTag (p : SpurId) (t sense : Nat) : lineView (blockTag p t sense s) = lineView s := by
  unfold blockTag; repeat' split
  all_goals simp
@[simp] theorem lineView_farAnswer (i : BlockIx) (t : Nat) (st : Standing) : lineView (farAnswer i t st s) = lineView s := by
  unfold farAnswer; repeat' split
  · exact lineView_farEvent s i _ (lineView_setClaim s i _)
  all_goals rfl
@[simp] theorem lineView_farTakeState (i : BlockIx) (m : Mirror) : lineView (farTakeState i m s) = lineView s :=
  lineView_farEvent s i _ (by simp)
@[simp] theorem lineView_takeNeighbour (d : Side) (m : NMsg) : lineView (takeNeighbour d m s) = lineView s := by
  unfold takeNeighbour neighbourClaim neighbourExit neighbourFarState neighbourGrant neighbourWait neighbourState
  repeat' split
  all_goals simp
@[simp] theorem lineView_postReadiness (i : BlockIx) : lineView (postReadiness i s) = lineView s := by simp [postReadiness]
@[simp] theorem lineView_recheckFar (s0 : State) : lineView (recheckFar s0 s) = lineView s :=
  lineView_forEach s 4 _ fun i s => by
    have fault : lineView (farEvent i (fun s =>
        if s.farFaultNow i = (s.farEnd i).localFault then s
        else (s.setFar i { s.farEnd i with localFault := s.farFaultNow i }).mark (.block i)) s) = lineView s :=
      lineView_farEvent s i _ (by split <;> simp)
    simp only; repeat' split
    · exact fault
    · rw [lineView_postReadiness, fault]
    · rfl
@[simp] theorem lineView_blocksSpurLost (p : SpurId) (s0 : State) : lineView (blocksSpurLost p s0 s) = lineView s :=
  (lineView_recheckFar _ s0).trans (lineView_forEach s 4 _ fun i s => by split <;> simp)
@[simp] theorem lineView_blocksSpurUp (p : SpurId) (s0 : State) : lineView (blocksSpurUp p s0 s) = lineView s := by
  simp [blocksSpurUp]
@[simp] theorem lineView_blocksPortLost (d : Side) (s0 : State) : lineView (blocksPortLost d s0 s) = lineView s := by
  cases d with
  | inbye => exact lineView_forEach s 4 _ fun i s => by split <;> simp
  | outbye =>
    refine (lineView_recheckFar _ s0).trans (lineView_forEach s 4 _ fun i s => ?_)
    split
    · exact lineView_farEvent s i _ (by simp)
    · rfl
@[simp] theorem lineView_blocksPortUp (d : Side) (s0 : State) : lineView (blocksPortUp d s0 s) = lineView s := by
  cases d
  · rfl
  · exact lineView_recheckFar s s0
@[simp] theorem lineView_blocksAtLevel (b : Bool) : lineView (blocksAtLevel b s) = lineView s := by
  simp only [blocksAtLevel, lineView_reformStopAll, lineView_reformLights]; split
  · exact lineView_forEach s 4 _ fun i s => by
      split
      · exact lineView_masterEvent s i _ (lineView_serveWaits s i)
      · rfl
  · rfl
@[simp] theorem lineView_blockTurn (i : BlockIx) : lineView (blockTurn i s) = lineView s := by
  have posted (l : List Nat) (s : State) : lineView (l.foldl (fun s t => post .outbye (.exit (s.blockId i) t) s) s) = lineView s :=
    foldl_keeps lineView _ (fun s t => by simp) l s
  simp only [blockTurn, farTurn]; repeat' split
  all_goals simp [posted]
@[simp] theorem lineView_takeOverdue (i : BlockIx) (t : Nat) : lineView (takeOverdue i t s) = lineView s := by
  simp only [takeOverdue]; split <;> simp
@[simp] theorem lineView_resetBlock (i : BlockIx) : lineView (resetBlock i s) = lineView s := rfl
@[simp] theorem lineView_replaceBlock (i : BlockIx) : lineView (replaceBlock i s) = lineView s := by
  simp only [replaceBlock]; split <;> simp

/-! ### Levels -/

@[simp] theorem lineView_sendPrepare (r : PairIx) : lineView (sendPrepare r s) = lineView s := by simp [sendPrepare]
@[simp] theorem lineView_standdownTest (r : PairIx) : lineView (standdownTest r s) = lineView s := by
  simp only [standdownTest]; split <;> simp
@[simp] theorem lineView_refugesAtLevelBut (stay : PairIx → Bool) (old : Level) :
    lineView (refugesAtLevelBut stay old s) = lineView s := by
  simp only [refugesAtLevelBut]; repeat' split
  · exact lineView_forEach s 2 _ fun r s => by split <;> simp
  · exact lineView_forEach s 2 _ fun r s => by split <;> simp
  · rfl
@[simp] theorem lineView_reformDrive (o : PairIx) : lineView (reformDrive o s) = lineView s := by
  unfold reformDrive; split <;> simp
@[simp] theorem lineView_reformDrives : lineView (reformDrives s) = lineView s := lineView_forEach s 2 _ fun o s => lineView_reformDrive s o
@[simp] theorem lineView_reformMask : lineView (reformMask s) = lineView s := by
  simp only [reformMask]; split <;> simp
@[simp] theorem lineView_reformOutput : lineView (reformOutput s) = lineView s := by
  unfold reformOutput; split <;> simp
@[simp] theorem lineView_reformEffectiveBut (stay : PairIx → Bool) : lineView (reformEffectiveBut stay s) = lineView s := by
  simp only [reformEffectiveBut]; split <;> simp
@[simp] theorem lineView_reformLocalBut (stay : PairIx → Bool) : lineView (reformLocalBut stay s) = lineView s := by
  simp only [reformLocalBut]; split <;> simp
@[simp] theorem lineView_reformLocal : lineView (reformLocal s) = lineView s := lineView_reformLocalBut s _
@[simp] theorem lineView_reformAllBut (stay : PairIx → Bool) : lineView (reformAllBut stay s) = lineView s := by simp [reformAllBut]
@[simp] theorem lineView_takeOrdered (t : Tab 16 Level) : lineView (takeOrdered t s) = lineView s := by
  simp [takeOrdered, reformEffective]
@[simp] theorem lineView_takeCauseBut (stay : PairIx → Bool) (c : Cause) : lineView (takeCauseBut stay c s) = lineView s := by
  simp only [takeCauseBut, lineView_reformLocalBut, lineView_reformOutput]
  exact (lineView_mark _ (by simp)).trans (lineView_setMgmt (s.setLevel (s.level.withCause c s.line.cycle)) _ rfl)
@[simp] theorem lineView_takeCause (c : Cause) : lineView (takeCause c s) = lineView s := lineView_takeCauseBut s _ c
@[simp] theorem lineView_clearLatch : lineView (clearLatch s) = lineView s := by
  unfold clearLatch; split <;> simp
@[simp] theorem lineView_contactChanged (i : PairIx) (b : Bool) : lineView (contactChanged i b s) = lineView s := by
  simp only [contactChanged]; split <;> simp
@[simp] theorem lineView_contactRolesBut (stay : PairIx → Bool) (old : PairIx → Role) :
    lineView (contactRolesBut stay old s) = lineView s := by
  simp only [contactRolesBut, lineView_reformLocalBut]
  refine (lineView_forEach _ 2 _ fun i s => ?_).trans (lineView_forEach s 2 _ fun i s => ?_)
  · split <;> simp
  · simp only [contactNone]; repeat' split
    all_goals simp
@[simp] theorem lineView_setForce (o : PairIx) (f : Force) : lineView (setForce o f s) = lineView s := by simp [setForce]

/-! ### Refuges, channels and trucks -/

@[simp] theorem lineView_notifyOccupied (r : PairIx) (n : Nat) : lineView (notifyOccupied r n s) = lineView s := by
  simp only [notifyOccupied]; split <;> simp
@[simp] theorem lineView_panelStartUp (r : PairIx) : lineView (panelStartUp r s) = lineView s := by simp [panelStartUp]
@[simp] theorem lineView_reformRefuge (r : PairIx) : lineView (reformRefuge r s) = lineView s := by
  simp only [reformRefuge]; split <;> simp
@[simp] theorem lineView_setDistress (r : PairIx) (b : Bool) : lineView (setDistress r b s) = lineView s := by
  simp only [setDistress]; split <;> simp
@[simp] theorem lineView_changeRoll (r : PairIx) (y : Refuge) : lineView (changeRoll r y s) = lineView s := by
  simp only [changeRoll]; split <;> simp
@[simp] theorem lineView_refugeCheckout (r : PairIx) (n : Nat) : lineView (refugeCheckout r n s) = lineView s := by
  simp only [refugeCheckout]; repeat' split
  all_goals simp
@[simp] theorem lineView_refugeDoor (r : PairIx) (v : Nat) : lineView (refugeDoor r v s) = lineView s := by
  simp only [refugeDoor]; split <;> simp
@[simp] theorem lineView_refugeDistress (r : PairIx) : lineView (refugeDistress r s) = lineView s := by
  simp only [refugeDistress, lineView_reformRefuge, lineView_setDistress]; split <;> simp
@[simp] theorem lineView_prepareAction (r : PairIx) : lineView (prepareAction r s) = lineView s := by simp [prepareAction]
@[simp] theorem lineView_replaceRefuge (r : PairIx) (y : Refuge) : lineView (replaceRefuge r y s) = lineView s :=
  (foldl_keeps lineView _ (fun s b => lineView_markIf s b (by simp)) _ _).trans (lineView_setRefuge s r y)
@[simp] theorem lineView_deliverRefuge (p : SpurId) (f : PairIx → State → State) (h : ∀ r, lineView (f r s) = lineView s) :
    lineView (deliverRefuge p f s) = lineView s := by
  unfold deliverRefuge; split
  · exact h _
  · rfl
@[simp] theorem lineView_takeCauseOpt (c : Option Cause) : lineView (takeCauseOpt c s) = lineView s := by
  cases c <;> simp [takeCauseOpt]
@[simp] theorem lineView_changeChan (c : ChanId) (x : Channel) : lineView (changeChan c x s) = lineView s := by
  have refuges (s : State) : lineView (refugesAtChannel c s) = lineView s :=
    lineView_forEach s 2 _ fun r s => by simp only; split <;> simp
  simp only [changeChan, statusChanged, markChannel]; split <;> simp [refuges]
@[simp] theorem lineView_chanFault (c : ChanId) : lineView (chanFault c s) = lineView s := lineView_changeChan s c _
@[simp] theorem lineView_takeReading (p : SpurId) (sub raw q : Nat) : lineView (takeReading p sub raw q s) = lineView s := by
  unfold takeReading; split <;> simp
@[simp] theorem lineView_setTruckAlarm (a : Option Nat) : lineView (setTruckAlarm a s) = lineView s := by simp [setTruckAlarm]
@[simp] theorem lineView_takeTruckStatus (p : SpurId) (n st : Nat) : lineView (takeTruckStatus p n st s) = lineView s := by
  simp only [takeTruckStatus]
  generalize (if n = 0 ∨ 4095 < n then none else truckReportOf st) = o
  cases o with
  | none => rfl
  | some r => simp only; split <;> simp
@[simp] theorem lineView_clearTruckAlarm : lineView (clearTruckAlarm s) = lineView s := by
  unfold clearTruckAlarm; split
  · rfl
  · exact (lineView_forEach _ 8 _ fun p s => by split <;> simp).trans (lineView_setTruckAlarm s none)

/-! ### The Action Unit -/

@[simp] theorem lineView_setStopTrucks (n : Nat) : lineView (setStopTrucks n s) = lineView s := by simp [setStopTrucks]
@[simp] theorem lineView_runAction (a : Action) : lineView (runAction a s).1 = lineView s := by
  have sounded : lineView (soundHandsets s) = lineView s := lineView_forEach s 8 _ fun p s => by split <;> simp
  cases a with
  | closeBlock id => simp only [runAction]; split <;> simp
  | refugePrepare r => simp only [runAction]; split <;> simp
  | _ => simp [runAction, sounded, raiseLevel, clearCallsAbove]
end

/-- R146: so the Action Unit's work leaves the line alone. -/
theorem lineView_actions (v : LineView) : KeptByActions fun t => lineView t = v where
  unit _ _ h := h
  triggers _ _ h := h
  note s h := (lineView_mark s (by simp)).trans h
  action a s h := (lineView_runAction s a).trans h

section
variable (s : State)
@[simp] theorem lineView_settle : lineView (settle s) = lineView s := (lineView_actions _).settle rfl
@[simp] theorem lineView_evalList (x : PairIx) : lineView (evalList x s) = lineView s := (lineView_actions _).evalList x rfl
@[simp] theorem lineView_evalLists : lineView (evalLists s) = lineView s := by
  unfold evalLists; split <;> simp
@[simp] theorem lineView_examineHead (n : Nat) : lineView (examineHead n s) = lineView s := (lineView_actions _).examineHead n rfl
@[simp] theorem lineView_armEntry (a : Action) (c : QueueCond) : lineView (armEntry a c s) = lineView s := by
  simp only [armEntry]; split <;> simp
@[simp] theorem lineView_actionUncommissioned : lineView (actionUncommissioned s) = lineView s := by simp [actionUncommissioned]

/-! ### Spurs -/

@[simp] theorem lineView_ownerLost (ty : SpurType) (p : SpurId) (s0 : State) : lineView (ownerLost ty p s0 s) = lineView s := by
  have air : lineView (airSpurLost p s) = lineView s := lineView_forEach s 16 _ fun c s => by split <;> simp
  have refuge : lineView (refugeSpurLost p s) = lineView s := by unfold refugeSpurLost; split <;> simp
  cases ty <;> simp [ownerLost, air, refuge]
@[simp] theorem lineView_ownerUp (ty : SpurType) (p : SpurId) (s0 : State) : lineView (ownerUp ty p s0 s) = lineView s := by
  have refuge : lineView (refugeSpurUp p s) = lineView s := by unfold refugeSpurUp; split <;> simp
  cases ty <;> simp [ownerUp, refuge, callsSpurUp]
@[simp] theorem lineView_leaveUp (ty : SpurType) (p : SpurId) (st : SpurState) : lineView (leaveUp ty p st s) = lineView s := by
  simp [leaveUp]
@[simp] theorem lineView_enterUp (p : SpurId) : lineView (enterUp p s) = lineView s := by simp [enterUp]
@[simp] theorem lineView_enterSpur (p : SpurId) (st : SpurState) : lineView (enterSpur p st s) = lineView s := by simp [enterSpur]
@[simp] theorem lineView_takeHello (p : SpurId) (ty : HeadType) : lineView (takeHello p ty s) = lineView s := by
  have judged (s : State) : lineView (judgeHello p ty s) = lineView s := by
    simp only [judgeHello]; repeat' split
    all_goals simp
  simp only [takeHello, judged]; split <;> simp
@[simp] theorem lineView_takeMsg (p : SpurId) (m : HeadMsg) : lineView (takeMsg p m s) = lineView s := by
  have delivered : lineView (deliver p m s) = lineView s := by
    cases m with
    | tag n sense => simp only [deliver, deliverTag]; split <;> simp
    | _ => simp [deliver, refugeCheckin]
  unfold takeMsg; split
  · exact delivered
  · rfl
@[simp] theorem lineView_validFrame (p : SpurId) : lineView (validFrame p s) = lineView s := by
  simp only [validFrame]; split <;> simp
@[simp] theorem lineView_headMessage (p : SpurId) (m : HeadMsg) : lineView (headMessage p m s) = lineView s := by
  unfold headMessage; split <;> simp
@[simp] theorem lineView_takeFrame (p : SpurId) (f : List Octet) : lineView (takeFrame p f s) = lineView s := by
  have kept (v : List Octet) (s : State) : lineView (keepVoice p v s) = lineView s := by unfold keepVoice; split <;> rfl
  unfold takeFrame discardMsg; repeat' split
  all_goals simp [kept]
@[simp] theorem lineView_silenceTimeout (p : SpurId) : lineView (silenceTimeout p s) = lineView s := by
  simp only [silenceTimeout]; repeat' split
  all_goals simp
@[simp] theorem lineView_retypeSpur (old ty : SpurType) (p : SpurId) : lineView (retypeSpur old ty p s) = lineView s := by
  simp only [retypeSpur]; split <;> simp
@[simp] theorem lineView_loadSpur (p : SpurId) (c : SpurCfg) : lineView (loadSpur p c s) = lineView s := by
  simp only [loadSpur]; repeat' split
  all_goals simp
end
end Sys2Proof.Safety
end

section
/-! PROOFS. The roadway line: its conditions are kept by every command, the ports' own changes case by case. -/

namespace Sys2Proof.Safety
open Sys2Proof.Machine

/-! ## The conditions of the line, and what the ports do to them -/

/-- R55, R58, R59, R62: the conditions of the line ports, as the line's part shows them. -/
structure LinePart.Holds (p : LinePart) : Prop where
  endOfLine  : p.endOfLine = !p.inUp
  autonomous : p.autonomous = (!p.outUp || !p.rxSurface)
  inFits     : p.inFits
  outFits    : p.outFits
theorem lineConditions_iff (s : State) : LineConditions s.line ↔ (linePart s).Holds :=
  ⟨fun h => ⟨h.endOfLine, h.autonomous, h.inQueue, h.outQueue⟩, fun h => ⟨h.endOfLine, h.autonomous, h.inFits, h.outFits⟩⟩
/-- The conditions hold of the state. -/
abbrev Lined (s : State) : Prop := (linePart s).Holds
section
variable {s t : State}
theorem Lined.same (h : Lined s) (e : linePart t = linePart s) : Lined t := by rwa [Lined, e]
theorem Lined.sameView (h : Lined s) (e : lineView t = lineView s) : Lined t := h.same (linePart_of_lineView e)
end

/-! ### Marks of the LINE source -/

section
variable (h : Option Nat)
theorem marked_add (m n : Nat) : marked (m + n) h = marked n (marked m h) := by
  rw [marked, Nat.add_comm, Function.iterate_add_apply]; rfl
theorem marked_of {p : Prop} [Decidable p] (hp : p) : marked (count p) h = markHeld h := by rw [count, if_pos hp]; rfl
theorem marked_of_not {p : Prop} [Decidable p] (hp : ¬ p) : marked (count p) h = h := by rw [count, if_neg hp]; rfl
end
/-- A mark of LINE is one more mark of the view. -/
theorem lineView_markLine (s : State) : lineView (s.mark .line) = { lineView s with held := markHeld (s.held .line) } := by
  simp [lineView]

/-! ### The fields that mark LINE when they change (R54, R58, R61, R65) -/

section
variable (s : State)

theorem lineView_setPosition (p : Option Nat) : lineView (setPosition p s) =
    { lineView s with held := marked (count (p ≠ s.line.position)) (s.held .line) } := by
  unfold setPosition; split
  · next same => rw [marked_of_not _ (not_not.mpr same.symm)]; rfl
  · next other => rw [marked_of _ (Ne.symm other), lineView_markLine]; rfl
theorem lineView_setInbyeNeighbour (p : Option Nat) (e : Option Bool) : lineView (setInbyeNeighbour p e s) =
    { lineView s with held := marked (count (¬ (s.line.inbyePos = p ∧ s.line.inbyeEol = e))) (s.held .line) } := by
  unfold setInbyeNeighbour; split
  · next same => rw [marked_of_not _ (not_not.mpr same)]; rfl
  · next other => rw [marked_of _ other, lineView_markLine]; rfl
theorem lineView_setEndOfLine (b : Bool) : lineView (setEndOfLine b s) =
    { part := { linePart s with endOfLine := b }, held := marked (count (s.line.endOfLine ≠ b)) (s.held .line) } := by
  unfold setEndOfLine; split
  · next same => rw [marked_of_not _ (not_not.mpr same), ← same]; rfl
  · next other => rw [marked_of _ other, lineView_markLine]; rfl
/-- R61: what the other blocks do on a change of the autonomous condition leaves the line alone. -/
theorem lineView_setAutonomous (b : Bool) : lineView (setAutonomous b s) =
    { part := { linePart s with autonomous := b }, held := marked (count (s.line.autonomous ≠ b)) (s.held .line) } := by
  simp only [setAutonomous]; split
  · next same => rw [marked_of_not _ (not_not.mpr same), ← same]; rfl
  · next other =>
    rw [marked_of _ other]
    split
    · refine (lineView_callsAutonomous _).trans ((lineView_setMgmt _ _ ?_).trans ?_)
      · rfl
      · rw [lineView_setLevel, lineView_markLine]; rfl
    · rw [callsReached, lineView_resetRequested, lineView_markLine]; rfl
@[simp] theorem lineView_dropPartial : lineView (dropPartial s) = lineView s := by
  unfold dropPartial; split <;> rfl
@[simp] theorem lineView_discardQueue (n : Nat) : lineView (discardQueue n s) = lineView s := rfl
@[simp] theorem lineView_takeMessage (d : Side) (m : Option NMsg) : lineView (takeMessage d m s) = lineView s := by
  cases m <;> simp [takeMessage]

/-! ### The marks and the parts of the ports' changes -/

theorem held_setPosition (p : Option Nat) :
    (setPosition p s).held .line = marked (count (p ≠ s.line.position)) (s.held .line) :=
  congrArg LineView.held (lineView_setPosition s p)
theorem held_setInbyeNeighbour (p : Option Nat) (e : Option Bool) : (setInbyeNeighbour p e s).held .line =
    marked (count (¬ (s.line.inbyePos = p ∧ s.line.inbyeEol = e))) (s.held .line) :=
  congrArg LineView.held (lineView_setInbyeNeighbour s p e)
theorem held_setEndOfLine (b : Bool) :
    (setEndOfLine b s).held .line = marked (count (s.line.endOfLine ≠ b)) (s.held .line) :=
  congrArg LineView.held (lineView_setEndOfLine s b)
theorem held_setAutonomous (b : Bool) :
    (setAutonomous b s).held .line = marked (count (s.line.autonomous ≠ b)) (s.held .line) :=
  congrArg LineView.held (lineView_setAutonomous s b)

theorem linePart_setPosition (p : Option Nat) : linePart (setPosition p s) = linePart s := congrArg LineView.part (lineView_setPosition s p)
theorem linePart_setInbyeNeighbour (p : Option Nat) (e : Option Bool) : linePart (setInbyeNeighbour p e s) = linePart s :=
  congrArg LineView.part (lineView_setInbyeNeighbour s p e)
theorem linePart_setEndOfLine (b : Bool) : linePart (setEndOfLine b s) = { linePart s with endOfLine := b } :=
  congrArg LineView.part (lineView_setEndOfLine s b)
theorem linePart_setAutonomous (b : Bool) : linePart (setAutonomous b s) = { linePart s with autonomous := b } :=
  congrArg LineView.part (lineView_setAutonomous s b)
/-- R51, R52, R53: a segment cell that is taken gives SURFACE PRESENT and the autonomous condition at the outbye port, and no
condition at the inbye port. -/
theorem linePart_takeSegment (d : Side) (pl : List Octet) : linePart (takeSegment d pl s) = match d with
    | .inbye => linePart s
    | .outbye => { linePart s with rxSurface := segFlag pl, autonomous := !segFlag pl } := by
  cases d with
  | inbye =>
    simp only [takeSegment, takeOutbyeCell]
    rw [linePart_of_lineView (lineView_takeMessage _ _ _), linePart_setInbyeNeighbour]
    rfl
  | outbye =>
    simp only [takeSegment, takeInbyeCell]
    rw [linePart_of_lineView (lineView_takeMessage _ _ _)]
    have taken (s : State) : linePart (if segFlag pl = true then takeOrdered (segLevels pl) s else s) = linePart s := by
      split
      · exact linePart_of_lineView (lineView_takeOrdered s _)
      · rfl
    rw [taken, linePart_setAutonomous, linePart_setPosition]
    rfl
end

section
variable {s : State}

theorem Lined.takeSegment (d : Side) (pl : List Octet) (up : (s.port d).up = true) (h : Lined s) : Lined (takeSegment d pl s) := by
  rw [Lined, linePart_takeSegment]
  cases d with
  | inbye => exact h
  | outbye =>
    have outUp : (linePart s).outUp = true := up
    exact { h with autonomous := by simp [outUp] }
/-- A port's record changes, but for its standing and its queue. -/
theorem Lined.setPort {d : Side} {x : LinePort} (h : Lined s) (up : x.up = (s.port d).up) (queue : x.queue = (s.port d).queue) :
    Lined (s.setPort d x) :=
  h.same (linePart_setPort s d x up (by unfold queueFits; rw [up, queue]))
theorem Lined.segmentHanded (d : Side) (a : Arrival) (h : Lined s) : Lined (segmentHanded d a s) := by
  unfold Machine.segmentHanded; split
  · simp only [goodSegment]; repeat' split
    · next up => exact Lined.takeSegment d _ (by simpa using up) (h.setPort rfl rfl)
    · exact h
    · exact h.setPort rfl rfl
  · exact h
theorem up_arrive (x : LinePort) (place : Nat) (c : List Octet) : (x.arrive place c).up = x.up := by
  unfold LinePort.arrive; repeat' split
  all_goals rfl
theorem queue_arrive (x : LinePort) (place : Nat) (c : List Octet) : (x.arrive place c).queue = x.queue := by
  unfold LinePort.arrive; repeat' split
  all_goals rfl
theorem up_atCell (x : LinePort) : x.atCell.up = x.up := by unfold LinePort.atCell; split <;> rfl
theorem queue_atCell (x : LinePort) : x.atCell.queue = x.queue := by unfold LinePort.atCell; split <;> rfl
/-- R55, R62: a port as it becomes LOST. -/
def lostPort (x : LinePort) : LinePort := { x with up := false, miss := 0, good := 0, queue := [] }
/-- R55: a port as it becomes UP. -/
def upPort (x : LinePort) : LinePort := { x with up := true, miss := 0, good := 0, heldCell := [] }
/-- R55, R62: the state when a port has become LOST and the blocks have been told. -/
def portDown (d : Side) (s : State) : State :=
  blocksPortLost d s (discardQueue (s.port d).queue.length ((s.setPort d (lostPort (s.port d))).mark .line))
/-- R55: the state when a port has become UP and the far entries' hand-overs have been taken. -/
def portRisen (d : Side) (s : State) : State := settle (blocksPortUp d s ((s.setPort d (upPort (s.port d))).mark .line))
theorem portLost_inbye (s : State) :
    portLost .inbye s = setInbyeNeighbour none none (setEndOfLine true (portDown .inbye s)) := rfl
theorem portLost_outbye (s : State) : portLost .outbye s = setAutonomous true (dropPartial (portDown .outbye s)) := rfl
theorem portUp_inbye (s : State) :
    portUp .inbye s = takeSegment .inbye s.line.inPort.heldCell (setEndOfLine false (portRisen .inbye s)) := rfl
theorem portUp_outbye (s : State) : portUp .outbye s = takeSegment .outbye s.line.outPort.heldCell (portRisen .outbye s) := rfl
theorem held_setPortMarked (s : State) (d : Side) (x : LinePort) : ((s.setPort d x).mark .line).held .line = markHeld (s.held .line) := by
  rw [held_mark_same, State.held, State.setPort_mgmt]; rfl
/-- R65: the change of a port is marked once, and what the blocks do marks LINE no more. -/
theorem lineView_portDown (d : Side) (s : State) : lineView (portDown d s) =
    { part := linePart (s.setPort d (lostPort (s.port d))), held := markHeld (s.held .line) } := by
  rw [portDown, lineView_blocksPortLost, lineView_discardQueue, lineView, held_setPortMarked]; rfl
theorem lineView_portRisen (d : Side) (s : State) : lineView (portRisen d s) =
    { part := linePart (s.setPort d (upPort (s.port d))), held := markHeld (s.held .line) } := by
  rw [portRisen, lineView_settle, lineView_blocksPortUp, lineView, held_setPortMarked]; rfl
theorem linePart_portDown (d : Side) (s : State) : linePart (portDown d s) = linePart (s.setPort d (lostPort (s.port d))) :=
  congrArg LineView.part (lineView_portDown d s)
theorem linePart_portRisen (d : Side) (s : State) : linePart (portRisen d s) = linePart (s.setPort d (upPort (s.port d))) :=
  congrArg LineView.part (lineView_portRisen d s)
theorem queueFits_lostPort (x : LinePort) : queueFits (lostPort x) := ⟨Nat.zero_le _, fun _ => rfl⟩
theorem queueFits_upPort {x : LinePort} (fit : queueFits x) : queueFits (upPort x) := ⟨fit.1, nofun⟩
/-- R55, R58, R59, R62: a LOST port has an empty queue and its condition of the line. -/
theorem Lined.portLost (d : Side) (h : Lined s) : Lined (portLost d s) := by
  rw [Lined]
  cases d with
  | inbye =>
    rw [portLost_inbye, linePart_setInbyeNeighbour, linePart_setEndOfLine, linePart_portDown]
    exact ⟨rfl, h.autonomous, queueFits_lostPort _, h.outFits⟩
  | outbye =>
    rw [portLost_outbye, linePart_setAutonomous, linePart_of_lineView (lineView_dropPartial _), linePart_portDown]
    exact ⟨h.endOfLine, rfl, h.inFits, queueFits_lostPort _⟩
/-- R55, R58, R60: a port that is UP takes the cell that completed the run, and with it its condition of the line. -/
theorem Lined.portUp (d : Side) (h : Lined s) : Lined (portUp d s) := by
  rw [Lined]
  cases d with
  | inbye =>
    rw [portUp_inbye, linePart_takeSegment, linePart_setEndOfLine, linePart_portRisen]
    exact ⟨rfl, h.autonomous, queueFits_upPort h.inFits, h.outFits⟩
  | outbye =>
    rw [portUp_outbye, linePart_takeSegment, linePart_portRisen]
    exact ⟨h.endOfLine, rfl, h.inFits, queueFits_upPort h.outFits⟩
theorem Lined.portLostDue (d : Side) (h : Lined s) : Lined (if (s.port d).lostDue then Machine.portLost d s else s) := by
  split
  · exact h.portLost d
  · exact h
theorem Lined.portUpDue (d : Side) (h : Lined s) : Lined (if (s.port d).upDue then Machine.portUp d s else s) := by
  split
  · exact h.portUp d
  · exact h
theorem Lined.windowEnd (h : Lined s) : Lined (windowEnd s) := by
  have closed (d : Side) {s : State} (h : Lined s) : Lined (closeWindow d s) :=
    (h.setPort (d := d) (x := { s.port d with
      degraded := decide (s.working.commission.threshold < (s.port d).window), window := 0 }) rfl rfl).same (linePart_markIf _ _ _)
  unfold Machine.windowEnd; split
  · exact closed .outbye (closed .inbye (h.same rfl))
  · exact h
theorem Lined.settle (h : Lined s) : Lined (settle s) := h.sameView (lineView_settle s)
/-- R47: what is sent takes the head of each queue. -/
theorem Lined.sendCycle (h : Lined s) : Lined (sendCycle s) := by
  have sent {x : LinePort} (fit : queueFits x) : queueFits { x with queue := x.queue.drop 1 } :=
    ⟨by have := fit.1; simp; omega, fun down => by simp [fit.2 down]⟩
  exact ⟨h.endOfLine, h.autonomous, sent h.inFits, sent h.outFits⟩
@[simp] theorem lineView_fillMissing (s : State) : lineView (fillMissing s) = lineView s :=
  lineView_forEach s 60 _ fun e s => by split <;> simp
/-- R47: a cycle moves counts beside what it sends and the changes that its end completes. -/
theorem Lined.lineCycle (closed : PairIx → Bool) (h : Lined s) : Lined (lineCycle closed s) := by
  have port (d : Side) {s : State} (h : Lined s) : Lined (portChangeDue d s) := by
    unfold portChangeDue; repeat' split
    · exact (h.portLost d).settle
    · exact (h.portUp d).settle
    · exact h
  have changed : Lined (changesDue s) := forEach_invariant Lined 8 _ (fun p s h => by
    unfold spurChangeDue; split
    · exact h.sameView (by simp)
    · exact h) _ (port .inbye (port .outbye h))
  have missed (x : LinePort) : x.missCycle.up = x.up ∧ x.missCycle.queue = x.queue := by
    unfold LinePort.missCycle; repeat' split
    all_goals exact ⟨rfl, rfl⟩
  have ticked (s : State) : linePart (tick closed s) = linePart s := by
    simp only [linePart, tick, tickLine, queueFits, missed]
  exact ((changed.same (ticked _)).sameView (lineView_fillMissing _)).sendCycle
end

/-! ### Loads and commissioning -/

section
variable (s : State)

@[simp] theorem lineView_reloadChan (c : ChanId) (was : Bool) (old : ChanCfg) : lineView (reloadChan c was old s) = lineView s := by
  simp only [reloadChan]; split <;> simp
theorem lineView_commissioningChanged (tb : Tables) (was : Bool) : lineView (commissioningChanged tb was s) = lineView s := by
  have off : lineView (spursUncommissioned tb s) = lineView s :=
    (lineView_forEach _ 8 _ fun p t => by split <;> simp).trans (lineView_forEach s 8 _ fun p s => by split <;> simp)
  have on : lineView (forEach 8 spurCommissioned s) = lineView s :=
    lineView_forEach s 8 _ fun p s => by unfold spurCommissioned; split <;> simp
  have block (i : BlockIx) (s : State) : lineView (blockCommissioning i s) = lineView s := by
    unfold blockCommissioning; split <;> simp
  have refuges (s : State) : lineView (forEach 2 refugeCommissioning s) = lineView s :=
    lineView_forEach s 2 _ fun r s => lineView_replaceRefuge s r _
  simp only [commissioningChanged]
  rw [lineView_forEach _ 16 _ fun c s => lineView_reloadChan s c _ _, lineView_reformLights, lineView_forEach _ 4 _ block, refuges]
  split
  · exact off
  · exact on
@[simp] theorem lineView_applyCommission (c : Commission) : lineView (applyCommission c s) = lineView s := by
  simp only [applyCommission]
  generalize spaced : (if c.spacing = s.working.commission.spacing then _ else _ : State) = u
  have hu : lineView u = lineView s := by rw [← spaced]; split <;> rfl
  repeat' split
  all_goals simp [reformAll, lineView_commissioningChanged, hu]
@[simp] theorem lineView_loadTrigger (x : PairIx) (n : TriggerCfg) : lineView (loadTrigger x n s) = lineView s := by
  simp only [loadTrigger, triggerLoaded]
  generalize loaded : State.mark _ .action = u
  have hu : lineView u = lineView s := by rw [← loaded]; simp [flushQueue]
  split
  · rw [lineView_evalList, hu]
  · exact hu
@[simp] theorem lineView_readinessLoaded (i : BlockIx) (was : Bool) : lineView (readinessLoaded i was s) = lineView s := by
  unfold readinessLoaded; split <;> simp
@[simp] theorem lineView_notifyReplaced (i : BlockIx) (old : Nat) : lineView (notifyReplaced i old s) = lineView s := by
  simp only [notifyReplaced]; split <;> simp
@[simp] theorem lineView_moveRefuge (r : PairIx) (n : RefugeCfg) : lineView (moveRefuge r n s) = lineView s := by
  simp only [moveRefuge]; repeat' split
  all_goals simp
end
section
variable {s t : State}
theorem lineView_loadBlock {i : BlockIx} {n : BlockCfg} (e : loadBlock i n s = .ok t) : lineView t = lineView s := by
  unfold loadBlock at e
  repeat' split at e
  · cases e
  · cases e
  · cases e
  · rw [← Except.ok.inj e, lineView_readinessLoaded, lineView_reformLights, lineView_notifyReplaced, lineView_mark _ (by simp),
      lineView_replaceBlock, lineView_setWorking]
theorem lineView_loadChannel {c : ChanId} {n : ChanCfg} (e : loadChannel c n s = .ok t) : lineView t = lineView s := by
  simp only [loadChannel] at e
  repeat' split at e
  all_goals cases e
  simp
theorem lineView_loadRefuge {r : PairIx} {n : RefugeCfg} (e : loadRefuge r n s = .ok t) : lineView t = lineView s := by
  simp only [loadRefuge] at e
  repeat' split at e
  all_goals cases e
  all_goals simp
theorem lineView_loadLevelMap {k : Fin 5} {m : Nat} (e : loadLevelMap k m s = .ok t) : lineView t = lineView s := by
  simp only [loadLevelMap] at e
  split at e
  all_goals cases e
  simp
/-- R185: no table entry that is taken reaches the line. -/
theorem lineView_applyEntry {tb : Table} {k : Nat} {b : List Octet} (e : applyEntry tb k b s = .ok t) : lineView t = lineView s := by
  cases tb with
  | commission => obtain ⟨c, e⟩ := withEntry_ok e; cases e; exact lineView_applyCommission s c
  | levelMap =>
    simp only [applyEntry] at e
    split at e
    · exact lineView_loadLevelMap e
    · cases e
  | spurs => obtain ⟨p, e⟩ := withIx_ok e; obtain ⟨c, e⟩ := withEntry_ok e; cases e; exact lineView_loadSpur s p c
  | channels => obtain ⟨c, e⟩ := withIx_ok e; obtain ⟨n, e⟩ := withEntry_ok e; exact lineView_loadChannel e
  | blocks => obtain ⟨i, e⟩ := withIx_ok e; obtain ⟨n, e⟩ := withEntry_ok e; exact lineView_loadBlock e
  | refuges => obtain ⟨r, e⟩ := withIx_ok e; obtain ⟨n, e⟩ := withEntry_ok e; exact lineView_loadRefuge e
  | triggers => obtain ⟨x, e⟩ := withIx_ok e; obtain ⟨n, e⟩ := withEntry_ok e; cases e; exact lineView_loadTrigger s x n
  | _ => cases e
theorem lineView_loadEntries (tb : Table) (size n k : Nat) (l : List Octet) (s : State) :
    lineView (loadEntries tb size n k l s).1 = lineView s := by
  induction n generalizing k l s with
  | zero => rfl
  | succ n ih =>
    unfold loadEntries
    split
    · rfl
    · next t e => rw [ih, lineView_settle, lineView_applyEntry e]
end

/-! ### Orders -/

section
variable (s : State)

@[simp] theorem linePart_refreshAccess (o : Order) : linePart (refreshAccess o s) = linePart s := by
  unfold refreshAccess; split <;> rfl
@[simp] theorem linePart_reply (h : OrderHdr) (code : Nat) (a : Answer) : linePart (reply h code a) = linePart a.state := by
  unfold reply; split <;> rfl
theorem lineView_orderTableLoad (tb first n : Nat) (l : List Octet) : lineView (orderTableLoad tb first n l s).state = lineView s := by
  have loaded (x : State × Option LoadFailure) : (loadAnswer x).state = x.1 := by unfold loadAnswer; split <;> rfl
  unfold orderTableLoad; repeat' split
  all_goals simp [answer, loaded, lineView_loadEntries]
/-- R176: no order's owner reaches the line. -/
theorem lineView_runOrder (prep : Bool) (h : OrderHdr) (o : Order) : lineView (runOrder prep h o s).state = lineView s := by
  cases o with
  | tableLoad tb f n l => exact lineView_orderTableLoad s tb f n l
  | tableRead => simp only [runOrder, orderTableRead]; repeat' split
                 all_goals rfl
  | historyRead => simp only [runOrder, orderHistoryRead]; repeat' split
                   all_goals rfl
  | restart => simp only [runOrder, orderRestart]; split <;> rfl
  | unlock => simp only [runOrder, orderUnlock]; repeat' split
              all_goals rfl
  | callAssignOrigin => simp only [runOrder, orderAssignOrigin]; repeat' split
                        all_goals simp [answer]
  | callAssignDestination => simp only [runOrder, orderAssignDestination]; repeat' split
                             all_goals simp [answer]
  | callConnect => simp only [runOrder, orderConnect]; repeat' split
                   all_goals simp [answer]
  | callRelease => simp only [runOrder, orderRelease]; split <;> simp [answer]
  | callRefuse => simp only [runOrder, orderRefuse]; repeat' split
                  all_goals simp [answer]
  | tripReset => simp only [runOrder, orderTripReset]; split <;> simp [answer]
  | blockOpen => simp only [runOrder, orderBlockOpen]; repeat' split
                 all_goals simp [answer]
  | blockClose => simp only [runOrder, orderBlockClose]; split <;> simp [answer]
  | arm => simp only [runOrder, orderArm]; repeat' split
           all_goals simp [answer]
  | levelClear => simp [runOrder, orderLevelClear, answer]
  | truckClear => simp [runOrder, orderTruckClear, answer]
  | outputSet => simp only [runOrder, orderOutputSet]; split <;> simp [answer]
  | _ => rfl
@[simp] theorem linePart_takeOrder (h : OrderHdr) (o : Order) : linePart (takeOrder h o s) = linePart s := by
  have ran (prep : Bool) (s : State) : linePart (runOrder prep h o s).state = linePart s :=
    linePart_of_lineView (lineView_runOrder s prep h o)
  unfold takeOrder; split
  · rfl
  · simp only [judgeOrder]; repeat' split
    all_goals simp [answer, beginWrite, ran]
@[simp] theorem linePart_dropPartial : linePart (dropPartial s) = linePart s := linePart_of_lineView (lineView_dropPartial s)
/-- R174, R175: the cell of slot 0 goes to the Management Engine. -/
@[simp] theorem linePart_mgmtHanded (d : Side) (a : Arrival) : linePart (mgmtHanded d a s) = linePart s := by
  have assembled (h : MgmtHeader) (body : List Octet) (s : State) : linePart (assembleCell h body s) = linePart s := by
    unfold assembleCell appendCell completeOrder; repeat' split
    all_goals simp [countMalformed, setAsm]
  unfold mgmtHanded; split
  · simp only [inbyeMgmt]; repeat' split
    all_goals simp [assembled, countMalformed, sendInbye]
  all_goals simp [sendInbye]
@[simp] theorem linePart_outbyeFill : linePart (outbyeFill s) = linePart s := by
  have earned : linePart (earnCredit s) = linePart s := by unfold earnCredit; split <;> rfl
  have sent (x : Source) (s : State) : linePart (reportSent x s) = linePart s := by
    unfold reportSent; split
    case h_4 => split <;> rfl
    all_goals rfl
  have chosen (s : State) : linePart (chooseMessage s) = linePart s := by
    unfold chooseMessage; split
    · rfl
    · split
      · rfl
      · split
        · exact sent _ _
        · rfl
  have filled (a : Nat × Nat) (s : State) : linePart (fillCell a s) = linePart s := by unfold fillCell; split <;> rfl
  unfold outbyeFill fillOutbye; split
  · rw [filled, chosen, earned]
  · exact earned
end
section
variable {s : State}
theorem Lined.cellArrives (d : Side) (place : Nat) (c : List Octet) (h : Lined s) : Lined (cellArrives d place c s) := by
  have arrived : Lined (s.setPort d ((s.port d).atCell.arrive place c)) :=
    h.setPort ((up_arrive _ _ _).trans (up_atCell _)) ((queue_arrive _ _ _).trans (queue_atCell _))
  simp only [Machine.cellArrives]; repeat' split
  · exact arrived.same (linePart_switchCell _ _ _)
  · exact arrived.same (linePart_mgmtHanded _ _ _)
  · exact arrived.segmentHanded d _
end

/-! ### Power-on and restarts -/

/-- R55, R58, R59: both ports are LOST at power-on, the node at the end of the line and autonomous. -/
theorem lined_powerOn (s : State) : Lined (powerOn s) := by
  have fits : queueFits LinePort.start := ⟨Nat.zero_le _, fun _ => rfl⟩
  have start (store : Store) (l : List Instr) (n : Nat) : Lined (formQuietly (State.poweredOn store l n)) := ⟨rfl, rfl, fits, fits⟩
  exact (start (storeAtReset s) s.pending (s.freeCount + 1)).sameView (by simp [powerOn])
/-- R62, R65: a restart empties the queues of the ports. -/
theorem Lined.restartState {s : State} (h : Lined s) : Lined (restartState s) := by
  have emptied (x : LinePort) : queueFits { x with queue := [] } := ⟨Nat.zero_le _, fun _ => rfl⟩
  have spur (old : SpurType) (p : SpurId) (s : State) : lineView (restartSpur old p s) = lineView s := by
    simp only [restartSpur]; split <;> simp
  have blocks (was : BlockIx → Bool) (s : State) : lineView (restartBlocks was s) = lineView s :=
    (lineView_forEach _ 4 _ fun i s => by simp).trans (lineView_setBlocks s _)
  have chan (became : Bool) (c : ChanId) (s : State) : lineView (restartChan became c s) = lineView s := by
    simp only [restartChan]; split <;> simp
  have refuge (same : Bool) (r : PairIx) (s : State) : lineView (restartRefuge same r s) = lineView s := by simp [restartRefuge]
  simp only [Machine.restartState]
  refine Lined.sameView (s := restartCalls (((s.setWorking (if s.store.good then s.store.tables else factoryTables)).setMgmt
    (restartMgmt (!s.store.good) s.mgmt)).setLine (restartLine s.line))) ⟨h.endOfLine, h.autonomous, emptied _, emptied _⟩ ?_
  rw [lineView_mark _ (by simp), lineView_markIf _ _ (by simp), lineView_reformStopAll, lineView_reformLights, lineView_reformAllBut,
    lineView_contactRolesBut, lineView_setLevel, lineView_forEach _ 2 _ fun r s => refuge _ r s, lineView_forEach _ 16 _ fun c s => chan _ c s,
    restartAction,
    lineView_setAction, blocks, lineView_forEach _ 8 _ fun p s => spur _ p s]
  rfl
theorem lineView_restartSends (s : State) : lineView (restartSends s) = lineView s := by
  have spurs (s : State) : lineView (forEach 8 (fun p s => (s.setSpur p (s.spurs.get p).restart).mark (.spur p)) s) = lineView s :=
    lineView_forEach s 8 _ fun p s => by simp
  have handsets (s : State) : lineView (restartHandsets s) = lineView s :=
    (lineView_forEach _ 8 _ fun p s => by split <;> simp).trans (lineView_forEach s 8 _ fun p s => by split <;> simp)
  have trucks (s : State) : lineView (restartTrucks s) = lineView s := lineView_forEach s 8 _ fun p s => by split <;> simp
  have panels (s : State) : lineView (restartPanels s) = lineView s :=
    lineView_forEach s 2 _ fun r s => by repeat' split
                                         all_goals simp
  rw [restartSends, panels, trucks, handsets, spurs]

/-! ### Every command -/

section
variable {s t : State}
theorem Lined.of_settled {f : State → State} (work : Lined s → Lined (f s)) (h : Lined s) (e : settled f s = .next t) : Lined t := by
  rw [settled_next] at e
  cases e
  split
  · exact (work h).settle
  · exact h
/-- A command whose work leaves the line alone. -/
theorem Lined.of_settledSame {f : State → State} (work : linePart (f s) = linePart s) (h : Lined s) (e : settled f s = .next t) :
    Lined t := h.of_settled (fun h => h.same work) e
theorem Lined.of_poweredSame {f : State → State} (work : linePart (f s) = linePart s) (h : Lined s)
    (e : whenPowered f s = .next t) : Lined t := by
  rw [whenPowered_next] at e
  cases e
  split
  · exact h.same work
  · exact h
theorem Lined.of_message (p : SpurId) (m : HeadMsg) (h : Lined s) (e : exec (m.command p) s = .next t) : Lined t := by
  have run : exec (m.command p) s = settled (headMessage p m) s := by cases m <;> rfl
  exact h.of_settledSame (linePart_of_lineView (lineView_headMessage s p m)) (run.symm.trans e)
theorem Lined.of_order (hdr : OrderHdr) (o : Order) (h : Lined s) (e : orderArrives hdr o s = .next t) : Lined t :=
  h.of_settledSame (by split <;> simp) e
theorem Lined.of_cell (d : Side) (place : Fin 32) (l : List Octet) (h : Lined s) (e : exec (cellRow d place l) s = .next t) : Lined t := by
  rw [exec_cellRow] at e
  exact h.of_settled (fun h => h.cellArrives d place.val l) e
theorem Lined.of_neighbour (d : Side) (m : NMsg) (h : Lined s) (e : settled (takeNeighbour d m) s = .next t) : Lined t :=
  h.of_settledSame (linePart_of_lineView (lineView_takeNeighbour s d m)) e
theorem Lined.of_timeout (st : CallState) (r : RecId) (h : Lined s) (e : whenPowered (timeoutCall st r) s = .next t) : Lined t :=
  h.of_poweredSame (linePart_of_lineView (lineView_timeoutCall s st r)) e

/-- Every command keeps the conditions of the line. -/
theorem Lined.exec (c : Instr) (h : Lined s) (e : exec c s = .next t) : Lined t := by
  cases c with
  | powerOn =>
    have run : Machine.powerOn s = t := Host.Outcome.next.inj e
    exact run ▸ lined_powerOn s
  | restartCarriedOut =>
    refine h.of_settled (fun h => ?_) (exec_restartCarriedOut s ▸ e)
    split
    · exact h.restartState.sameView (by rw [restartNode, lineView_evalLists, lineView_restartSends])
    · exact h
  | lineCycle => exact h.of_settled (fun h => h.lineCycle _) e
  | inbyeSegmentCell l => exact h.of_cell .outbye 1 l e
  | outbyeSegmentCell l => exact h.of_cell .inbye 1 l e
  | trafficCell d sl l => rw [trafficCell_eq_cellRow] at e; exact h.of_cell d _ l e
  | managementCell d l => exact h.of_cell d 0 l e
  | framingLost d => exact h.of_settled (fun h => h.setPort (up_atCell _) (queue_atCell _)) (exec_framingLost d s ▸ e)
  | erroredSegmentCell d =>
    refine h.of_settled (fun h => ?_) (exec_erroredSegmentCell d s ▸ e)
    split
    · exact h.setPort (up_atCell _) (queue_atCell _)
    · exact h.setPort (up_atCell _) (queue_atCell _)
  | portLost d => exact h.of_settled (fun h => h.portLostDue d) e
  | portUp d => exact h.of_settled (fun h => h.portUpDue d) e
  | windowEnd => exact h.of_settled (fun h => h.windowEnd) e
  | reading p sub raw q => exact h.of_message p (.reading sub raw q) e
  | offhook p => exact h.of_message p .offhook e
  | onhook p => exact h.of_message p .onhook e
  | digit p d => exact h.of_message p (.digit d) e
  | tag p n sense => exact h.of_message p (.tag n sense) e
  | truckStatus p n st => exact h.of_message p (.truckStatus n st) e
  | checkin p n => exact h.of_message p (.checkin n) e
  | checkout p n => exact h.of_message p (.checkout n) e
  | door p v => exact h.of_message p (.door v) e
  | distress p => exact h.of_message p .distress e
  | hello p ty => exact h.of_message p (.hello ty) e
  | spurFrame p f => exact h.of_settledSame (linePart_of_lineView (lineView_takeFrame s p f)) e
  | spurSilenceTimeout p => exact h.of_settledSame (linePart_of_lineView (lineView_silenceTimeout s p)) e
  | staleExpiry c => exact h.of_settledSame (linePart_of_lineView (by unfold staleExpire; split <;> simp)) e
  | contactChange i => exact h.of_settledSame (linePart_of_lineView (by split <;> simp)) (exec_contactChange i s ▸ e)
  | surfaceCompletionTimeout r => exact h.of_poweredSame (linePart_of_lineView (by split <;> simp)) e
  | refugeEmergencyCompletion r => exact h.of_poweredSame (linePart_of_lineView (by split <;> simp)) e
  | collectingTimeout r => exact h.of_poweredSame (linePart_of_lineView (by split <;> simp)) e
  | requestedTimeout r => exact h.of_timeout _ r e
  | heldTimeout r => exact h.of_timeout _ r e
  | alertingTimeout r => exact h.of_timeout _ r e
  | ringingTimeout r => exact h.of_timeout _ r e
  | continuityLoss slot =>
    refine h.of_poweredSame (linePart_of_lineView ?_) (exec_continuityLoss slot s ▸ e)
    repeat' split
    all_goals simp
  | claim => exact h.of_neighbour _ _ e
  | grant => exact h.of_neighbour _ _ e
  | wait => exact h.of_neighbour _ _ e
  | exit => exact h.of_neighbour _ _ e
  | state => exact h.of_neighbour _ _ e
  | farEndState => exact h.of_neighbour _ _ e
  | blockTurn i => exact h.of_settledSame (linePart_of_lineView (by split <;> simp)) e
  | overdue i n => exact h.of_settledSame (linePart_of_lineView (lineView_takeOverdue s i n)) e
  | stopTrucksEnd => exact h.of_settledSame (linePart_of_lineView (by split <;> simp)) e
  | headDelayExpiry => exact h.of_settledSame (linePart_of_lineView (by split <;> simp)) e
  | fillCreditEarned => exact h.of_settledSame (by unfold earnCredit; split <;> rfl) e
  | outbyeCellFill => exact h.of_settledSame (linePart_outbyeFill s) e
  | accessExpiry => exact h.of_settledSame (by unfold expireAccess; split <;> rfl) e
  | commitComplete =>
    refine h.of_settledSame ?_ e
    unfold completeCommit; repeat' split
    · exact linePart_reply _ _ _
    all_goals rfl
  | supplyLoss => exact h.of_poweredSame (by simp only [loseSupply]; split <;> rfl) e
  | _ => exact Lined.of_order _ _ h e
end

/-- Settles O9: the line's part of the state is left alone by every operation but the ports' own, and each of those keeps the conditions. -/
theorem lineConditionsHold : Obligations.LineConditionsHold := by
  intro s t h e
  have lined := (lineConditions_iff s).mp h
  rw [lineConditions_iff]
  unfold Machine.step at e
  split at e
  next => cases e; exact lined
  next c rest _ => exact Lined.exec (s := { s with pending := rest }) c lined e

end Sys2Proof.Safety
end

section
/-! PROOFS. The layouts of cells and frames that the node sends (R48, R194, R195, R201). -/

namespace Sys2Proof.Safety
open Sys2Proof.Machine

/-! ## Numbers in octets -/

theorem octet_toNat (n : Nat) : (octet n).toNat = n % 256 := by simp [octet]
theorem length_padTo (n : Nat) (l : List Octet) : (padTo n l).length = n := by simp [padTo]; omega
theorem padTo_of_length {n : Nat} {l : List Octet} (h : l.length = n) : padTo n l = l := by simp [padTo, ← h]
@[simp] theorem padTo_padTo (n : Nat) (l : List Octet) : padTo n (padTo n l) = padTo n l := padTo_of_length (length_padTo n l)
theorem padTo_nil (n : Nat) : padTo n [] = List.replicate n 0 := by simp [padTo]
/-- Two octets behind a string are the number that they spell. -/
theorem num16_append_be16 (l : List Octet) {n : Nat} (h : n < 65536) : num16 (l ++ be16 n) l.length = n := by
  have high : octAt (l ++ be16 n) l.length = n / 256 % 256 := by simp [octAt, be16, octet_toNat]
  have low : octAt (l ++ be16 n) (l.length + 1) = n % 256 := by simp [octAt, be16, octet_toNat]
  rw [num16, high, low]
  omega

/-! ## The check word (R195) -/

theorem checkBit_lt (r b : Nat) : checkBit r b < 65536 := by
  have shifted : r * 2 % 65536 < 2 ^ 16 := Nat.mod_lt _ (by decide)
  unfold checkBit
  simp only
  split
  · exact shifted
  · exact Nat.xor_lt_two_pow shifted (by decide)
theorem checkWord_lt (l : List Octet) : checkWord l < 65536 := by
  have octets (r : Nat) (o : Octet) : checkOctet r o < 65536 := by
    simp only [checkOctet, List.foldl_cons, List.foldl_nil]
    exact checkBit_lt _ _
  have folded (l : List Octet) (r : Nat) (h : r < 65536) : l.foldl checkOctet r < 65536 := by
    induction l generalizing r with
    | nil => exact h
    | cons o l ih => exact ih _ (octets r o)
  exact folded l _ (by decide)
theorem length_be16 (n : Nat) : (be16 n).length = 2 := rfl
theorem length_withCheck (l : List Octet) : (withCheck l).length = l.length + 2 := by simp [withCheck, length_be16]
/-- A carrier with its check word behind it is good. -/
theorem checkGood_withCheck {n : Nat} {l : List Octet} (h : l.length = n) : checkGood n (withCheck l) = true := by
  subst h
  simp [checkGood, withCheck, length_be16, num16_append_be16 l (checkWord_lt l)]

/-! ## Cells (R48, R194) -/

section
variable (slot : Nat) (o : Option (List Octet))

/-- R194: the first octet of a cell as it is sent. -/
theorem octAt_wireCell : octAt (wireCell slot o) 0 = (if o.isSome then 128 else 0) + slot % 32 := by
  have short : slot % 32 < 32 := Nat.mod_lt _ (by decide)
  have first : octAt (wireCell slot o) 0 = ((if o.isSome then 128 else 0) + slot % 32) % 256 := octet_toNat _
  rw [first]
  split <;> omega
theorem length_wireCell : (wireCell slot o).length = 36 := by simp [wireCell, length_withCheck, length_padTo]
theorem cellGood_wireCell : cellGood (wireCell slot o) = true := checkGood_withCheck (by simp [length_padTo])
theorem cellSlot_wireCell : cellSlot (wireCell slot o) = slot % 32 := by
  rw [cellSlot, octAt_wireCell]
  split <;> omega
theorem cellOccupied_wireCell : cellOccupied (wireCell slot o) = o.isSome := by
  rw [cellOccupied, octAt_wireCell]
  cases o <;> simp
  omega
theorem cellPayload_wireCell : cellPayload (wireCell slot o) = padTo 32 (o.getD []) := by
  simp [cellPayload, wireCell, withCheck, length_padTo]
end

/-! ## Frames (R163, R201) -/

section
variable (start : Bool) (voice msg : List Octet)

theorem length_wireFrame : (wireFrame start voice msg).length = 48 := by simp [wireFrame, length_withCheck, length_padTo]
theorem frameGood_wireFrame : frameGood (wireFrame start voice msg) = true := checkGood_withCheck (by simp [length_padTo])
theorem frameVoice_wireFrame : frameVoice (wireFrame start voice msg) = padTo 32 voice := by
  simp [frameVoice, wireFrame, withCheck, length_padTo]
/-- A frame is the one with its own voice field: the field is cut or filled once. -/
theorem wireFrame_padTo : wireFrame start (padTo 32 voice) msg = wireFrame start voice msg := by simp [wireFrame]
end

/-- Settles O13: a cell and a frame are strings of the right length with their check word behind. -/
theorem sentCellsAndFramesReadBack : Obligations.SentCellsAndFramesReadBack := by
  refine ⟨by decide +kernel, fun slot o inRange filled => ?_, fun start voice msg filled short => ?_⟩
  · refine ⟨length_wireCell slot o, cellGood_wireCell slot o, ?_, cellOccupied_wireCell slot o, ?_⟩
    · rw [cellSlot_wireCell, Nat.mod_eq_of_lt inRange]
    · rw [cellPayload_wireCell]
      cases o with
      | none => exact padTo_nil 32
      | some l => exact padTo_of_length (filled l rfl)
  · exact ⟨length_wireFrame start voice msg, frameGood_wireFrame start voice msg,
      (frameVoice_wireFrame start voice msg).trans (padTo_of_length filled)⟩

end Sys2Proof.Safety
end

section
/-! PROOFS. Cells at the line ports: errored cells, framing, the DEGRADED window, and the traffic slots (R48, R49, R57, R68 to R73). -/

namespace Sys2Proof.Safety
open Sys2Proof.Machine

/-! ## Commands that hand nothing to the Action Unit -/

section
variable {s t : State}
/-- A state with no change handed over beyond those of an idle state is one that the Action Unit leaves alone. -/
theorem settle_of_sameAction (idle : NoNotices s) (same : t.action = s.action) : settle t = t :=
  settle_of_noNotices (by rw [NoNotices, same]; exact idle)
theorem port_of_line (h : t.line = s.line) (d : Side) : t.port d = s.port d := by
  cases d
  · exact congrArg Line.inPort h
  · exact congrArg Line.outPort h
theorem settle_setPort (idle : NoNotices s) (d : Side) (x : LinePort) : settle (s.setPort d x) = s.setPort d x :=
  settle_of_sameAction idle (State.setPort_action s d x)
end

/-! ## The port of an arriving cell (R48) -/

section
variable {x : LinePort} {place : Nat} {c : List Octet}

theorem cellSlot_lt (c : List Octet) : cellSlot c < 32 := Nat.mod_lt _ (by decide)
/-- R48: the place of a cell, for one of the 32 places of a cycle. -/
theorem arrive_hunt_place (hunt : x.framed = false) (inCycle : place < 32) :
    x.arrive place c = if cellGood c then { x with framed := true, errRun := 0, shift := (cellSlot c + 32 - place) % 32 } else x := by
  rw [LinePort.arrive_hunt hunt, Nat.mod_eq_of_lt inCycle]
theorem arrive_wrong (framed : x.framed = true) (wrong : cellGood c = false ∨ cellSlot c ≠ x.expected place) :
    x.arrive place c = { x with errRun := bump 32 x.errRun, total := bump 65535 x.total, window := bump 8000 x.window } :=
  LinePort.arrive_errored framed (judgeCell_errored wrong)
theorem arrive_right (framed : x.framed = true) (good : cellGood c = true) (slot : cellSlot c = x.expected place) :
    x.arrive place c = { x with errRun := 0 } := by
  refine LinePort.arrive_good framed ?_
  rw [judgeCell_good good slot]
  split <;> nofun
/-- R48: the slots follow in order from the cell that fixed the frame. -/
theorem expected_of_framing {k : Nat} (inCycle : place < 32) (x : LinePort) :
    { x with framed := true, errRun := 0, shift := (cellSlot c + 32 - place) % 32 }.expected (place + k) = (cellSlot c + k) % 32 := by
  have slot := cellSlot_lt c
  simp only [LinePort.expected]
  omega
theorem not_occupied_of_hunt (hunt : x.framed = false) (pl : List Octet) : x.handed place c ≠ .occupied pl := by
  rw [LinePort.handed_hunt hunt]
  nofun
theorem not_occupied_of_wrong (framed : x.framed = true) (wrong : cellGood c = false ∨ cellSlot c ≠ x.expected place)
    (pl : List Octet) : x.handed place c ≠ .occupied pl := by
  rw [LinePort.handed_framed framed, judgeCell_errored wrong]
  nofun
end

/-! ## The owner of a traffic slot (R68 to R73) -/

/-- R68 to R71: what an entry sends in a cycle in which `a` arrived. -/
def sentBy (s : State) (a : Arrival) (y : SlotEntry) : SlotOut :=
  match y.drop, y.add with
  | _, some r => s.addVoice r
  | some _, none => .vacant
  | none, none => match a with | .occupied p => .cell p | _ => .vacant
/-- R68 to R71, R73: an entry after the cell of a cycle. -/
def entryAfter (s : State) (a : Arrival) (y : SlotEntry) : SlotEntry :=
  { y with
    out := some (sentBy s a y)
    continuity := match y.drop with
      | some r => continuityAfter ((s.call r).state == .connected) a y.continuity
      | none => y.continuity }
/-- R69: the spurs after the cell of a cycle: the drop owner's handset has its payload. -/
def spursAfter (s : State) (a : Arrival) (y : SlotEntry) : Tab 8 Spur :=
  match y.drop with | some r => (deliverVoice r a s).spurs | none => s.spurs
/-- R72: an occupied cell that an ADD entry discards. -/
def collides (y : SlotEntry) (a : Arrival) : Bool := match y.mode, a with | .addOnly, .occupied _ => true | _, _ => false

section
variable (s : State) (e : SlotIx) (a : Arrival)

/-- R70: the add owner's voice is read from the calls alone. -/
theorem addVoice_of_calls {s t : State} (h : t.calls = s.calls) (r : RecId) : t.addVoice r = s.addVoice r := by
  simp only [State.addVoice, h]
theorem deliverVoice_spurs (r : RecId) : deliverVoice r a s = { s with spurs := (deliverVoice r a s).spurs } := by
  simp only [deliverVoice]; split <;> rfl
/-- R68 to R73: all that an entry does with the cell of a cycle. -/
theorem switchCell_eq : switchCell e a s = { s with
    slots := { s.slots with
      map := s.slots.map.put e (entryAfter s a (s.slots.map.get e))
      collisions := if collides (s.slots.map.get e) a then bump16 s.slots.collisions else s.slots.collisions }
    spurs := spursAfter s a (s.slots.map.get e)
    mgmt := if collides (s.slots.map.get e) a then (s.mark .line).mgmt else s.mgmt } := by
  have twice (x y : SlotEntry) : (s.slots.map.put e x).put e y = s.slots.map.put e y :=
    Tab.ext fun i => by simp only [Tab.get_put]; split <;> rfl
  have dropped (r : RecId) : dropCell e r a s = { s with
      slots := { s.slots with map := s.slots.map.put e { s.slots.map.get e with
        continuity := continuityAfter ((s.call r).state == .connected) a (s.slots.map.get e).continuity } }
      spurs := (deliverVoice r a s).spurs } := by
    rw [dropCell, deliverVoice_spurs]; rfl
  have voice (r q : RecId) : (dropCell e r a s).addVoice q = s.addVoice q := addVoice_of_calls (by rw [dropped]) q
  simp only [switchCell]
  split
  · next d w => cases a <;> simp [entryAfter, spursAfter, collides, SlotEntry.mode, sentBy, d, w, State.setSlot]
  · next r d w => simp [dropped, State.setSlot, twice, entryAfter, spursAfter, collides, SlotEntry.mode, sentBy, d, w]
  · next r d w =>
    have collided : (collide s).addVoice r = s.addVoice r := addVoice_of_calls rfl r
    cases a with
    | occupied pl =>
      simp only [collided]
      simp [entryAfter, spursAfter, collides, SlotEntry.mode, sentBy, d, w, State.setSlot, collide, State.setSlots, State.mark,
        State.setMgmt, State.held]
    | _ => simp [entryAfter, spursAfter, collides, SlotEntry.mode, sentBy, d, w, State.setSlot]
  · next r q d w =>
    simp only [voice]
    simp [dropped, State.setSlot, twice, entryAfter, spursAfter, collides, SlotEntry.mode, sentBy, d, w]

/-- R69: the voice that a cell gives the drop owner's handset. -/
def deliveredVoice (r : RecId) : List Octet :=
  match a with
  | .occupied pl => if (s.call r).state = .connected then pl else idleVoice
  | _ => idleVoice
theorem get_spursAfter (y : SlotEntry) (p : SpurId) : (spursAfter s a y).get p = match y.drop with
    | some r => if (s.call r).origin = some p then { s.spurs.get p with dropVoice := some (deliveredVoice s a r) } else s.spurs.get p
    | none => s.spurs.get p := by
  unfold spursAfter
  split
  · next r _ =>
    simp only [deliverVoice]
    split
    · next q origin =>
      rw [State.setSpur_spurs, Tab.get_put, State.call, origin]
      by_cases same : p = q
      · subst same
        rw [if_pos rfl, if_pos rfl]
        by_cases connected : (s.calls.recs.get r).state = .connected <;> cases a <;> simp [deliveredVoice, State.call, connected]
      · rw [if_neg same, if_neg fun eq => same (Option.some.inj eq).symm]
    · next none => rw [State.call, none]; simp
  · rfl
theorem map_switchCell : (switchCell e a s).slots.map = s.slots.map.put e (entryAfter s a (s.slots.map.get e)) := by rw [switchCell_eq]
theorem collisions_switchCell : (switchCell e a s).slots.collisions =
    if collides (s.slots.map.get e) a then bump16 s.slots.collisions else s.slots.collisions := by rw [switchCell_eq]
theorem spurs_switchCell : (switchCell e a s).spurs = spursAfter s a (s.slots.map.get e) := by rw [switchCell_eq]
theorem mgmt_switchCell : (switchCell e a s).mgmt = if collides (s.slots.map.get e) a then (s.mark .line).mgmt else s.mgmt := by
  rw [switchCell_eq]
/-- R68 to R73: an entry reaches the map, the collision count, the spurs and the mark of LINE. -/
theorem switchCell_frame : switchCell e a s = { s with
    slots := { s.slots with map := (switchCell e a s).slots.map, collisions := (switchCell e a s).slots.collisions }
    spurs := (switchCell e a s).spurs, mgmt := (switchCell e a s).mgmt } := by rw [switchCell_eq]
@[simp] theorem line_switchCell : (switchCell e a s).line = s.line := by rw [switchCell_eq]
@[simp] theorem action_switchCell : (switchCell e a s).action = s.action := by rw [switchCell_eq]
end

/-! ## A cell that is not taken -/

section
variable {s : State} {d : Side} {place : Nat} {c : List Octet}

/-- R49, R174, R175: a vacant or errored cell of slot 0 starts no order. -/
theorem mgmtHanded_rest {a : Arrival} (s : State) (d : Side) (none : ∀ pl, a ≠ .occupied pl) :
    (mgmtHanded d a s).line = s.line ∧ (mgmtHanded d a s).action = s.action := by
  unfold mgmtHanded
  split
  · next pl => exact absurd rfl (none pl)
  · exact ⟨rfl, rfl⟩
  · unfold dropPartial; split <;> exact ⟨rfl, rfl⟩
  · exact ⟨rfl, rfl⟩
  · exact ⟨rfl, rfl⟩
theorem maskLost_rest {x : LinePort} {a : Arrival} (none : ∀ pl, a ≠ .occupied pl) (pl : List Octet) :
    x.maskLost a ≠ .occupied pl := by
  unfold LinePort.maskLost
  split
  · exact none pl
  · nofun
/-- R48, R49: a cell that arrives errored, or in HUNT, changes of the line its port alone, and hands the Action Unit nothing. -/
theorem cellArrives_rest (none : ∀ pl, (s.port d).atCell.handed place c ≠ .occupied pl) :
    (cellArrives d place c s).line = (s.setPort d ((s.port d).atCell.arrive place c)).line ∧
      (cellArrives d place c s).action = s.action := by
  simp only [cellArrives]
  split
  · simp
  · split
    · have rest := mgmtHanded_rest (s.setPort d ((s.port d).atCell.arrive place c)) d (maskLost_rest (x := (s.port d).atCell) none)
      exact ⟨rest.1, rest.2.trans (State.setPort_action s d _)⟩
    · have stands (a : Arrival) (s : State) (none : ∀ pl, a ≠ .occupied pl) : segmentHanded d a s = s := by
        unfold segmentHanded; split
        · next pl => exact absurd rfl (none pl)
        · rfl
      rw [stands _ _ none]
      exact ⟨rfl, State.setPort_action s d _⟩
end

/-! ## The window (R57) -/

theorem count_congr {p q : Prop} [Decidable p] [Decidable q] (h : p ↔ q) : count p = count q := by
  unfold count; simp only [h]
/-- A mark made on a condition, as one write of its holding place. -/
theorem markIf_eq (s : State) (b : Bool) (x : Source) :
    s.markIf b x = s.setMgmt { s.mgmt with holding := s.mgmt.holding.put x.ix (marked (count (b = true)) (s.held x)) } := by
  cases b
  · rw [marked_of_not _ (by simp), State.held, Tab.put_get]; rfl
  · rw [marked_of _ rfl]; rfl
/-- R57: a port whose window has ended. -/
def windowClosed (threshold : Nat) (x : LinePort) : LinePort := { x with degraded := decide (threshold < x.window), window := 0 }
/-- R57: the end of a window changes a port's DEGRADED condition. -/
abbrev windowTurns (threshold : Nat) (x : LinePort) : Prop := x.degraded ≠ decide (threshold < x.window)
/-- R57, R65: the end of a window closes it at both ports, and marks LINE for each change. -/
theorem windowEnd_due {s : State} (due : s.line.windowDue = true) : windowEnd s = { s with
    line := { s.line with
      inPort := windowClosed s.working.commission.threshold s.line.inPort
      outPort := windowClosed s.working.commission.threshold s.line.outPort
      windowDue := false }
    mgmt := { s.mgmt with
      holding := s.mgmt.holding.put Source.line.ix (marked (count (windowTurns s.working.commission.threshold s.line.inPort) +
        count (windowTurns s.working.commission.threshold s.line.outPort)) (s.held .line)) } } := by
  have turns (n : Nat) (x : LinePort) : count ((decide (n < x.window) != x.degraded) = true) = count (windowTurns n x) :=
    count_congr (by rw [bne_iff_ne]; exact ne_comm)
  have twice (h : Tab 58 (Option Nat)) (i : Fin 58) (x y : Option Nat) : (h.put i x).put i y = h.put i y :=
    Tab.ext fun j => by simp only [Tab.get_put]; split <;> rfl
  rw [windowEnd, if_pos due, marked_add]
  simp only [closeWindow, markIf_eq, turns, State.held]
  simp only [State.setPort, State.port, State.setLine, State.setMgmt, twice, Tab.get_put_same, windowClosed]
  rfl

/-- Settles O27: a cell that is errored or arrives in HUNT reaches its port alone, and a window's end the ports and LINE. -/
theorem erroredCellsAndWindows : Obligations.ErroredCellsAndWindows := by
  intro d s powered idle
  simp only [found_eq_atCell]
  have errored := (exec_erroredSegmentCell d s).trans (settled_powered _ powered)
  have lost := (exec_framingLost d s).trans (settled_powered _ powered)
  have window : exec .windowEnd s = .next (settle (windowEnd s)) := settled_powered _ powered
  rw [settle_setPort idle] at errored lost
  refine ⟨fun framed => ?_, fun hunt => ?_, fun framed run => ?_, fun notDue => ?_, fun place c => ?_, fun due => ?_, fun notDue => ?_⟩
  · rw [errored, if_pos framed]; rfl
  · rw [errored, if_neg (by simp [hunt])]
  · rw [lost, LinePort.atCell_due framed run]
  · have stands : (s.port d).atCell = s.port d := notDue.elim LinePort.atCell_hunt LinePort.atCell_run
    rw [lost, stands, State.setPort_port_self]
  · have run := (exec_cellRow d place c s).trans (settled_powered _ powered)
    have port (none : ∀ pl, (s.port d).atCell.handed place.val c ≠ .occupied pl) :
        (settle (cellArrives d place.val c s)).port d = (s.port d).atCell.arrive place.val c := by
      obtain ⟨line, action⟩ := cellArrives_rest none
      rw [settle_of_sameAction idle action]
      exact (port_of_line line d).trans (State.setPort_port s d _)
    refine ⟨_, run, fun hunt good => ?_, fun hunt bad => ?_, fun framed wrong => ?_⟩
    · rw [port (not_occupied_of_hunt hunt), arrive_hunt_place hunt place.isLt, if_pos good]
      exact ⟨rfl, fun k => expected_of_framing place.isLt _⟩
    · rw [port (not_occupied_of_hunt hunt), arrive_hunt_place hunt place.isLt, if_neg (by simp [bad])]
    · rw [port (not_occupied_of_wrong framed wrong), arrive_wrong framed wrong]
  · have ended := windowEnd_due due
    rw [settle_of_sameAction idle (by rw [ended])] at window
    refine ⟨_, window, ?_⟩
    rw [ended]
    refine ⟨by cases d <;> rfl, by simp [State.held], fun k other => Tab.get_put_ne _ _ other, rfl⟩
  · rw [window, windowEnd, if_neg (by simp [notDue]), settle_of_noNotices idle]

/-! ## What a traffic slot's entry does (R68 to R73) -/

section
variable {s : State} {a : Arrival} {y : SlotEntry}

theorem sentBy_pass (pass : y.mode = .pass) : sentBy s a y = match a with | .occupied pl => .cell pl | _ => .vacant := by
  cases drop : y.drop <;> cases add : y.add <;> simp [SlotEntry.mode, drop, add] at pass
  unfold sentBy; rw [drop, add]
theorem sentBy_dropOnly (dropOnly : y.mode = .dropOnly) : sentBy s a y = .vacant := by
  cases drop : y.drop <;> cases add : y.add <;> simp [SlotEntry.mode, drop, add] at dropOnly
  unfold sentBy; rw [drop, add]
theorem sentBy_add {r : RecId} (add : y.add = some r) : sentBy s a y = s.addVoice r := by
  unfold sentBy; rw [add]
theorem addVoice_eq (s : State) (r : RecId) : s.addVoice r = match (s.call r).origin with
    | some p => if (s.call r).state = .connected then .voice p else .cell idleVoice
    | none => .cell idleVoice := by
  by_cases connected : (s.calls.recs.get r).state = .connected <;> cases origin : (s.calls.recs.get r).origin <;>
    simp [State.addVoice, State.call, connected, origin]
/-- R73: the continuity count of an entry after a cell. -/
theorem continuity_entryAfter : (entryAfter s a y).continuity = match y.drop with
    | some r => if (s.call r).state = .connected
      then (if y.continuity = 125 then 125 else match a with | .occupied _ => 0 | _ => bump 125 y.continuity) else 0
    | none => y.continuity := by
  unfold entryAfter
  cases y.drop with
  | none => rfl
  | some r => by_cases connected : (s.call r).state = .connected <;> simp [continuityAfter, connected] <;> rfl
end

/-- Settles O26: the entry of the slot does all that the cell does beside the port's own record. -/
theorem trafficCellFollowsItsMode : Obligations.TrafficCellFollowsItsMode := by
  intro d place sl c s powered idle slot
  rw [found_eq_atCell] at slot
  simp only [found_eq_atCell]
  generalize arrival : (s.port d).atCell.maskLost ((s.port d).atCell.handed place.val c) = a
  generalize arrived : (s.port d).atCell.arrive place.val c = x'
  generalize entry : slotIx (travelFrom d) sl = e
  have run := (exec_cellRow d place c s).trans (settled_powered _ powered)
  rw [cellArrives_traffic slot, arrival, arrived, entry, settle_of_sameAction idle (by simp)] at run
  have same : entryAfter (s.setPort d x') a (s.slots.map.get e) = entryAfter s a (s.slots.map.get e) := by cases d <;> rfl
  have map := map_switchCell (s.setPort d x') e a
  have spurs := spurs_switchCell (s.setPort d x') e a
  have collisions := collisions_switchCell (s.setPort d x') e a
  have mgmt := mgmt_switchCell (s.setPort d x') e a
  have frame := switchCell_frame (s.setPort d x') e a
  have line := line_switchCell (s.setPort d x') e a
  rw [State.setPort_slots] at map spurs collisions mgmt frame
  rw [same] at map
  generalize switchCell e a (s.setPort d x') = t at run map spurs collisions mgmt frame line
  have own : t.slots.map.get e = entryAfter s a (s.slots.map.get e) := by rw [map, Tab.get_put_same]
  have port : t.port d = x' := (port_of_line line d).trans (State.setPort_port s d x')
  have call (r : RecId) : (s.setPort d x').call r = s.call r := by simp [State.call]
  refine ⟨t, a, run, fun away => ?_, fun framed up good right => ?_, fun framed up wrong => ?_, fun pass => ?_, fun dropOnly => ?_,
    fun r add => ?_, ?_, ?_, ?_, fun e' other => ?_, fun p => ?_, ⟨?_, ?_⟩, ⟨?_, fun hunt => ?_, fun framed good right => ?_,
    fun framed wrong => ?_⟩, ?_⟩
  · rw [← arrival, LinePort.maskLost]
    obtain hunt | down := away
    · rw [LinePort.handed_hunt hunt, ite_self]
    · rw [if_neg (by simp [down])]
  · rw [← arrival, LinePort.maskLost, if_pos up, LinePort.handed_framed framed, slot, judgeCell_good good right]
  · rw [← arrival, LinePort.maskLost, if_pos up, LinePort.handed_framed framed, slot, judgeCell_errored wrong]
  · rw [own, entryAfter, sentBy_pass pass] <;> rfl
  · rw [own, entryAfter, sentBy_dropOnly dropOnly]
  · rw [own, entryAfter, sentBy_add add, addVoice_eq] <;> rfl
  · rw [own, continuity_entryAfter] <;> rfl
  · rw [own]; rfl
  · rw [own]; rfl
  · rw [map, Tab.get_put_ne _ _ other]
  · rw [spurs, get_spursAfter]
    simp only [call, State.setPort_spurs, deliveredVoice] <;> rfl
  · exact collisions
  · rw [mgmt]
    simp [State.held]
    rfl
  · exact port
  · rw [port, ← arrived, arrive_hunt_place hunt place.isLt]
  · rw [port, ← arrived, arrive_right framed good (by rw [slot, right])]
  · rw [port, ← arrived, arrive_wrong framed (by rw [slot]; exact wrong)]
  · rw [port]; exact frame

end Sys2Proof.Safety
end

section
/-! PROOFS. Segment cells (R48, R50 to R55, R59, R60, R64, R65): what a port's change and a segment cell leave alone, and what a cell
that is taken gives the node. -/

namespace Sys2Proof.Safety
open Sys2Proof.Machine

/-! ## What the blocks' events leave alone -/

section
variable (s : State)

/-- R107: an event of a far end leaves alone what its own work leaves alone. -/
theorem outsideLevel_farEvent (i : BlockIx) (f : State → State) (h : outsideLevel (f s) = outsideLevel s) :
    outsideLevel (farEvent i f s) = outsideLevel s := by
  simp only [farEvent, outsideLevel_reformLights]
  split <;> simpa using h
@[simp] theorem outsideLevel_masterFault (i : BlockIx) : outsideLevel (masterFault i s) = outsideLevel s := by
  simp only [masterFault]; split
  · rfl
  · exact outsideLevel_masterEvent i _ s (by simp)
@[simp] theorem outsideLevel_takeClaim (i : BlockIx) (e : BlockEnd) (t : Nat) : outsideLevel (takeClaim i e t s) = outsideLevel s := by
  simp only [takeClaim, answerDuplicate]; repeat' split
  case isFalse => exact outsideLevel_masterEvent i _ s (outsideLevel_decideClaim i e t s)
  all_goals simp
@[simp] theorem outsideLevel_takeExit (i : BlockIx) (e : BlockEnd) (t : Nat) : outsideLevel (takeExit i e t s) = outsideLevel s := by
  simp only [takeExit]; repeat' split
  · exact outsideLevel_masterEvent i _ s (by simp [exitListed])
  · exact outsideLevel_masterEvent i _ s (by simp [exitFaulted])
  all_goals simp
@[simp] theorem outsideLevel_setFarReady (i : BlockIx) (b : Bool) : outsideLevel (setFarReady i b s) = outsideLevel s := by
  simp only [setFarReady]; split <;> simp
@[simp] theorem outsideLevel_setClaim (i : BlockIx) (c : Option (Nat × Standing)) : outsideLevel (setClaim i c s) = outsideLevel s := by
  unfold setClaim; split <;> simp
@[simp] theorem outsideLevel_setExits (i : BlockIx) (l : List Nat) : outsideLevel (setExits i l s) = outsideLevel s := by
  unfold setExits; split <;> simp
@[simp] theorem outsideLevel_farAnswer (i : BlockIx) (t : Nat) (st : Standing) : outsideLevel (farAnswer i t st s) = outsideLevel s := by
  unfold farAnswer; repeat' split
  · exact outsideLevel_farEvent s i _ (outsideLevel_setClaim s i _)
  all_goals rfl
@[simp] theorem outsideLevel_farTakeState (i : BlockIx) (m : Mirror) : outsideLevel (farTakeState i m s) = outsideLevel s :=
  outsideLevel_farEvent s i _ (by simp)
/-- R119: a neighbour message reaches the blocks, and what their events reach. -/
@[simp] theorem outsideLevel_takeNeighbour (d : Side) (m : NMsg) : outsideLevel (takeNeighbour d m s) = outsideLevel s := by
  unfold takeNeighbour neighbourClaim neighbourExit neighbourFarState neighbourGrant neighbourWait neighbourState
  repeat' split
  all_goals simp
@[simp] theorem outsideLevel_recheckFar (s0 : State) : outsideLevel (recheckFar s0 s) = outsideLevel s :=
  outsideLevel_forEach 4 _ s fun i s => by
    have fault : outsideLevel (farEvent i (fun s =>
        if s.farFaultNow i = (s.farEnd i).localFault then s
        else (s.setFar i { s.farEnd i with localFault := s.farFaultNow i }).mark (.block i)) s) = outsideLevel s :=
      outsideLevel_farEvent s i _ (by split <;> simp)
    simp only; repeat' split
    · exact fault
    · rw [outsideLevel_postReadiness, fault]
    · rfl
@[simp] theorem outsideLevel_blocksPortLost (d : Side) (s0 : State) : outsideLevel (blocksPortLost d s0 s) = outsideLevel s := by
  cases d with
  | inbye => exact outsideLevel_forEach 4 _ s fun i s => by split <;> simp
  | outbye =>
    refine (outsideLevel_recheckFar _ s0).trans (outsideLevel_forEach 4 _ s fun i s => ?_)
    split
    · exact outsideLevel_farEvent s i _ (by simp)
    · rfl
@[simp] theorem outsideLevel_blocksPortUp (d : Side) (s0 : State) : outsideLevel (blocksPortUp d s0 s) = outsideLevel s := by
  cases d
  · rfl
  · exact outsideLevel_recheckFar s s0
@[simp] theorem outsideLevel_resetRequested : outsideLevel (resetRequested s) = outsideLevel s :=
  outsideLevel_forEach 16 _ s fun r s => by split <;> simp
@[simp] theorem outsideLevel_callsAutonomous : outsideLevel (callsAutonomous s) = outsideLevel s := by simp [callsAutonomous]
end

/-! ## What the line's own changes leave alone -/

section
variable (s : State)

theorem outsideLevel_setPosition (p : Option Nat) : outsideLevel (setPosition p s) =
    { outsideLevel s with line := { (outsideLevel s).line with position := p } } := by
  unfold setPosition; split
  · next same => subst same; rfl
  · rw [outsideLevel_mark]; rfl
theorem outsideLevel_setInbyeNeighbour (p : Option Nat) (e : Option Bool) : outsideLevel (setInbyeNeighbour p e s) =
    { outsideLevel s with line := { (outsideLevel s).line with inbyePos := p, inbyeEol := e } } := by
  unfold setInbyeNeighbour; split
  · next same => obtain ⟨rfl, rfl⟩ := same; rfl
  · rw [outsideLevel_mark]; rfl
theorem outsideLevel_setEndOfLine (b : Bool) : outsideLevel (setEndOfLine b s) =
    { outsideLevel s with line := { (outsideLevel s).line with endOfLine := b } } := by
  unfold setEndOfLine; split
  · next same => subst same; rfl
  · rw [outsideLevel_mark]; rfl
/-- R175: a part-received order is discarded and counted. -/
def partialDropped (m : Mgmt) : Mgmt := if m.asm.isSome then { m with asm := none, malformed := bump16 m.malformed } else m
theorem outsideLevel_dropPartial : outsideLevel (dropPartial s) =
    { outsideLevel s with mgmt := partialDropped (outsideLevel s).mgmt } := by
  have asm : (outsideLevel s).mgmt.asm = s.mgmt.asm := rfl
  unfold dropPartial partialDropped
  rw [asm]
  split <;> rfl
/-- R29, R61, R179: a change of the autonomous condition; on entering it the ordered levels are held and a part-sent message goes back. -/
theorem outsideLevel_setAutonomous (b : Bool) : outsideLevel (setAutonomous b s) =
    { outsideLevel s with
      line := { (outsideLevel s).line with autonomous := b }
      level := { (outsideLevel s).level with received := if s.line.autonomous = false ∧ b = true then false else s.level.received }
      mgmt := if s.line.autonomous = false ∧ b = true then rewindProgress (outsideLevel s).mgmt else (outsideLevel s).mgmt } := by
  simp only [setAutonomous]; split
  · next same =>
    subst same
    have stands : ¬ (s.line.autonomous = false ∧ s.line.autonomous = true) := by simp
    rw [if_neg stands, if_neg stands]; rfl
  · next other =>
    cases b with
    | true =>
      have enters : s.line.autonomous = false ∧ true = true := ⟨by simpa using other, rfl⟩
      rw [if_pos rfl, if_pos enters, if_pos enters, outsideLevel_callsAutonomous]; rfl
    | false =>
      have leaves : ¬ (s.line.autonomous = false ∧ false = true) := by simp
      rw [if_neg (by simp), if_neg leaves, if_neg leaves, callsReached, outsideLevel_resetRequested, outsideLevel_mark]; rfl
theorem outsideLevel_takeOrdered (t : Tab 16 Level) : outsideLevel (takeOrdered t s) =
    { outsideLevel s with level := { (outsideLevel s).level with ordered := t, received := true } } := by
  rw [takeOrdered, outsideLevel_reformOutput, outsideLevel_reformEffective]; rfl
end

/-! ## What a segment cell's fields give the node -/

/-- R51, R52: what the fields of a segment cell do, before its neighbour message is handed over. -/
def cellFields (d : Side) (pl : List Octet) (s : State) : State :=
  match d with
  | .inbye => setInbyeNeighbour (some (segSender pl)) (some (segFlag pl)) (s.setLine { s.line with rxMerged := segLevels pl })
  | .outbye =>
    let s := s.setLine { s.line with cycle := segCycle pl, cycleTaken := true, rxSurface := segFlag pl, rxOrdered := segLevels pl }
    let s := setAutonomous (!segFlag pl) (setPosition (positionFrom (segSender pl)) s)
    if segFlag pl then takeOrdered (segLevels pl) s else s
theorem takeSegment_eq (d : Side) (pl : List Octet) (s : State) :
    takeSegment d pl s = takeMessage d (segMessage pl) (cellFields d pl s) := by
  cases d <;> rfl
/-- R50, R51, R53, R54, R59, R29: the fields that a cell gives the node at the outbye port. -/
def outbyeTaken (pl : List Octet) (s : State) : State :=
  { s with
    line := { s.line with
      cycle := segCycle pl, cycleTaken := true, rxSurface := segFlag pl, rxOrdered := segLevels pl
      position := positionFrom (segSender pl), autonomous := !segFlag pl }
    level := { s.level with
      ordered := if segFlag pl then segLevels pl else s.level.ordered
      received := if segFlag pl then true else if s.line.autonomous then s.level.received else false }
    mgmt := if s.line.autonomous = false ∧ segFlag pl = false then rewindProgress s.mgmt else s.mgmt }
/-- R52, R31: those at the inbye port. -/
def inbyeTaken (pl : List Octet) (s : State) : State :=
  { s with line := { s.line with
      rxMerged := segLevels pl, inbyePos := some (segSender pl), inbyeEol := some (segFlag pl) } }

section
variable (pl : List Octet) (s : State)

theorem outsideLevel_cellFields_inbye : outsideLevel (cellFields .inbye pl s) = outsideLevel (inbyeTaken pl s) := by
  rw [cellFields, outsideLevel_setInbyeNeighbour]; rfl
theorem outsideLevel_cellFields_outbye : outsideLevel (cellFields .outbye pl s) = outsideLevel (outbyeTaken pl s) := by
  have autonomous (p : Option Nat) (s : State) : (setPosition p s).line.autonomous = s.line.autonomous :=
    congrArg LinePart.autonomous (linePart_setPosition s p)
  have received (p : Option Nat) (s : State) : (setPosition p s).level.received = s.level.received := by
    unfold setPosition; split <;> rfl
  simp only [cellFields]
  cases flag : segFlag pl with
  | true =>
    rw [if_pos rfl, outsideLevel_takeOrdered, outsideLevel_setAutonomous, outsideLevel_setPosition]
    simp [outbyeTaken, flag, outsideLevel]
  | false =>
    rw [if_neg (by simp), outsideLevel_setAutonomous, outsideLevel_setPosition, autonomous, received]
    cases alone : s.line.autonomous <;> simp [outbyeTaken, flag, alone, outsideLevel, rewindProgress]
/-- R65: the marks of LINE that the cell's fields make. -/
theorem held_cellFields_inbye : (cellFields .inbye pl s).held .line =
    marked (count (¬ (s.line.inbyePos = some (segSender pl) ∧ s.line.inbyeEol = some (segFlag pl)))) (s.held .line) :=
  held_setInbyeNeighbour (s.setLine { s.line with rxMerged := segLevels pl }) _ _
theorem held_cellFields_outbye : (cellFields .outbye pl s).held .line =
    marked (count (positionFrom (segSender pl) ≠ s.line.position) + count (s.line.autonomous ≠ !segFlag pl)) (s.held .line) := by
  have ordered (b : Bool) (s : State) : (if b then takeOrdered (segLevels pl) s else s).held .line = s.held .line := by
    split
    · exact held_of_lineView (lineView_takeOrdered s _)
    · rfl
  have stands (p : Option Nat) (s : State) : (setPosition p s).line.autonomous = s.line.autonomous :=
    congrArg LinePart.autonomous (linePart_setPosition s p)
  simp only [cellFields]
  rw [ordered, held_setAutonomous, held_setPosition, stands, marked_add]
  rfl
end

/-! ## The neighbour message (R64, R119) -/

theorem exec_neighbour (m : NMsg) (s : State) : exec m.command s = settled (takeNeighbour m.port m) s := by cases m <;> rfl
/-- R119: a message that does not fit the port is handed to nobody. -/
theorem takeNeighbour_misfit {d : Side} {m : NMsg} (misfit : m.port ≠ d) (s : State) : takeNeighbour d m s = s := by
  unfold takeNeighbour
  split
  · split
    iterate 6 · exact absurd rfl misfit
    · rfl
  · rfl
/-- R64: what is left when a cell's fields, and then its message, have been taken. -/
theorem settle_takeSegment {d : Side} {pl : List Octet} {s : State} (powered : (settle (cellFields d pl s)).powered = true) :
    (.next (settle (takeSegment d pl s)) : Host.Outcome State Fault Refusal) = match segMessage pl with
      | some m => if m.port = d then exec m.command (settle (cellFields d pl s)) else .next (settle (cellFields d pl s))
      | none => .next (settle (cellFields d pl s)) := by
  rw [takeSegment_eq]
  cases segMessage pl with
  | none => rfl
  | some m =>
    simp only [takeMessage]
    split
    · next fits => rw [exec_neighbour, settled_powered _ powered, fits]
    · next misfit => rw [takeNeighbour_misfit misfit, settle_settle]

/-- A state whose frame is that of a powered one is powered. -/
theorem powered_settle {s u v : State} (frame : outsideLevel u = outsideLevel v) (same : v.powered = s.powered) (h : s.powered = true) :
    (settle u).powered = true := by
  rw [powered_of_outsideActions (outsideActions_settle u), powered_of_outsideActions (outsideActions_of_outsideLevel frame), same, h]
theorem setPort_setPort (s : State) (d : Side) (x y : LinePort) : (s.setPort d x).setPort d y = s.setPort d y := by cases d <;> rfl

/-- Settles O25: the port judges the cell, and one that is taken gives its fields and then its message. -/
theorem segmentCellsAreTaken : Obligations.SegmentCellsAreTaken := by
  intro d place c s powered idle slot
  rw [found_eq_atCell] at slot
  simp only [found_eq_atCell]
  generalize found : (s.port d).atCell = x at slot
  have run := (exec_cellRow d place c s).trans (settled_powered _ powered)
  rw [cellArrives_segment (found ▸ slot), found] at run
  have handed (a : Arrival) (framed : x.framed = true) (judged : judgeCell 1 c = a) : x.handed place.val c = a := by
    rw [LinePort.handed_framed framed, slot, judged]
  refine ⟨fun hunt => ?_, fun framed wrong => ?_, fun framed good right vacant => ?_, fun framed good right occupied => ?_⟩
  · rw [LinePort.handed_hunt hunt, arrive_hunt_place hunt place.isLt] at run
    exact run.trans (congrArg _ (settle_setPort idle d _))
  · rw [handed _ framed (judgeCell_errored wrong), arrive_wrong framed (slot ▸ wrong)] at run
    exact run.trans (congrArg _ (settle_setPort idle d _))
  · rw [handed .vacant framed (by rw [judgeCell_good good right, vacant]; rfl), arrive_right framed good (right.trans slot.symm)] at run
    exact run.trans (congrArg _ (settle_setPort idle d _))
  · rw [handed (.occupied (cellPayload c)) framed (by rw [judgeCell_good good right, occupied]; rfl),
      arrive_right framed good (right.trans slot.symm)] at run
    simp only [segmentHanded, goodSegment, State.setPort_port, setPort_setPort] at run
    refine ⟨fun up => ?_, fun down => ?_⟩
    · rw [if_pos up] at run
      generalize cellPayload c = pl at run
      generalize port : s.setPort d { x with errRun := 0, miss := 0, segSeen := true } = s' at run
      cases d with
      | inbye =>
        have frame := outsideLevel_cellFields_inbye pl s'
        refine ⟨cellFields .inbye pl s', run.trans (settle_takeSegment (powered_settle frame (by rw [← port]; rfl) powered)),
          nofun, fun _ => ⟨?_, ?_⟩⟩
        · rw [held_cellFields_inbye, ← port]; rfl
        · rw [frame, ← port]; rfl
      | outbye =>
        have frame := outsideLevel_cellFields_outbye pl s'
        generalize fields : cellFields .outbye pl s' = u at frame
        have line : (outsideLevel u).line = (outsideLevel (outbyeTaken pl s')).line := congrArg State.line frame
        have level : (outsideLevel u).level = (outsideLevel (outbyeTaken pl s')).level := congrArg State.level frame
        have position : u.line.position = positionFrom (segSender pl) := congrArg Line.position line
        have ordered : u.level.ordered = (outbyeTaken pl s').level.ordered := (congrArg LevelUnit.ordered level :)
        have received : u.level.received = (outbyeTaken pl s').level.received := (congrArg LevelUnit.received level :)
        have taken := settle_takeSegment (powered_settle (fields ▸ frame) (by rw [← port]; rfl) powered)
        rw [fields] at taken
        refine ⟨u, run.trans taken, fun _ => ⟨congrArg Line.cycle line, position, congrArg Line.autonomous line, fun flag => ?_,
          fun flag => ?_, ?_, ?_⟩, nofun⟩
        · rw [ordered, received]; simp [outbyeTaken, flag]
        · rw [ordered, received, ← port]; simp [outbyeTaken, flag]
        · rw [position, ← fields, held_cellFields_outbye, ← port]; rfl
        · rw [frame, ordered, received, position, ← port]; rfl
    · rw [if_neg (by simp [down])] at run
      rw [run]
      split <;> rw [settle_setPort idle]

end Sys2Proof.Safety
end

section
/-! PROOFS. The changes of the line ports (R55, R56, R58, R59, R61, R62, R117, R120, R121): a port becomes LOST or UP. -/

namespace Sys2Proof.Safety
open Sys2Proof.Machine

/-! ## A walk in which each turn has an entry of its own -/

/-- Where each turn of a walk replaces its own entry of a table, by what the entry was, the walk has replaced each. `P` is what the
turns keep and may rest on. -/
theorem forEach_get {σ α : Type} {n : Nat} (view : σ → Tab n α) (P : σ → Prop) (g : Fin n → α → α) (f : Fin n → σ → σ)
    (keeps : ∀ i s, P s → P (f i s)) (turn : ∀ i s, P s → view (f i s) = (view s).put i (g i ((view s).get i)))
    (s : σ) (hs : P s) (i : Fin n) : (view (forEach n f s)).get i = g i ((view s).get i) := by
  have walked (l : List (Fin n)) (once : l.Nodup) (s : σ) (hs : P s) :
      (view (l.foldl (fun t i => f i t) s)).get i = if i ∈ l then g i ((view s).get i) else (view s).get i := by
    induction l generalizing s with
    | nil => simp
    | cons j l ih =>
      obtain ⟨fresh, once⟩ := List.nodup_cons.mp once
      rw [List.foldl_cons, ih once _ (keeps j s hs), turn j s hs]
      by_cases own : i = j
      · subst own
        simp [fresh]
      · simp [own, Tab.get_put_ne]
  rw [forEach, walked _ (List.nodup_finRange n) s hs, if_pos (List.mem_finRange i)]

/-! ## What equal frames share -/

section
variable {s t : State} (e : outsideLevel t = outsideLevel s)
include e

theorem isMaster_of_outsideLevel (i : BlockIx) : t.isMaster i = s.isMaster i := by
  simp only [State.isMaster, State.blockOn, State.commissioned, working_of_outsideLevel e]
theorem isFar_of_outsideLevel (i : BlockIx) : t.isFar i = s.isFar i := by
  simp only [State.isFar, State.blockOn, State.commissioned, working_of_outsideLevel e]
theorem autonomous_of_outsideLevel : t.line.autonomous = s.line.autonomous := (congrArg (fun s => s.line.autonomous) e :)
theorem endOfLine_of_outsideLevel : t.line.endOfLine = s.line.endOfLine := (congrArg (fun s => s.line.endOfLine) e :)
theorem inbyePos_of_outsideLevel : t.line.inbyePos = s.line.inbyePos := (congrArg (fun s => s.line.inbyePos) e :)
theorem inbyeEol_of_outsideLevel : t.line.inbyeEol = s.line.inbyeEol := (congrArg (fun s => s.line.inbyeEol) e :)
theorem received_of_outsideLevel : t.level.received = s.level.received := (congrArg (fun s => s.level.received) e :)
theorem outUp_of_outsideLevel : t.line.outPort.up = s.line.outPort.up := (congrArg (fun s => s.line.outPort.up) e :)
end

/-! ## The block entries -/

section
variable (s : State)

@[simp] theorem entries_markIf (b : Bool) (x : Source) : (s.markIf b x).blocks = s.blocks := by cases b <;> rfl
@[simp] theorem entries_offer (p : SpurId) (m : OutMsg) : (offer p m s).blocks = s.blocks := by unfold offer; split <;> rfl
@[simp] theorem entries_post (d : Side) (m : NMsg) : (post d m s).blocks = s.blocks := by unfold post; split <;> simp
@[simp] theorem entries_reformLights : (reformLights s).blocks.entries = s.blocks.entries :=
  forEach_keeps (fun s => s.blocks.entries) 8 _ (fun p s => by
    simp only [reformLight]; generalize (if s.spurType p = .truck then s.lightOf p else .dark) = l
    split <;> simp) s
theorem entries_masterEvent (i : BlockIx) (f : State → State) : (masterEvent i f s).blocks.entries = (f s).blocks.entries := by
  simp only [masterEvent, entries_reformLights, postState]
  repeat' split
  all_goals simp
theorem entries_farEvent (i : BlockIx) (f : State → State) : (farEvent i f s).blocks.entries = (f s).blocks.entries := by
  simp only [farEvent, entries_reformLights]
  split <;> simp
@[simp] theorem entries_clearCall (r : RecId) (c : ClearCause) : (clearCall r c s).blocks = s.blocks := by
  have tones (l : List SpurId) (s : State) : (clearTones c l s).blocks = s.blocks :=
    foldl_keeps (fun s => s.blocks) _ (fun s p => by split <;> simp [tone]) l s
  have ring (o : Option SpurId) (b : Bool) (s : State) : (ringOpt o b s).blocks = s.blocks := by cases o <;> simp [ringOpt]
  simp only [clearCall, dropBridge, dropPair]; repeat' split
  all_goals simp [tones, ring, enterCall, removePair]
@[simp] theorem entries_setAutonomous (b : Bool) : (setAutonomous b s).blocks = s.blocks := by
  have reset (s : State) : (resetRequested s).blocks = s.blocks :=
    forEach_keeps (fun s => s.blocks) 16 _ (fun r s => by split <;> simp) s
  have cleared (s : State) : (callsAutonomous s).blocks = s.blocks :=
    (reset _).trans (forEach_keeps (fun s => s.blocks) 16 _ (fun r s => by split <;> simp) s)
  simp only [setAutonomous]; repeat' split
  · rfl
  · rw [cleared]; rfl
  · rw [callsReached, reset]; rfl
@[simp] theorem entries_setInbyeNeighbour (p : Option Nat) (e : Option Bool) : (setInbyeNeighbour p e s).blocks = s.blocks := by
  unfold setInbyeNeighbour; split <;> rfl
@[simp] theorem entries_setEndOfLine (b : Bool) : (setEndOfLine b s).blocks = s.blocks := by unfold setEndOfLine; split <;> rfl
@[simp] theorem entries_dropPartial : (dropPartial s).blocks = s.blocks := by unfold dropPartial; split <;> rfl
end

/-- R117, R120: a master whose inbye port has become LOST. -/
def masterPortLost (m : Master) : Master :=
  if m.state = .fault then { m with farReady := false }
  else { m with farReady := false, state := .fault, faults := m.list, faultDir := m.dir, list := [], dir := none, goTag := none }
/-- R121: a far entry that shows FAULT in its mirror. -/
def mirrorLost (f : FarEnd) : FarEnd := { f with mirror := { f.mirror with state := .fault } }
/-- R117, R121: a far entry at a LOST outbye port, `ready` when it was ready before. -/
def farPortLost (ready : Bool) (f : FarEnd) : FarEnd :=
  { f with localFault := true, readySent := if ready then false else f.readySent }

section
variable {s : State} (i : BlockIx)

theorem entries_masterFault (s : State) : (masterFault i (s.setMaster i { s.master i with farReady := false })).blocks.entries =
    s.blocks.entries.put i { s.blocks.entries.get i with master := masterPortLost (s.master i) } := by
  have twice (x y : BlockRec) : (s.blocks.entries.put i x).put i y = s.blocks.entries.put i y :=
    Tab.ext fun j => by simp only [Tab.get_put]; split <;> rfl
  simp only [masterFault, State.setMaster_master, masterPortLost]
  split
  · rfl
  · rw [entries_masterEvent]
    simp [State.setMaster, twice]
/-- R117, R120: each configured master at a LOST inbye port. -/
theorem entries_inbyeLost (s0 s : State) : (blocksPortLost .inbye s0 s).blocks.entries.get i =
    if s.isMaster i then { s.blocks.entries.get i with master := masterPortLost (s.master i) } else s.blocks.entries.get i := by
  refine forEach_get (fun t : State => t.blocks.entries) (fun t => outsideLevel t = outsideLevel s)
    (fun i x => if s.isMaster i then { x with master := masterPortLost x.master } else x) _ (fun i t h => ?_) (fun i t h => ?_) s rfl i
  · split <;> simp [h]
  · rw [isMaster_of_outsideLevel h]
    split
    · exact entries_masterFault i t
    · simp
theorem entries_setFar_mark (s : State) (f : FarEnd) (b : Bool) :
    ((s.setFar i f).markIf b (.block i)).blocks.entries = s.blocks.entries.put i { s.blocks.entries.get i with far := f } := by
  rw [entries_markIf]; rfl
/-- R121: the mirror of each configured far entry at a LOST outbye port. -/
theorem entries_mirrorsLost (s : State) : (forEach 4 (fun i s =>
      if s.isFar i then
        farEvent i (fun s => (s.setFar i (mirrorLost (s.farEnd i))).markIf ((s.farEnd i).mirror.state != .fault) (.block i)) s
      else s) s).blocks.entries.get i =
    if s.isFar i then { s.blocks.entries.get i with far := mirrorLost (s.farEnd i) } else s.blocks.entries.get i := by
  refine forEach_get (fun t : State => t.blocks.entries) (fun t => outsideLevel t = outsideLevel s)
    (fun i x => if s.isFar i then { x with far := mirrorLost x.far } else x) _ (fun i t h => ?_) (fun i t h => ?_) s rfl i
  · split
    · exact (outsideLevel_farEvent t i _ (by simp)).trans h
    · exact h
  · rw [isFar_of_outsideLevel h]
    split
    · rw [entries_farEvent, entries_setFar_mark]; rfl
    · simp
/-- R117, R121: each configured far entry checked again while the outbye port is LOST; `s0` is the state before. -/
theorem entries_recheckFar_lost (s0 : State) (down : s.line.outPort.up = false) : (recheckFar s0 s).blocks.entries.get i =
    if s.isFar i then { s.blocks.entries.get i with far := farPortLost (s0.farReadyNow i) (s.farEnd i) } else s.blocks.entries.get i := by
  have notReady {t : State} (h : outsideLevel t = outsideLevel s) (i : BlockIx) : t.farReadyNow i = false := by
    simp [State.farReadyNow, outUp_of_outsideLevel h, down]
  have faulty {t : State} (h : outsideLevel t = outsideLevel s) (i : BlockIx) : t.farFaultNow i = true := by
    simp [State.farFaultNow, outUp_of_outsideLevel h, down]
  have checked (i : BlockIx) (t : State) : outsideLevel (farEvent i (fun s =>
        if s.farFaultNow i = (s.farEnd i).localFault then s
        else (s.setFar i { s.farEnd i with localFault := s.farFaultNow i }).mark (.block i)) t) = outsideLevel t :=
    outsideLevel_farEvent t i _ (by split <;> simp)
  have turn (i : BlockIx) {t : State} (h : outsideLevel t = outsideLevel s) : (farEvent i (fun s =>
        if s.farFaultNow i = (s.farEnd i).localFault then s
        else (s.setFar i { s.farEnd i with localFault := s.farFaultNow i }).mark (.block i)) t).blocks.entries =
      t.blocks.entries.put i { t.blocks.entries.get i with far := { t.farEnd i with localFault := true } } := by
    rw [entries_farEvent, faulty h]
    split
    · next same =>
      have stands : { t.blocks.entries.get i with far := { t.farEnd i with localFault := true } } = t.blocks.entries.get i := by
        rw [same]; rfl
      rw [stands, Tab.put_get]
    · rfl
  have twice (t : Tab 4 BlockRec) (i : BlockIx) (x y : BlockRec) : (t.put i x).put i y = t.put i y :=
    Tab.ext fun j => by simp only [Tab.get_put]; split <;> rfl
  refine forEach_get (fun t : State => t.blocks.entries) (fun t => outsideLevel t = outsideLevel s)
    (fun i x => if s.isFar i then { x with far := farPortLost (s0.farReadyNow i) x.far } else x) _
    (fun i t h => ?_) (fun i t h => ?_) s rfl i
  · simp only; repeat' split
    · exact (checked i t).trans h
    · rw [outsideLevel_postReadiness, checked, h]
    · exact h
  · rw [isFar_of_outsideLevel h]
    simp only
    split
    · have ready := notReady ((checked i t).trans h) i
      have turned := turn i h
      generalize farEvent i _ t = u at ready turned
      rw [ready]
      cases was : s0.farReadyNow i with
      | false => rw [if_pos rfl, turned]; rfl
      | true =>
        rw [if_neg (by simp), postReadiness, ready, entries_post, State.setFar_blocks]
        simp only [State.farEnd, turned, Tab.get_put_same, twice, farPortLost]
        rfl
    · simp
end

/-! ## A port becomes LOST -/

theorem lostDue_iff (x : LinePort) : x.lostDue = true ↔ eighthMiss x := by
  simp [LinePort.lostDue, eighthMiss]
/-- R29, R59, R175, R179: what the loss of the outbye port does beside the port, the blocks and the calls. -/
def outbyeLost (s : State) : State :=
  { s with
    line := { s.line with outPort := lostPort s.line.outPort, autonomous := true }
    level := { s.level with received := if s.line.autonomous then s.level.received else false }
    mgmt :=
      if s.line.autonomous then partialDropped s.mgmt else rewindProgress (partialDropped s.mgmt) }
/-- R58: what the loss of the inbye port does beside the port and the blocks. -/
def inbyeLost (s : State) : State :=
  { s with line := { s.line with inPort := lostPort s.line.inPort, endOfLine := true, inbyePos := none, inbyeEol := none } }

section
variable (s : State)

theorem line_dropPartial : (dropPartial s).line = s.line := by unfold dropPartial; split <;> rfl
theorem level_dropPartial : (dropPartial s).level = s.level := by unfold dropPartial; split <;> rfl
theorem inbyePos_setEndOfLine (b : Bool) : (setEndOfLine b s).line.inbyePos = s.line.inbyePos := by
  unfold setEndOfLine; split <;> rfl
theorem inbyeEol_setEndOfLine (b : Bool) : (setEndOfLine b s).line.inbyeEol = s.line.inbyeEol := by
  unfold setEndOfLine; split <;> rfl
theorem held_portDown (d : Side) : (portDown d s).held .line = markHeld (s.held .line) := congrArg LineView.held (lineView_portDown d s)
theorem outsideLevel_portDown (d : Side) : outsideLevel (portDown d s) = outsideLevel (s.setPort d (lostPort (s.port d))) := by
  rw [portDown, outsideLevel_blocksPortLost, ← outsideLevel_mark (s.setPort d (lostPort (s.port d))) .line]
  rfl
theorem outsideLevel_portLost_inbye : outsideLevel (portLost .inbye s) = outsideLevel (inbyeLost s) := by
  rw [portLost_inbye, outsideLevel_setInbyeNeighbour, outsideLevel_setEndOfLine, outsideLevel_portDown]
  rfl
theorem partialDropped_blanked (m : Mgmt) (p : Bool) (h : Tab 58 (Option Nat)) :
    partialDropped { m with prepare := p, holding := h } = { partialDropped m with prepare := p, holding := h } := by
  simp only [partialDropped]; split <;> rfl
theorem outsideLevel_portLost_outbye : outsideLevel (portLost .outbye s) = outsideLevel (outbyeLost s) := by
  have frame := outsideLevel_portDown s .outbye
  have autonomous : (dropPartial (portDown .outbye s)).line.autonomous = s.line.autonomous := by
    rw [line_dropPartial, autonomous_of_outsideLevel frame]; rfl
  have received : (dropPartial (portDown .outbye s)).level.received = s.level.received := by
    rw [level_dropPartial, received_of_outsideLevel frame]; rfl
  have blanked : partialDropped (outsideLevel (s.setPort .outbye (lostPort (s.port .outbye)))).mgmt =
      { partialDropped s.mgmt with prepare := false, holding := Tab.fill 58 none } := partialDropped_blanked s.mgmt _ _
  rw [portLost_outbye, outsideLevel_setAutonomous, autonomous, received, outsideLevel_dropPartial, frame, blanked]
  cases alone : s.line.autonomous with
  | true => rw [if_neg (by simp), if_neg (by simp)]; simp only [outbyeLost, alone]; rfl
  | false => rw [if_pos ⟨rfl, rfl⟩, if_pos ⟨rfl, rfl⟩]; simp only [outbyeLost, alone]; rfl

theorem count_ne_true (b : Bool) : count (b ≠ true) = count (b = false) := count_congr (by simp)
/-- R65: the marks of LINE that the loss of a port makes. -/
theorem held_portLost_inbye : (portLost .inbye s).held .line = marked (1 + (count (s.line.endOfLine = false) +
    count (¬ (s.line.inbyePos = none ∧ s.line.inbyeEol = none)))) (s.held .line) := by
  have frame := outsideLevel_portDown s .inbye
  have inbyePos : (setEndOfLine true (portDown .inbye s)).line.inbyePos = s.line.inbyePos := by
    rw [inbyePos_setEndOfLine, inbyePos_of_outsideLevel frame]; rfl
  have inbyeEol : (setEndOfLine true (portDown .inbye s)).line.inbyeEol = s.line.inbyeEol := by
    rw [inbyeEol_setEndOfLine, inbyeEol_of_outsideLevel frame]; rfl
  have endOfLine : (portDown .inbye s).line.endOfLine = s.line.endOfLine := by
    rw [endOfLine_of_outsideLevel frame]; rfl
  rw [portLost_inbye, held_setInbyeNeighbour, held_setEndOfLine, held_portDown, inbyePos, inbyeEol, endOfLine, marked_add, marked_add,
    count_ne_true]
  rfl
theorem held_portLost_outbye :
    (portLost .outbye s).held .line = marked (1 + count (s.line.autonomous = false)) (s.held .line) := by
  have autonomous : (dropPartial (portDown .outbye s)).line.autonomous = s.line.autonomous := by
    rw [line_dropPartial, autonomous_of_outsideLevel (outsideLevel_portDown s .outbye)]; rfl
  rw [portLost_outbye, held_setAutonomous, held_of_lineView (lineView_dropPartial _), held_portDown, autonomous, marked_add,
    count_ne_true]
  rfl

/-! ### The blocks at a LOST port -/

theorem entries_portLost_inbye (i : BlockIx) : (portLost .inbye s).blocks.entries.get i =
    if s.isMaster i then { s.blocks.entries.get i with master := masterPortLost (s.master i) } else s.blocks.entries.get i := by
  rw [portLost_inbye, entries_setInbyeNeighbour, entries_setEndOfLine, portDown, entries_inbyeLost]
  rfl
/-- R121: the mirrors of the far entries when the outbye port is LOST. -/
def mirrorsLost (s : State) : State :=
  forEach 4 (fun i s =>
    if s.isFar i then
      farEvent i (fun s => (s.setFar i (mirrorLost (s.farEnd i))).markIf ((s.farEnd i).mirror.state != .fault) (.block i)) s
    else s) s
theorem outsideLevel_mirrorsLost : outsideLevel (mirrorsLost s) = outsideLevel s :=
  outsideLevel_forEach 4 _ s fun i s => by
    split
    · exact outsideLevel_farEvent s i _ (by simp)
    · rfl
theorem blocksPortLost_outbye (s0 : State) : blocksPortLost .outbye s0 s = recheckFar s0 (mirrorsLost s) := rfl
theorem entries_portLost_outbye (i : BlockIx) : (portLost .outbye s).blocks.entries.get i =
    if s.isFar i then { s.blocks.entries.get i with far := farPortLost (s.farReadyNow i) (mirrorLost (s.farEnd i)) }
    else s.blocks.entries.get i := by
  rw [portLost_outbye, entries_setAutonomous, entries_dropPartial, portDown, blocksPortLost_outbye]
  generalize lost : discardQueue _ _ = u
  have frame : outsideLevel u = outsideLevel (s.setPort .outbye (lostPort s.line.outPort)) := by
    rw [← lost, ← outsideLevel_mark (s.setPort .outbye (lostPort s.line.outPort)) .line]; rfl
  have down : (mirrorsLost u).line.outPort.up = false :=
    (outUp_of_outsideLevel (outsideLevel_mirrorsLost u)).trans (outUp_of_outsideLevel frame)
  have far : (mirrorsLost u).isFar i = s.isFar i :=
    (isFar_of_outsideLevel (outsideLevel_mirrorsLost u) i).trans (isFar_of_outsideLevel frame i)
  have mirrors := entries_mirrorsLost i u
  have farBefore : u.isFar i = s.isFar i := isFar_of_outsideLevel frame i
  rw [farBefore, State.farEnd, show u.blocks = s.blocks by rw [← lost]; rfl] at mirrors
  have mirrors : (mirrorsLost u).blocks.entries.get i = _ := mirrors
  rw [entries_recheckFar_lost i s down, far, State.farEnd, mirrors]
  change (if s.isFar i = true then _ else _) = _
  split <;> rfl
end

end Sys2Proof.Safety
end

section
/-! PROOFS. The family of the roadway line: the loss of a port (O28). -/

namespace Sys2Proof.Safety
open Sys2Proof.Machine

section
variable (s : State)

theorem linePart_portLost_inbye :
    linePart (portLost .inbye s) = { linePart (s.setPort .inbye (lostPort s.line.inPort)) with endOfLine := true } := by
  rw [portLost_inbye, linePart_setInbyeNeighbour, linePart_setEndOfLine, linePart_portDown]
  rfl
theorem linePart_portLost_outbye :
    linePart (portLost .outbye s) = { linePart (s.setPort .outbye (lostPort s.line.outPort)) with autonomous := true } := by
  rw [portLost_outbye, linePart_setAutonomous, linePart_dropPartial, linePart_portDown]
  rfl
/-- R62: the queue of a LOST port is empty, the changes of the step taken or not. -/
theorem queue_of_portLost {t : State} (d : Side) (same : linePart t = linePart (portLost d s)) : (t.port d).queue = [] := by
  cases d with
  | inbye =>
    rw [linePart_portLost_inbye] at same
    have fits : queueFits t.line.inPort = queueFits (lostPort s.line.inPort) := congrArg LinePart.inFits same
    exact (fits.mpr (queueFits_lostPort _)).2 (congrArg LinePart.inUp same)
  | outbye =>
    rw [linePart_portLost_outbye] at same
    have fits : queueFits t.line.outPort = queueFits (lostPort s.line.outPort) := congrArg LinePart.outFits same
    exact (fits.mpr (queueFits_lostPort _)).2 (congrArg LinePart.outUp same)
theorem Quiet.portLost {s : State} (quiet : Quiet s) (d : Side) : Quiet (portLost d s) := by
  cases d with
  | inbye => exact (⟨quiet.queue, quiet.lists⟩ : Quiet (inbyeLost s)).of_outsideLevel (outsideLevel_portLost_inbye s)
  | outbye => exact (⟨quiet.queue, quiet.lists⟩ : Quiet (outbyeLost s)).of_outsideLevel (outsideLevel_portLost_outbye s)
theorem blocks_settle_quiet {s : State} (quiet : Quiet s) : (settle s).blocks = s.blocks := by
  rw [settle_quiet quiet]; rfl
/-- R175, R179: the Management Engine after the loss of the outbye port, outside what the Action Unit can reach. -/
theorem mgmt_outbyeLost {t : State} (frame : outsideActions t = outsideActions (outbyeLost s)) :
    t.mgmt.asm = none ∧ t.mgmt.malformed = (if s.mgmt.asm.isSome then bump16 s.mgmt.malformed else s.mgmt.malformed) ∧
      t.mgmt.replies = s.mgmt.replies ∧ t.mgmt.credit = s.mgmt.credit ∧ t.mgmt.accessOpen = s.mgmt.accessOpen := by
  have asm : t.mgmt.asm = (outbyeLost s).mgmt.asm := congrArg (fun x => x.mgmt.asm) frame
  have malformed : t.mgmt.malformed = (outbyeLost s).mgmt.malformed := congrArg (fun x => x.mgmt.malformed) frame
  have replies : t.mgmt.replies = (outbyeLost s).mgmt.replies := congrArg (fun x => x.mgmt.replies) frame
  have credit : t.mgmt.credit = (outbyeLost s).mgmt.credit := congrArg (fun x => x.mgmt.credit) frame
  have accessOpen : t.mgmt.accessOpen = (outbyeLost s).mgmt.accessOpen := congrArg (fun x => x.mgmt.accessOpen) frame
  rw [asm, malformed, replies, credit, accessOpen]
  simp only [outbyeLost, partialDropped, rewindProgress]
  cases s.line.autonomous <;> cases held : s.mgmt.asm <;> simp [held]
end

/-- Settles O28: the loss of a port by its side, the state outside the port, the line and the blocks being as it was. -/
theorem portLostAfterEightMisses : Obligations.PortLostAfterEightMisses := by
  intro d s powered idle
  have ran : exec (.portLost d) s = .next (settle (if (s.port d).lostDue then portLost d s else s)) := settled_powered _ powered
  refine ⟨fun eighth => ?_, fun notDue => ?_⟩
  · rw [if_pos ((lostDue_iff _).mpr eighth)] at ran
    refine ⟨_, ran, queue_of_portLost s d (linePart_of_lineView (lineView_settle _)), fun _ => ?_, ?_, ?_, fun quiet i => ?_⟩
    · rw [held_of_lineView (lineView_settle _)]
      cases d with
      | inbye => exact held_portLost_inbye s
      | outbye => exact held_portLost_outbye s
    · rintro rfl
      rw [outsideActions_settle]
      exact outsideActions_of_outsideLevel (outsideLevel_portLost_inbye s)
    · rintro rfl
      have frame : outsideActions (settle (portLost .outbye s)) = outsideActions (outbyeLost s) :=
        (outsideActions_settle _).trans (outsideActions_of_outsideLevel (outsideLevel_portLost_outbye s))
      refine ⟨?_, mgmt_outbyeLost s frame⟩
      have engine : (outsideActions (settle (portLost .outbye s))).mgmt = (outsideActions (outbyeLost s)).mgmt := congrArg State.mgmt frame
      generalize settle (portLost .outbye s) = t at frame engine
      rw [frame]
      change outsideActions (outbyeLost s) = { outsideActions (outbyeLost s) with mgmt := (outsideActions t).mgmt }
      rw [engine]
    · have blocks := blocks_settle_quiet (quiet.portLost d)
      simp only [State.master, State.farEnd, blocks]
      cases d with
      | inbye =>
        rw [entries_portLost_inbye]
        cases s.isMaster i <;> exact ⟨rfl, rfl⟩
      | outbye =>
        rw [entries_portLost_outbye]
        cases s.isFar i <;> exact ⟨rfl, rfl⟩
  · rw [ran, if_neg (fun due => notDue ((lostDue_iff _).mp due)), settle_of_noNotices idle]

end Sys2Proof.Safety
end

section
/-! PROOFS. The family of the roadway line: a port that becomes UP (O29). -/

namespace Sys2Proof.Safety
open Sys2Proof.Machine

theorem upDue_iff (x : LinePort) : x.upDue = true ↔ x.up = false ∧ x.good = 16 := by simp [LinePort.upDue]

theorem inUp_of_outsideActions {s t : State} (h : outsideActions t = outsideActions s) : t.line.inPort.up = s.line.inPort.up :=
  (congrArg (fun x => x.line.inPort.up) h :)
theorem position_of_outsideActions {s t : State} (h : outsideActions t = outsideActions s) : t.line.position = s.line.position :=
  (congrArg (fun x => x.line.position) h :)
theorem autonomous_of_outsideActions {s t : State} (h : outsideActions t = outsideActions s) : t.line.autonomous = s.line.autonomous :=
  (congrArg (fun x => x.line.autonomous) h :)
theorem commission_of_outsideActions {s t : State} (h : outsideActions t = outsideActions s) :
    t.working.commission = s.working.commission := (congrArg (fun x => x.working.commission) h :)

section
variable (s : State)

theorem outsideActions_portRisen (d : Side) :
    outsideActions (portRisen d s) = outsideActions (s.setPort d (upPort (s.port d))) := by
  rw [portRisen, outsideActions_settle]
  refine outsideActions_of_outsideLevel ?_
  rw [outsideLevel_blocksPortUp, outsideLevel_mark]
theorem outsideActions_takeMessage (d : Side) (m : Option NMsg) : outsideActions (takeMessage d m s) = outsideActions s := by
  cases m with
  | none => rfl
  | some m => exact (outsideActions_of_outsideLevel (outsideLevel_takeNeighbour ..)).trans (outsideActions_settle s)
theorem held_portRisen (d : Side) : (portRisen d s).held .line = markHeld (s.held .line) := congrArg LineView.held (lineView_portRisen d s)

/-- R55, R58, R52, R31: the frame of the inbye port's becoming UP. -/
theorem outsideActions_portUp_inbye (pl : List Octet) (held : s.line.inPort.heldCell = pl) :
    outsideActions (portUp .inbye s) = outsideActions (inbyeTaken pl
      { s with line := { s.line with inPort := upPort s.line.inPort, endOfLine := false } }) := by
  have ended (u : State) : outsideActions (setEndOfLine false u) =
      { outsideActions u with line := { (outsideActions u).line with endOfLine := false } } := by
    rw [outsideActions, outsideLevel_setEndOfLine]; rfl
  have fields (u : State) : outsideActions (cellFields .inbye pl u) = { outsideActions u with line := { (outsideActions u).line with
      rxMerged := segLevels pl, inbyePos := some (segSender pl), inbyeEol := some (segFlag pl) } } :=
    outsideActions_of_outsideLevel (outsideLevel_cellFields_inbye pl u)
  rw [portUp_inbye, takeSegment_eq, outsideActions_takeMessage, held, fields, ended, outsideActions_portRisen]
  rfl
/-- R55, R50, R51, R53, R54, R59, R29: the frame of the outbye port's. -/
theorem outsideActions_portUp_outbye (pl : List Octet) (held : s.line.outPort.heldCell = pl) :
    outsideActions (portUp .outbye s) = outsideActions (outbyeTaken pl (portRisen .outbye s)) := by
  rw [portUp_outbye, takeSegment_eq, outsideActions_takeMessage, held]
  exact outsideActions_of_outsideLevel (outsideLevel_cellFields_outbye pl _)

theorem held_portUp_inbye (pl : List Octet) (cell : s.line.inPort.heldCell = pl) : (portUp .inbye s).held .line =
    marked (1 + (count (s.line.endOfLine = true) +
      count (¬ (s.line.inbyePos = some (segSender pl) ∧ s.line.inbyeEol = some (segFlag pl))))) (s.held .line) := by
  have frame := outsideActions_portRisen s .inbye
  have inbyePos : (portRisen .inbye s).line.inbyePos = s.line.inbyePos := congrArg (fun x => x.line.inbyePos) frame
  have inbyeEol : (portRisen .inbye s).line.inbyeEol = s.line.inbyeEol := congrArg (fun x => x.line.inbyeEol) frame
  have endOfLine : (portRisen .inbye s).line.endOfLine = s.line.endOfLine := congrArg (fun x => x.line.endOfLine) frame
  rw [portUp_inbye, takeSegment_eq, held_of_lineView (lineView_takeMessage ..), cell, held_cellFields_inbye, held_setEndOfLine,
    inbyePos_setEndOfLine, inbyeEol_setEndOfLine, held_portRisen, inbyePos, inbyeEol, endOfLine, marked_add, marked_add,
    count_congr (Bool.ne_false_iff (b := s.line.endOfLine))]
  rfl
theorem held_portUp_outbye (pl : List Octet) (cell : s.line.outPort.heldCell = pl) : (portUp .outbye s).held .line =
    marked (1 + (count (positionFrom (segSender pl) ≠ s.line.position) + count (s.line.autonomous ≠ !segFlag pl))) (s.held .line) := by
  have frame := outsideActions_portRisen s .outbye
  have position : (portRisen .outbye s).line.position = s.line.position := by rw [position_of_outsideActions frame]; rfl
  have autonomous : (portRisen .outbye s).line.autonomous = s.line.autonomous := by rw [autonomous_of_outsideActions frame]; rfl
  rw [portUp_outbye, takeSegment_eq, held_of_lineView (lineView_takeMessage ..), cell, held_cellFields_outbye, held_portRisen, position,
    autonomous, marked_add, marked_add, marked_add]
  rfl
end

/-- Settles O29: a port becomes UP and takes the cell that completed its run. -/
theorem portUpTakesTheCompletingCell : Obligations.PortUpTakesTheCompletingCell := by
  intro d s powered idle
  have ran : exec (.portUp d) s = .next (settle (if (s.port d).upDue then portUp d s else s)) := settled_powered _ powered
  refine ⟨fun lost run => ?_, fun notDue => ?_⟩
  · rw [if_pos ((upDue_iff _).mpr ⟨lost, run⟩)] at ran
    generalize cell : (s.port d).heldCell = pl
    have held := held_of_lineView (lineView_settle (portUp d s))
    have frame := outsideActions_settle (portUp d s)
    generalize settle (portUp d s) = t at ran held frame
    cases d with
    | inbye =>
      rw [outsideActions_portUp_inbye s pl cell] at frame
      rw [held_portUp_inbye s pl cell] at held
      exact ⟨t, ran, congrArg (fun x => x.line.inPort.up) frame, congrArg (fun x => x.line.inPort.miss) frame,
        congrArg (fun x => x.line.inPort.good) frame, fun _ => held, fun _ => frame, nofun⟩
    | outbye =>
      rw [outsideActions_portUp_outbye s pl cell] at frame
      rw [held_portUp_outbye s pl cell] at held
      have risen := outsideActions_portRisen s .outbye
      generalize portRisen .outbye s = r at frame risen
      have position : t.line.position = positionFrom (segSender pl) := congrArg (fun x => x.line.position) frame
      have cycle : t.line.cycle = segCycle pl := congrArg (fun x => x.line.cycle) frame
      have autonomous : t.line.autonomous = !segFlag pl := congrArg (fun x => x.line.autonomous) frame
      have port : (outsideActions t).line.outPort = { upPort s.line.outPort with queue := [] } :=
        (congrArg (fun x => x.line.outPort) frame).trans (congrArg (fun x => x.line.outPort) risen)
      have taken (flag : segFlag pl = true) : t.level.ordered = segLevels pl ∧ t.level.received = true := by
        have ordered : t.level.ordered = (outbyeTaken pl r).level.ordered := congrArg (fun x => x.level.ordered) frame
        have received : t.level.received = (outbyeTaken pl r).level.received := congrArg (fun x => x.level.received) frame
        rw [ordered, received]; simp [outbyeTaken, flag]
      have up : t.line.outPort.up = true := congrArg LinePort.up port
      have miss : t.line.outPort.miss = 0 := congrArg LinePort.miss port
      have good : t.line.outPort.good = 0 := congrArg LinePort.good port
      refine ⟨t, ran, up, miss, good, fun _ => ?_, nofun, fun _ =>
        ⟨cycle, autonomous, position, taken, ?_, ?_, ?_, ?_⟩⟩
      · rw [position]; exact held
      · exact (inUp_of_outsideActions frame).trans (inUp_of_outsideActions risen :)
      · exact (commission_of_outsideActions frame).trans (commission_of_outsideActions risen :)
      · exact (air_of_outsideActions frame).trans (air_of_outsideActions risen :)
      · exact (store_of_outsideActions frame).trans (store_of_outsideActions risen :)
  · have stands : ¬ (s.port d).upDue = true := fun due => by
      obtain ⟨down, run⟩ := (upDue_iff _).mp due
      simp [down, run] at notDue
    rw [ran, if_neg stands, settle_of_noNotices idle]

end Sys2Proof.Safety
end

section
/-! PROOFS. The family of the roadway line: the changes that the end of a cycle completes (R55, R165). -/

namespace Sys2Proof.Safety
open Sys2Proof.Machine

/-! ## Supply -/

theorem powered_of_outsideLevel {s t : State} (h : outsideLevel t = outsideLevel s) : t.powered = s.powered :=
  powered_of_outsideActions (outsideActions_of_outsideLevel h)

section
variable (s : State)

@[simp] theorem powered_settle_same : (settle s).powered = s.powered := powered_of_outsideActions (outsideActions_settle s)
theorem powered_portLost (d : Side) : (portLost d s).powered = s.powered := by
  cases d with
  | inbye => exact powered_of_outsideLevel (s := inbyeLost s) (outsideLevel_portLost_inbye s)
  | outbye => exact powered_of_outsideLevel (s := outbyeLost s) (outsideLevel_portLost_outbye s)
theorem powered_portUp (d : Side) : (portUp d s).powered = s.powered := by
  cases d with
  | inbye => exact (powered_of_outsideActions (outsideActions_portUp_inbye s _ rfl) :)
  | outbye =>
    have risen := powered_of_outsideActions (outsideActions_portRisen s .outbye)
    rw [powered_of_outsideActions (outsideActions_portUp_outbye s _ rfl)]
    generalize portRisen .outbye s = r at risen ⊢
    exact risen
theorem powered_airSpurLost (p : SpurId) : (airSpurLost p s).powered = s.powered :=
  forEach_keeps State.powered 16 _ (fun c s => by
    split
    · rw [chanFault, powered_of_outsideActions outsideActions_settle_changeChan]; rfl
    · rfl) s
theorem outsideLevel_blocksSpurLost (p : SpurId) (s0 : State) : outsideLevel (blocksSpurLost p s0 s) = outsideLevel s := by
  rw [blocksSpurLost, outsideLevel_recheckFar]
  exact outsideLevel_forEach 4 _ s fun i s => by split <;> simp
theorem powered_ownerLost (ty : SpurType) (p : SpurId) (s0 : State) : (ownerLost ty p s0 s).powered = s.powered := by
  cases ty with
  | off => rfl
  | gas => exact powered_airSpurLost s p
  | voice =>
    rw [ownerLost, callsSpurLost, powered_of_outsideLevel (outsideLevel_clearWhere _ _ _)]
    rfl
  | truck => exact powered_of_outsideLevel (outsideLevel_blocksSpurLost s p s0)
  | refuge =>
    simp only [ownerLost, refugeSpurLost]; split
    · exact powered_of_outsideLevel (outsideLevel_reformRefuge _ s)
    · rfl
theorem powered_silenceTimeout (p : SpurId) : (silenceTimeout p s).powered = s.powered := by
  simp only [silenceTimeout, leaveUp, enterSpur]; repeat' split
  · rw [powered_ownerLost]; rfl
  · rfl
  · rfl
end

/-! ## The changes due -/

theorem silent500_iff (x : Spur) : silent500 x ↔ x.silenceDue = true := by
  simp [Spur.silenceDue, silent500, and_assoc]
/-- The state after a command that runs an operation and takes what it hands over. -/
theorem after_of_settled {c : Instr} {f : State → State} {s : State} (run : exec c s = settled f s) (powered : s.powered = true) :
    after c s = settle (f s) := by
  rw [after, run, settled_powered f powered]

/-- What the changes at a cycle's end keep: the node is powered, with nothing left to be handed over. -/
structure Running (s : State) : Prop where
  powered : s.powered = true
  idle    : NoNotices s
theorem Running.settled {s t : State} (h : Running s) (same : t.powered = s.powered) : Running (settle t) :=
  ⟨by rw [powered_settle_same, same, h.powered], settle_notices t⟩

section
variable {s : State} (h : Running s)
include h

theorem Running.portChangeDue (d : Side) : Running (portChangeDue d s) := by
  unfold Machine.portChangeDue; repeat' split
  · exact h.settled (powered_portLost s d)
  · exact h.settled (powered_portUp s d)
  · exact h
theorem Running.spurChangeDue (p : SpurId) : Running (spurChangeDue p s) := by
  unfold Machine.spurChangeDue; split
  · exact h.settled (powered_silenceTimeout s p)
  · exact h
/-- R55: the change of a port that is due is what the port's own command makes of it. -/
theorem portChangeDue_eq (d : Side) : portChangeDue d s =
    if eighthMiss (s.port d) then after (.portLost d) s
    else if (s.port d).up = false ∧ (s.port d).good = 16 then after (.portUp d) s
    else s := by
  have lost := after_of_settled (c := .portLost d) (f := fun s => if (s.port d).lostDue then portLost d s else s) rfl h.powered
  have up := after_of_settled (c := .portUp d) (f := fun s => if (s.port d).upDue then portUp d s else s) rfl h.powered
  simp only [Machine.portChangeDue, lost, up, ← lostDue_iff, ← upDue_iff]
  split
  · rfl
  · split <;> rfl
theorem spurChangeDue_eq (p : SpurId) : spurChangeDue p s =
    if silent500 (s.spurs.get p) then after (.spurSilenceTimeout p) s else s := by
  have silent := after_of_settled (c := .spurSilenceTimeout p) (f := silenceTimeout p) rfl h.powered
  simp only [Machine.spurChangeDue, silent, silent500_iff]
theorem Running.changesDue : Running (changesDue s) :=
  forEach_invariant Running 8 _ (fun p _ h => h.spurChangeDue p) _ ((h.portChangeDue .outbye).portChangeDue .inbye)
/-- R55, R58, R59, R165: the state in which a cycle ends is the one that the due changes' own commands make. -/
theorem changesDue_eq : changesDue s = atCycleEnd s := by
  have spurs (l : List SpurId) {u : State} (hu : Running u) : l.foldl (fun t p => spurChangeDue p t) u =
      l.foldl (fun t p => if silent500 (t.spurs.get p) then after (.spurSilenceTimeout p) t else t) u := by
    induction l generalizing u with
    | nil => rfl
    | cons p l ih => rw [List.foldl_cons, List.foldl_cons, ih (hu.spurChangeDue p), spurChangeDue_eq hu]
  have outbye := h.portChangeDue .outbye
  rw [Machine.changesDue, forEach, spurs _ (outbye.portChangeDue .inbye), portChangeDue_eq outbye, portChangeDue_eq h]
  rfl
end

end Sys2Proof.Safety
end

section
/-! PROOFS. The family of the roadway line: the slots without a cell at a cycle's end (R49, R69, R73). -/

namespace Sys2Proof.Safety
open Sys2Proof.Machine

/-- R49: the end of the cycle at an entry: one in which no cell arrived handles a vacant one. -/
def fillTurn (e : SlotIx) (s : State) : State := if (s.slots.map.get e).out.isNone then switchCell e .vacant s else s
def fillEntry (s : State) (y : SlotEntry) : SlotEntry := if y.out.isNone then entryAfter s .vacant y else y
/-- R69: an entry in which no cell arrived drops the idle pattern for its owner's handset. -/
def silences (s : State) (p : SpurId) (y : SlotEntry) : Bool := y.out.isNone && y.drop.any fun r => (s.call r).origin == some p
def silenced (x : Spur) : Spur := { x with dropVoice := some idleVoice }
/-- The state with another Slot Map and other spurs. -/
def withSlotsAndSpurs (m : Tab 60 SlotEntry) (x : Tab 8 Spur) (s : State) : State :=
  { s with slots := { s.slots with map := m }, spurs := x }

theorem fillMissing_eq (s : State) : fillMissing s = forEach 60 fillTurn s := rfl
theorem silences_iff (s : State) (p : SpurId) (y : SlotEntry) :
    silences s p y = true ↔ y.out = none ∧ ∃ r, y.drop = some r ∧ (s.call r).origin = some p := by
  simp [silences, Option.any_eq_true]

section
variable (s : State) (e : SlotIx)

theorem not_collides_vacant (y : SlotEntry) : collides y .vacant = false := by unfold collides; split <;> simp_all
/-- R49: the turn of an entry reaches the map and the spurs. -/
theorem fillTurn_frame : fillTurn e s = withSlotsAndSpurs (fillTurn e s).slots.map (fillTurn e s).spurs s := by
  unfold fillTurn; split
  · rw [switchCell_eq, not_collides_vacant]; rfl
  · rfl
theorem calls_fillTurn : (fillTurn e s).calls = s.calls := by rw [fillTurn_frame]; rfl
theorem map_fillTurn : (fillTurn e s).slots.map = s.slots.map.put e (fillEntry s (s.slots.map.get e)) := by
  unfold fillTurn fillEntry; split
  · exact map_switchCell s e .vacant
  · exact (Tab.put_get _ e).symm
theorem get_spurs_fillTurn (p : SpurId) : (fillTurn e s).spurs.get p =
    if silences s p (s.slots.map.get e) then silenced (s.spurs.get p) else s.spurs.get p := by
  unfold fillTurn; split
  · next empty =>
    rw [spurs_switchCell, get_spursAfter]
    simp only [silences, empty, Bool.true_and]
    cases (s.slots.map.get e).drop with
    | none => rfl
    | some r => simp [silenced, deliveredVoice]
  · next sent => simp [silences, sent]

/-! ## All the entries -/

theorem fillEntry_of_calls {s t : State} (h : t.calls = s.calls) : fillEntry t = fillEntry s := by
  funext y
  simp only [fillEntry, entryAfter, sentBy, addVoice_of_calls h, State.call, h]
theorem silences_of_calls {s t : State} (h : t.calls = s.calls) (p : SpurId) : silences t p = silences s p := by
  funext y
  simp only [silences, State.call, h]
theorem get_map_fillMissing : (fillMissing s).slots.map.get e = fillEntry s (s.slots.map.get e) := by
  have turn (i : SlotIx) (t : State) (h : t.calls = s.calls) :
      (fillTurn i t).slots.map = t.slots.map.put i (fillEntry s (t.slots.map.get i)) := by rw [map_fillTurn, fillEntry_of_calls h]
  have walked := forEach_get (n := 60) (fun t : State => t.slots.map) (fun t => t.calls = s.calls) (fun _ => fillEntry s) fillTurn
    (fun i t h => (calls_fillTurn t i).trans h) turn
  rw [fillMissing_eq]
  exact walked s rfl e
/-- R69: a handset for which some entry without a cell drops is given the idle pattern. -/
theorem get_spurs_fillMissing (p : SpurId) : (fillMissing s).spurs.get p =
    if (List.finRange 60).any fun e => silences s p (s.slots.map.get e) then silenced (s.spurs.get p) else s.spurs.get p := by
  have walked (l : List SlotIx) (once : l.Nodup) (t : State) (h : t.calls = s.calls) :
      (l.foldl (fun t i => fillTurn i t) t).spurs.get p =
        if l.any fun i => silences s p (t.slots.map.get i) then silenced (t.spurs.get p) else t.spurs.get p := by
    induction l generalizing t with
    | nil => rfl
    | cons i l ih =>
      obtain ⟨fresh, once⟩ := List.nodup_cons.mp once
      have others : (l.any fun j => silences s p ((fillTurn i t).slots.map.get j)) = l.any fun j => silences s p (t.slots.map.get j) :=
        Bool.eq_iff_iff.mpr <| by
          simp only [List.any_eq_true]
          exact exists_congr fun j => and_congr_right fun mem => by
            rw [map_fillTurn, Tab.get_put_ne _ _ (ne_of_mem_of_not_mem mem fresh)]
      rw [List.foldl_cons, ih once _ ((calls_fillTurn t i).trans h), others, get_spurs_fillTurn, silences_of_calls h, List.any_cons]
      cases silences s p (t.slots.map.get i) <;> cases l.any fun j => silences s p (t.slots.map.get j) <;> rfl
  rw [fillMissing_eq]
  exact walked _ (List.nodup_finRange 60) s rfl
theorem fillMissing_frame : fillMissing s = withSlotsAndSpurs (fillMissing s).slots.map (fillMissing s).spurs s := by
  have rest : withSlotsAndSpurs s.slots.map s.spurs (fillMissing s) = withSlotsAndSpurs s.slots.map s.spurs s := by
    rw [fillMissing_eq]
    exact forEach_keeps (withSlotsAndSpurs s.slots.map s.spurs) 60 fillTurn (fun e t => by rw [fillTurn_frame]; rfl) s
  generalize fillMissing s = t at rest ⊢
  have again (u : State) : withSlotsAndSpurs t.slots.map t.spurs u =
      withSlotsAndSpurs t.slots.map t.spurs (withSlotsAndSpurs s.slots.map s.spurs u) := rfl
  calc t = withSlotsAndSpurs t.slots.map t.spurs t := rfl
    _ = withSlotsAndSpurs t.slots.map t.spurs s := by rw [again t, rest, ← again s]
end

end Sys2Proof.Safety
end

section
/-! PROOFS. The family of the roadway line: what a cycle sends and counts (O24). -/

namespace Sys2Proof.Safety
open Sys2Proof.Machine

/-! ## The 32 cells of a port (R47, R48) -/

/-- R47: the cells of a cycle by what the management cell, the segment cell and each traffic slot carry. -/
def cellsOf (mgmt seg : Option (List Octet)) (traffic : Slot → Option (List Octet)) : List (List Octet) :=
  wireCell 0 mgmt :: wireCell 1 seg :: (List.finRange 30).map fun sl => wireCell (sl.val + 2) (traffic sl)

section
variable (mgmt seg : Option (List Octet)) (traffic : Slot → Option (List Octet))

theorem length_cellsOf : (cellsOf mgmt seg traffic).length = 32 := rfl
theorem cellsOf_traffic (sl : Slot) : (cellsOf mgmt seg traffic)[sl.val + 2]? = some (wireCell (sl.val + 2) (traffic sl)) := by
  simp [cellsOf]
theorem cellsOf_good (k : Nat) (h : k < (cellsOf mgmt seg traffic).length) :
    cellGood (cellsOf mgmt seg traffic)[k] = true ∧ cellSlot (cellsOf mgmt seg traffic)[k] = k := by
  have sent : ∃ o, (cellsOf mgmt seg traffic)[k] = wireCell k o := by
    match k, h with
    | 0, _ => exact ⟨mgmt, rfl⟩
    | 1, _ => exact ⟨seg, rfl⟩
    | k + 2, h => exact ⟨_, by simp [cellsOf]; rfl⟩
  obtain ⟨o, sent⟩ := sent
  rw [length_cellsOf] at h
  rw [sent]
  exact ⟨cellGood_wireCell k o, (cellSlot_wireCell k o).trans (Nat.mod_eq_of_lt h)⟩
end

/-! ## The state that is sent -/

/-- R70: the latest voice of a spur at the end of a cycle. -/
def voiceAt (s : State) (p : SpurId) : List Octet := (s.spurs.get p).endCycle.voice.getD idleVoice
/-- R70: the voice of a record's handset. -/
def voiceOfRec (s : State) (r : RecId) : List Octet :=
  if (s.call r).state = .connected then (match (s.call r).origin with | some p => voiceAt s p | none => idleVoice) else idleVoice
/-- R68 to R71: what an entry's cell carries at the end of a cycle. -/
def carriedBy (s : State) (y : SlotEntry) : Option (List Octet) :=
  match y.out with
  | some .vacant => none
  | some (.cell pl) => some pl
  | some (.voice p) => some (voiceAt s p)
  | none => y.add.map (voiceOfRec s)
/-- R69, R163: some entry without a cell drops for the handset. -/
def silent (s : State) (p : SpurId) : Bool := (List.finRange 60).any fun e => silences s p (s.slots.map.get e)
/-- R49, R164: a spur whose cycle has ended, with what was dropped for it. -/
def endedSpur (s : State) (p : SpurId) : Spur :=
  { (s.spurs.get p).endCycle with dropVoice := if silent s p then some idleVoice else (s.spurs.get p).dropVoice }
/-- R47: the state whose cells and frames are sent, `closed` the contact samples of the cycle. -/
def endedCycle (closed : PairIx → Bool) (s : State) : State :=
  withSlotsAndSpurs (s.slots.map.mapIx fun _ y => fillEntry s y) (Tab.build 8 (endedSpur s)) (tick closed s)

section
variable (closed : PairIx → Bool) (s : State)

theorem call_tick (r : RecId) : (tick closed s).call r = s.tickCall (s.call r) := by simp [tick, State.call]
theorem state_tickCall (x : CallRec) : (s.tickCall x).state = x.state := by unfold State.tickCall; split <;> rfl
theorem origin_tickCall (x : CallRec) : (s.tickCall x).origin = x.origin := by unfold State.tickCall; split <;> rfl
theorem fillEntry_tick : fillEntry (tick closed s) = fillEntry s := by
  have voice (r : RecId) : (tick closed s).addVoice r = s.addVoice r := by
    have aged : (tick closed s).calls.recs.get r = s.tickCall (s.call r) := call_tick closed s r
    simp only [State.addVoice, aged, state_tickCall, origin_tickCall, State.call]
  funext y
  simp only [fillEntry, entryAfter, sentBy, voice, call_tick, state_tickCall]
theorem silences_tick (p : SpurId) : silences (tick closed s) p = silences s p := by
  funext y
  simp only [silences, call_tick, origin_tickCall]
/-- R47, R49: the slots without a cell, after every count has moved. -/
theorem fillMissing_tick : fillMissing (tick closed s) = endedCycle closed s := by
  have map : (fillMissing (tick closed s)).slots.map = s.slots.map.mapIx fun _ y => fillEntry s y :=
    Tab.ext fun e => by rw [get_map_fillMissing, fillEntry_tick, Tab.get_mapIx]; rfl
  have spurs : (fillMissing (tick closed s)).spurs = Tab.build 8 (endedSpur s) := Tab.ext fun p => by
    have ended : (tick closed s).spurs.get p = (s.spurs.get p).endCycle := by simp [tick]
    have stands : (s.spurs.get p).endCycle.dropVoice = (s.spurs.get p).dropVoice := by
      unfold Spur.endCycle; repeat' split
      all_goals rfl
    have same : ((List.finRange 60).any fun e => silences (tick closed s) p ((tick closed s).slots.map.get e)) = silent s p := by
      rw [silences_tick]; rfl
    rw [get_spurs_fillMissing, same, ended, Tab.get_build, endedSpur, ← stands]
    cases silent s p <;> rfl
  rw [fillMissing_frame, map, spurs, endedCycle]

/-! ## What is sent -/

theorem voice_endedCycle (p : SpurId) : ((endedCycle closed s).spurs.get p).voice.getD idleVoice = voiceAt s p := by
  simp [endedCycle, withSlotsAndSpurs, endedSpur, voiceAt]
theorem outPayload_addVoice (r : RecId) : (endedCycle closed s).outPayload (some (s.addVoice r)) = some (voiceOfRec s r) := by
  have record : s.calls.recs.get r = s.call r := rfl
  simp only [State.addVoice, voiceOfRec, record, beq_iff_eq]
  by_cases connected : (s.call r).state = .connected
  · rw [if_pos connected, if_pos connected]
    cases (s.call r).origin with
    | none => rfl
    | some p => exact congrArg some (voice_endedCycle closed s p)
  · rw [if_neg connected, if_neg connected]; rfl
theorem outPayload_fillEntry (y : SlotEntry) : (endedCycle closed s).outPayload (fillEntry s y).out = carriedBy s y := by
  cases y with
  | mk drop add continuity out =>
    cases out with
    | some o => cases o <;> simp [fillEntry, carriedBy, State.outPayload, voice_endedCycle]
    | none =>
      cases add with
      | none => cases drop <;> rfl
      | some r => cases drop <;> exact outPayload_addVoice closed s r
theorem trafficCells_endedCycle (d : Side) : (endedCycle closed s).trafficCells d =
    (List.finRange 30).map fun sl => wireCell (sl.val + 2) (carriedBy s (s.slots.map.get (slotIx d sl))) := by
  have entry (e : SlotIx) : (endedCycle closed s).slots.map.get e = fillEntry s (s.slots.map.get e) := by
    simp [endedCycle, withSlotsAndSpurs]
  simp only [State.trafficCells, entry, outPayload_fillEntry]

theorem endCycle_eq (x : Spur) : x.endCycle =
    { x with heard := x.endCycle.heard, voice := x.endCycle.voice, silence := x.endCycle.silence } := by
  unfold Spur.endCycle; repeat' split
  all_goals rfl
theorem spurs_endedCycle (p : SpurId) : (endedCycle closed s).spurs.get p = endedSpur s p := by
  simp [endedCycle, withSlotsAndSpurs]
theorem state_endedSpur (p : SpurId) : (endedSpur s p).state = (s.spurs.get p).state := by rw [endedSpur, endCycle_eq]
theorem frameMessage_endedCycle (p : SpurId) : (endedCycle closed s).frameMessage p = s.frameMessage p := by
  have type : (endedCycle closed s).spurType p = s.spurType p := rfl
  have ack : (endedSpur s p).ack = (s.spurs.get p).ack := by rw [endedSpur, endCycle_eq]
  have queue : (endedSpur s p).queue = (s.spurs.get p).queue := by rw [endedSpur, endCycle_eq]
  simp only [State.frameMessage, spurs_endedCycle, type, ack, queue]
theorem spurUpAs_endedCycle (p : SpurId) : (endedCycle closed s).spurUpAs .voice p = s.spurUpAs .voice p := by
  have type : (endedCycle closed s).spurType p = s.spurType p := rfl
  simp only [State.spurUpAs, State.spurUp, spurs_endedCycle, state_endedSpur, type]
theorem silent_iff (p : SpurId) : silent s p = true ↔
    ∃ e r, (s.slots.map.get e).out = none ∧ (s.slots.map.get e).drop = some r ∧ (s.call r).origin = some p := by
  simp only [silent, List.any_eq_true, List.mem_finRange, true_and, silences_iff, exists_and_left]
/-- R75, R163: the voice field of a frame: the bridged handset's voice, or what was dropped, or idle. -/
theorem voiceFor_endedCycle (p : SpurId) : (endedCycle closed s).voiceFor p =
    if s.spurUpAs .voice p then
      match bridgedTo s.slots.bridge p with
      | some q => voiceAt s q
      | none => if silent s p then idleVoice else (s.spurs.get p).dropVoice.getD idleVoice
    else idleVoice := by
  have bridge : (endedCycle closed s).slots.bridge = s.slots.bridge := rfl
  have dropped : (endedSpur s p).dropVoice = if silent s p then some idleVoice else (s.spurs.get p).dropVoice := rfl
  rw [State.voiceFor, spurUpAs_endedCycle, bridge, spurs_endedCycle, dropped]
  cases bridgedTo s.slots.bridge p with
  | some q => simp only [voice_endedCycle]
  | none => cases silent s p <;> rfl
/-- R163, R164: a spur once its frame is sent. -/
theorem sentFrame_endedSpur (p : SpurId) : (endedSpur s p).sentFrame =
    let x := s.spurs.get p
    if x.state = .off then { x with heard := false, dropVoice := none }
    else { x with
      heard := false, dropVoice := none, ack := none
      queue := if x.ack.isSome then x.queue else x.queue.drop 1
      voice := if x.heard then x.voice else none
      silence := if x.heard then x.silence else bump 500 x.silence } := by
  unfold Spur.sentFrame endedSpur Spur.endCycle
  by_cases off : (s.spurs.get p).state = .off
  · simp [off]
  · cases heard : (s.spurs.get p).heard <;> simp [off, heard]
end

/-! ## What is counted -/

section
variable (closed : PairIx → Bool) (s : State)

/-- R47, R55: a port at a cycle's end. -/
theorem sent_missCycle (x : LinePort) : { x.missCycle with queue := x.missCycle.queue.drop 1 } = { x with
    queue := x.queue.drop 1, segSeen := false
    miss := if x.up = true ∧ x.segSeen = false then bump 8 x.miss else x.miss
    good := if x.up = false ∧ x.segSeen = false then 0 else x.good } := by
  unfold LinePort.missCycle
  cases seen : x.segSeen with
  | true => simp
  | false => cases up : x.up <;> simp
theorem up_missCycle (x : LinePort) : x.missCycle.up = x.up := by
  unfold LinePort.missCycle; repeat' split
  all_goals rfl
theorem queue_missCycle (x : LinePort) : x.missCycle.queue = x.queue := by
  unfold LinePort.missCycle; repeat' split
  all_goals rfl
theorem port_sendCycle (u : State) (d : Side) :
    (sendCycle u).port d = { u.port d with queue := (u.port d).queue.drop 1 } := by cases d <;> rfl
theorem port_endedCycle (d : Side) : (endedCycle closed s).port d = (s.port d).missCycle := by cases d <;> rfl
/-- R41: the contact samples. -/
theorem sampleContact_eq (closed : Bool) (c : Contact) : sampleContact closed c =
    if c.run = 3 then c else { c with run := if closed = c.active then 0 else bump 3 c.run } := by
  unfold sampleContact; repeat' split
  all_goals rfl
/-- R16: the stale count. -/
theorem tickStale_eq (used : Bool) (c : ChanCfg) (x : Channel) : tickStale used c x =
    { x with stale := if used && x.stale < c.staleLimit * 250 then x.stale + 1 else x.stale } := by
  cases used
  · rfl
  · simp [tickStale, bump]
/-- R79, R101: a record's state timer. -/
theorem tickCall_eq (x : CallRec) : s.tickCall x =
    { x with timer := x.timer.map fun k => if s.timerRuns x = true ∧ k < timerLimit x then k + 1 else k } := by
  unfold State.tickCall; split
  · next runs => simp only [runs, true_and]; rfl
  · next stands => simp [stands]
/-- R49, R73: an entry once its cell is sent. -/
theorem sent_fillEntry (y : SlotEntry) : { fillEntry s y with out := none } = { y with
    out := none
    continuity := match y.drop, y.out with
      | some r, none => if (s.call r).state = .connected then (if y.continuity = 125 then 125 else bump 125 y.continuity) else 0
      | _, _ => y.continuity } := by
  cases y with
  | mk drop add continuity out =>
    cases out with
    | some o => cases drop <;> rfl
    | none => cases drop <;> simp [fillEntry, entryAfter, continuityAfter]
/-- R156: the head's delay count. -/
theorem headDelay_tickAction (a : ActionUnit) : (tickAction a).headDelay = match a.queue with
    | (_, .delay d) :: _ => bump (d * 250) a.headDelay
    | _ :: _ => bump 900000 a.headDelay
    | [] => a.headDelay := by
  unfold tickAction
  cases a.queue with
  | nil => rfl
  | cons x l =>
    obtain ⟨_, c⟩ := x
    cases c <;> rfl
/-- R113: the age counts of the blocks' trucks. -/
theorem tickBlock_eq (i : BlockIx) (b : BlockRec) : (s.tickBlock i b).far = b.far ∧ (s.tickBlock i b).master =
    if s.isMaster i then ageMaster ((s.working.blocks.get i).transit * 250) b.master else b.master := by
  unfold State.tickBlock; split <;> exact ⟨rfl, rfl⟩
theorem notices_sendCycle : (sendCycle (endedCycle closed s)).action.notices = s.action.notices := rfl
/-- R51, R52: the segment cells' payloads. -/
theorem inbyeSegment_endedCycle : (endedCycle closed s).inbyeSegment =
    segPayload (s.line.outPort.up && s.line.rxSurface) (s.line.position.getD 63) ((cycleAfter s.line + 1) % 65536)
      (if s.line.outPort.up then s.line.rxOrdered else s.level.ordered) s.line.inPort.queue.head? := by
  have up : (endedCycle closed s).line.outPort.up = s.line.outPort.up := up_missCycle _
  have queue : (endedCycle closed s).line.inPort.queue = s.line.inPort.queue := queue_missCycle _
  rw [State.inbyeSegment, State.sentOrdered, up, queue]
  rfl
theorem outbyeSegment_endedCycle : (endedCycle closed s).outbyeSegment =
    segPayload s.line.endOfLine (s.line.position.getD 63) 0 s.merged s.line.outPort.queue.head? := by
  have queue : (endedCycle closed s).line.outPort.queue = s.line.outPort.queue := queue_missCycle _
  rw [State.outbyeSegment, queue]
  rfl
/-- R47: the cells that a cycle sends. -/
theorem inbyeTx_sendCycle (seg : List Octet) (carries : (endedCycle closed s).inbyeSegment = seg) :
    (sendCycle (endedCycle closed s)).pins.inbyeTx =
      cellsOf s.mgmt.toInbye (some seg) fun sl => carriedBy s (s.slots.map.get (slotIx .inbye sl)) := by
  rw [cellsOf, ← carries, ← trafficCells_endedCycle closed]; rfl
theorem outbyeTx_sendCycle (seg : List Octet) (carries : (endedCycle closed s).outbyeSegment = seg) :
    (sendCycle (endedCycle closed s)).pins.outbyeTx =
      cellsOf s.mgmt.toOutbye (some seg) fun sl => carriedBy s (s.slots.map.get (slotIx .outbye sl)) := by
  rw [cellsOf, ← carries, ← trafficCells_endedCycle closed]; rfl
/-- R163: the frame that a cycle sends on a spur. -/
theorem spurTx_sendCycle (p : SpurId) : (sendCycle (endedCycle closed s)).pins.spurTx.get p =
    if (s.spurs.get p).state = .off then none
    else some (wireFrame ((s.spurs.get p).state == .down || (s.spurs.get p).state == .starting) ((endedCycle closed s).voiceFor p)
      (s.frameMessage p)) := by
  have sent : (sendCycle (endedCycle closed s)).pins.spurTx.get p = (endedCycle closed s).spurFrameOut p := Tab.get_build _ p
  simp only [sent, State.spurFrameOut, spurs_endedCycle, state_endedSpur, frameMessage_endedCycle]
end

/-- R47: a cycle that runs ends in the state of its due changes, moves the counts and sends. -/
theorem exec_lineCycle (a b : Bool) {s0 : State} (running : Running s0) : exec (.lineCycle a b) s0 =
    .next (sendCycle (endedCycle (fun i => if i = 0 then a else b) (atCycleEnd s0))) := by
  have run : exec (.lineCycle a b) s0 = .next (settle (lineCycle (fun i => if i = 0 then a else b) s0)) :=
    settled_powered _ running.powered
  have ended : Running (atCycleEnd s0) := changesDue_eq running ▸ running.changesDue
  rw [run, lineCycle, changesDue_eq running, fillMissing_tick]
  have idle : NoNotices (sendCycle (endedCycle (fun i => if i = 0 then a else b) (atCycleEnd s0))) :=
    (notices_sendCycle _ _).trans ended.idle
  rw [settle_of_noNotices idle]

/-- Settles O24: the cells, the frames and the counts of the state in which the cycle ends. -/
theorem lineCycleSendsAndCounts : Obligations.LineCycleSendsAndCounts := by
  intro a b s0 powered idle
  have run := exec_lineCycle a b ⟨powered, idle⟩
  generalize atCycleEnd s0 = s at run ⊢
  generalize samples : (fun i : PairIx => if i = 0 then a else b) = closed at run
  have inbye := inbyeTx_sendCycle closed s _ (inbyeSegment_endedCycle closed s)
  have outbye := outbyeTx_sendCycle closed s _ (outbyeSegment_endedCycle closed s)
  have frames := spurTx_sendCycle closed s
  refine ⟨sendCycle (endedCycle closed s), run, ?_, rfl, fun d => ?_, rfl, rfl, fun i => ?_, fun c => ?_, fun e => ?_, fun r => ?_,
    fun i => ?_, rfl, rfl, ?_, fun p => ?_, rfl, rfl⟩
  · refine ⟨?_, ?_, fun k h => ?_, fun k h => ?_, ?_, ?_, ?_, ?_, fun sl => ⟨?_, ?_⟩, fun p => ?_, fun p f sent => ?_⟩
    · rw [inbye, length_cellsOf]
    · rw [outbye, length_cellsOf]
    · simp only [inbye]; exact cellsOf_good _ _ _ k (by rwa [inbye] at h)
    · simp only [outbye]; exact cellsOf_good _ _ _ k (by rwa [outbye] at h)
    · rw [inbye]; rfl
    · rw [outbye]; rfl
    · rw [inbye]; rfl
    · rw [outbye]; rfl
    · rw [inbye]; exact cellsOf_traffic ..
    · rw [outbye]; exact cellsOf_traffic ..
    · rw [frames]
      cases (s.spurs.get p).state <;> rfl
    · rw [frames] at sent
      split at sent
      · exact absurd sent nofun
      · obtain rfl := Option.some.inj sent
        rw [frameVoice_wireFrame, wireFrame_padTo, voiceFor_endedCycle]
        refine ⟨frameGood_wireFrame .., rfl,
          fun up => ⟨fun q bridged => ?_, fun alone => ⟨fun silence => ?_, fun heard => ?_⟩⟩, fun down => ?_⟩
        · simp only [up, bridged]; rfl
        · simp only [up, alone, (silent_iff s p).mpr silence]; rfl
        · simp only [up, alone, if_neg (mt (silent_iff s p).mp heard)]; rfl
        · simp only [down]; rfl
  · rw [port_sendCycle, port_endedCycle]
    exact sent_missCycle _
  · have sampled : (sendCycle (endedCycle closed s)).level.contacts.get i =
        if s.roleInForce i = .none then s.level.contacts.get i else sampleContact (closed i) (s.level.contacts.get i) := Tab.get_mapIx ..
    rw [sampled, sampleContact_eq, ← samples, ite_or]
  · exact (Tab.get_mapIx ..).trans (tickStale_eq ..)
  · have entry : (sendCycle (endedCycle closed s)).slots.map.get e = { fillEntry s (s.slots.map.get e) with out := none } := by
      simp [sendCycle, endedCycle, withSlotsAndSpurs]
    rw [entry]
    exact sent_fillEntry s _
  · exact (Tab.get_mapIx ..).trans (tickCall_eq ..)
  · have aged : (sendCycle (endedCycle closed s)).blocks.entries.get i = s.tickBlock i (s.blocks.entries.get i) := Tab.get_mapIx ..
    obtain ⟨far, master⟩ := tickBlock_eq s i (s.blocks.entries.get i)
    exact ⟨(congrArg BlockRec.far aged).trans far, (congrArg BlockRec.master aged).trans master⟩
  · exact headDelay_tickAction s.action
  · have sent : (sendCycle (endedCycle closed s)).spurs.get p = (endedSpur s p).sentFrame :=
      (Tab.get_mapIx ..).trans (by rw [spurs_endedCycle])
    rw [sent]
    exact sentFrame_endedSpur s p

end Sys2Proof.Safety
end

section
/-! PROOFS. The family of the slot switching: what the relations of the calls and of the Slot Map's owners read, and that every operation
but the Call Controller's own leaves it as it was. -/

namespace Sys2Proof.Safety
open Sys2Proof.Machine

/-! ## The calls' part of the state -/

/-- What stands of a call record while its digits, its timer and the names of its handsets change. -/
structure RecordPart where
  state    : CallState
  priority : Option Nat
  far      : Option Side
  slot     : Option Slot
def recordPart (x : CallRec) : RecordPart := { state := x.state, priority := x.priority, far := x.far, slot := x.slot }
/-- What the admission of calls and the owners of the Slot Map read: the records, the order in which they are reclaimed, the owners and
the admission mask. -/
structure CallPart where
  record   : RecId → RecordPart
  clearing : List RecId
  drop     : SlotIx → Option RecId
  add      : SlotIx → Option RecId
  mask     : Nat
def callPart (s : State) : CallPart :=
  { record := fun r => recordPart (s.call r), clearing := s.calls.clearing, drop := fun e => (s.slots.map.get e).drop
    add := fun e => (s.slots.map.get e).add, mask := s.level.mask }

section
variable {s t : State} (h : callPart t = callPart s)
include h
theorem record_of_callPart (r : RecId) : recordPart (t.call r) = recordPart (s.call r) := congrFun (congrArg CallPart.record h) r
theorem state_of_callPart (r : RecId) : (t.call r).state = (s.call r).state := congrArg RecordPart.state (record_of_callPart h r)
end

/-! ### What the operations on the records and the owners change of it -/

namespace CallPart
variable (p : CallPart)

def setRecord (r : RecId) (x : RecordPart) : CallPart := { p with record := Function.update p.record r x }
/-- R67: both owners of a pair of entries are written. -/
def setOwners (o : Option RecId) (far : Side) (sl : Slot) : CallPart :=
  { p with drop := Function.update p.drop (dropIx far sl) o, add := Function.update p.add (addIx far sl) o }
/-- A record enters a state, and nothing else that is read of it changes. -/
def enter (r : RecId) (st : CallState) : CallPart := p.setRecord r { p.record r with state := st }
/-- R98, R99: a record becomes IDLE and leaves the order of reclaiming. -/
def free (r : RecId) : CallPart := { p.setRecord r (recordPart .idle) with clearing := p.clearing.filter (· ≠ r) }

@[simp] theorem setRecord_self (r : RecId) : p.setRecord r (p.record r) = p := by simp [setRecord]
end CallPart

/-! ### The writes of one record -/

section
variable (s : State)

@[simp] theorem record_callPart (r : RecId) : (callPart s).record r = recordPart (s.call r) := rfl
theorem callPart_setCall (r : RecId) (x : CallRec) : callPart (s.setCall r x) = (callPart s).setRecord r (recordPart x) := by
  have record : (fun q => recordPart ((s.setCall r x).call q)) =
      Function.update (fun q => recordPart (s.call q)) r (recordPart x) := by
    funext q
    by_cases own : q = r
    · subst own; simp
    · rw [State.setCall_call_ne s x own, Function.update_of_ne own]
  simp only [callPart, record]
  rfl
/-- A change of a record in fields that are not read. -/
theorem callPart_setCall_same (r : RecId) (x : CallRec) (h : recordPart x = recordPart (s.call r)) :
    callPart (s.setCall r x) = callPart s := by
  rw [callPart_setCall, h, ← record_callPart, CallPart.setRecord_self]
theorem callPart_setSlot (e : SlotIx) (x : SlotEntry) : callPart (s.setSlot e x) =
    { callPart s with drop := Function.update (callPart s).drop e x.drop, add := Function.update (callPart s).add e x.add } := by
  have owner (f : SlotEntry → Option RecId) : (fun k => f ((s.slots.map.put e x).get k)) =
      Function.update (fun k => f (s.slots.map.get k)) e (f x) := by
    funext k
    by_cases own : k = e
    · subst own; simp
    · rw [Tab.get_put_ne _ _ own, Function.update_of_ne own]
  simp only [callPart, State.setSlot_slots, owner SlotEntry.drop, owner SlotEntry.add]
  rfl
/-- A change of an entry that leaves its owners. -/
theorem callPart_setSlot_same (e : SlotIx) (x : SlotEntry) (drop : x.drop = (s.slots.map.get e).drop)
    (add : x.add = (s.slots.map.get e).add) : callPart (s.setSlot e x) = callPart s := by
  rw [callPart_setSlot, drop, add]
  simp [callPart]
@[simp] theorem callPart_setHook (p : SpurId) (b : Bool) : callPart (s.setHook p b) = callPart s := rfl
@[simp] theorem callPart_setSpur (p : SpurId) (x : Spur) : callPart (s.setSpur p x) = callPart s := rfl
@[simp] theorem callPart_setChan (c : ChanId) (x : Channel) : callPart (s.setChan c x) = callPart s := rfl
@[simp] theorem callPart_setRefuge (r : PairIx) (x : Refuge) : callPart (s.setRefuge r x) = callPart s := rfl
@[simp] theorem callPart_setMaster (i : BlockIx) (m : Master) : callPart (s.setMaster i m) = callPart s := rfl
@[simp] theorem callPart_setFar (i : BlockIx) (f : FarEnd) : callPart (s.setFar i f) = callPart s := rfl
@[simp] theorem callPart_setBlocks (b : Blocks) : callPart (s.setBlocks b) = callPart s := rfl
@[simp] theorem callPart_setLine (l : Line) : callPart (s.setLine l) = callPart s := rfl
@[simp] theorem callPart_setPort (d : Side) (x : LinePort) : callPart (s.setPort d x) = callPart s := by cases d <;> rfl
@[simp] theorem callPart_setAction (a : ActionUnit) : callPart (s.setAction a) = callPart s := rfl
@[simp] theorem callPart_setWorking (t : Tables) : callPart (s.setWorking t) = callPart s := rfl
@[simp] theorem callPart_mark (x : Source) : callPart (s.mark x) = callPart s := rfl
@[simp] theorem callPart_markIf (b : Bool) (x : Source) : callPart (s.markIf b x) = callPart s := by cases b <;> rfl
@[simp] theorem callPart_withdraw (x : Source) : callPart (s.withdraw x) = callPart s := rfl
@[simp] theorem callPart_notify (n : Notice) : callPart (s.notify n) = callPart s := rfl
/-- The walk over a table keeps what its turns keep. -/
theorem callPart_forEach (n : Nat) (f : Fin n → State → State) (h : ∀ i s, callPart (f i s) = callPart s) :
    callPart (forEach n f s) = callPart s := forEach_keeps callPart n f h s
end

/-! ## What leaves the calls alone -/

/-! ### Messages, slots and records -/

section
variable (s : State)

@[simp] theorem callPart_offer (p : SpurId) (m : OutMsg) : callPart (offer p m s) = callPart s := by
  unfold offer; split <;> rfl
@[simp] theorem callPart_tone (p : SpurId) (t : Tone) : callPart (tone p t s) = callPart s := callPart_offer s p _
@[simp] theorem callPart_toneOpt (p : Option SpurId) (t : Tone) : callPart (toneOpt p t s) = callPart s := by
  cases p <;> simp [toneOpt]
@[simp] theorem callPart_ringOpt (p : Option SpurId) (b : Bool) : callPart (ringOpt p b s) = callPart s := by
  cases p <;> simp [ringOpt]
@[simp] theorem callPart_post (d : Side) (m : NMsg) : callPart (post d m s) = callPart s := by
  unfold post; split <;> simp
@[simp] theorem callPart_refugeSpurOffer (r : PairIx) (m : OutMsg) : callPart (refugeSpurOffer r m s) = callPart s := by
  unfold refugeSpurOffer; split <;> simp
@[simp] theorem callPart_clearTones (c : ClearCause) (l : List SpurId) : callPart (clearTones c l s) = callPart s :=
  foldl_keeps callPart _ (fun s p => by split <;> simp) l s
@[simp] theorem callPart_dropBridge (x : CallRec) : callPart (dropBridge x s) = callPart s := by
  unfold dropBridge; split <;> rfl
@[simp] theorem callPart_startContinuity (far : Side) (sl : Slot) : callPart (startContinuity far sl s) = callPart s :=
  callPart_setSlot_same s _ _ rfl rfl
@[simp] theorem callPart_numberCall (r : RecId) : callPart (numberCall r s) = callPart s := callPart_setCall_same s r _ rfl
/-- R67: the pair's owners are written one by one, and the entries' other owners are untouched. -/
theorem callPart_setAdd (e : SlotIx) (o : Option RecId) : callPart (s.setSlot e { s.slots.map.get e with add := o }) =
    { callPart s with add := Function.update (callPart s).add e o } := by
  rw [callPart_setSlot]; simp [callPart]
theorem callPart_setDrop (e : SlotIx) (o : Option RecId) :
    callPart (s.setSlot e { s.slots.map.get e with drop := o, continuity := 0 }) =
      { callPart s with drop := Function.update (callPart s).drop e o } := by
  rw [callPart_setSlot]; simp [callPart]
@[simp] theorem callPart_installPair (r : RecId) (far : Side) (sl : Slot) :
    callPart (installPair r far sl s) = (callPart s).setOwners (some r) far sl := by
  rw [installPair, callPart_setDrop, callPart_setAdd]; rfl
@[simp] theorem callPart_removePair (far : Side) (sl : Slot) :
    callPart (removePair far sl s) = (callPart s).setOwners none far sl := by
  rw [removePair, callPart_setDrop, callPart_setAdd]; rfl
/-- R79: a change of state, with what changes beside it. -/
theorem callPart_enterCall (r : RecId) (st : CallState) (f : CallRec → CallRec) : callPart (enterCall r st f s) =
    (callPart s).setRecord r { recordPart (f (s.call r)) with state := st } :=
  callPart_setCall s r _
@[simp] theorem callPart_enterCall_id (r : RecId) (st : CallState) : callPart (enterCall r st id s) = (callPart s).enter r st :=
  callPart_enterCall s r st id
theorem callPart_freeCall (r : RecId) : callPart (freeCall r s) = (callPart s).free r := by
  rw [CallPart.free, ← callPart_setCall]; rfl
@[simp] theorem callPart_countRefused : callPart (countRefused s) = callPart s := rfl
@[simp] theorem callPart_resetRequested : callPart (resetRequested s) = callPart s :=
  callPart_forEach s 16 _ fun r s => by
    split
    · exact callPart_setCall_same s r _ rfl
    · rfl
/-- R68 to R73: a cell changes no owner. -/
@[simp] theorem callPart_switchCell (e : SlotIx) (a : Arrival) : callPart (switchCell e a s) = callPart s := by
  rw [switchCell_eq]
  exact callPart_setSlot_same s e (entryAfter s a (s.slots.map.get e)) rfl rfl
@[simp] theorem callPart_fillMissing : callPart (fillMissing s) = callPart s :=
  callPart_forEach s 60 _ fun e s => by split <;> simp
/-- R47: what is sent leaves each entry its owners. -/
@[simp] theorem callPart_sendCycle : callPart (sendCycle s) = callPart s := by
  simp only [callPart, sendCycle, Tab.get_mapIx]
  rfl
/-- R79, R101: a cycle moves the timers alone. -/
@[simp] theorem callPart_tick (closed : PairIx → Bool) : callPart (tick closed s) = callPart s := by
  have record (r : RecId) : recordPart ((tick closed s).call r) = recordPart (s.call r) := by
    rw [call_tick, tickCall_eq]; rfl
  simp only [callPart, record]
  rfl

/-! ### Blocks -/

@[simp] theorem callPart_reformLights : callPart (reformLights s) = callPart s :=
  callPart_forEach s 8 _ fun p s => by
    simp only [reformLight]; generalize (if s.spurType p = .truck then s.lightOf p else .dark) = l
    split <;> simp
@[simp] theorem callPart_reformStopAll : callPart (reformStopAll s) = callPart s := by
  unfold reformStopAll; split
  · rfl
  · exact callPart_forEach _ 8 _ fun p s => by split <;> simp
@[simp] theorem callPart_postState (i : BlockIx) : callPart (postState i s) = callPart s := callPart_post s _ _
/-- R116: an event of a master leaves alone what its own work leaves alone. -/
theorem callPart_masterEvent (i : BlockIx) (f : State → State) (h : callPart (f s) = callPart s) :
    callPart (masterEvent i f s) = callPart s := by
  simp only [masterEvent, callPart_reformLights]
  repeat' split
  all_goals simpa using h
/-- R107: so does an event of a far end. -/
theorem callPart_farEvent (i : BlockIx) (f : State → State) (h : callPart (f s) = callPart s) :
    callPart (farEvent i f s) = callPart s := by
  simp only [farEvent, callPart_reformLights]
  split <;> simpa using h
@[simp] theorem callPart_grantClaim (i : BlockIx) (e : BlockEnd) (t : Nat) : callPart (grantClaim i e t s) = callPart s := by
  simp only [grantClaim]; split <;> simp
@[simp] theorem callPart_decideClaim (i : BlockIx) (e : BlockEnd) (t : Nat) : callPart (decideClaim i e t s) = callPart s := by
  simp only [decideClaim, waitClaim]; repeat' split
  all_goals simp
@[simp] theorem callPart_takeClaim (i : BlockIx) (e : BlockEnd) (t : Nat) : callPart (takeClaim i e t s) = callPart s := by
  simp only [takeClaim, answerDuplicate]; repeat' split
  case isFalse => exact callPart_masterEvent s i _ (callPart_decideClaim s i e t)
  all_goals simp
@[simp] theorem callPart_serveWaits (i : BlockIx) : callPart (serveWaits i s) = callPart s := by
  have served (l : List BlockEnd) : callPart (l.foldl
      (fun s e => match (s.master i).waitAt e with | some t => decideClaim i e t s | none => s) s) = callPart s :=
    foldl_keeps callPart _ (fun s e => by split <;> simp) l s
  simp only [serveWaits]; repeat' split
  case h_1 => exact served _
  all_goals simp
@[simp] theorem callPart_takeExit (i : BlockIx) (e : BlockEnd) (t : Nat) : callPart (takeExit i e t s) = callPart s := by
  simp only [takeExit]; repeat' split
  · exact callPart_masterEvent s i _ (by simp [exitListed])
  · exact callPart_masterEvent s i _ (by simp [exitFaulted])
  all_goals simp
@[simp] theorem callPart_masterFault (i : BlockIx) : callPart (masterFault i s) = callPart s := by
  simp only [masterFault]; split
  · rfl
  · exact callPart_masterEvent s i _ (by simp)
@[simp] theorem callPart_setFarReady (i : BlockIx) (b : Bool) : callPart (setFarReady i b s) = callPart s := by
  simp only [setFarReady]; split <;> simp
@[simp] theorem callPart_openBlock (i : BlockIx) (b : Bool) : callPart (openBlock i b s) = callPart s := by
  have opened (m : Master) : callPart (masterEvent i (fun s => serveWaits i ((s.setMaster i m).mark (.block i))) s) = callPart s :=
    callPart_masterEvent s i _ (by simp)
  simp only [openBlock]; split
  · exact opened _
  · split <;> exact opened _
  · split <;> exact opened _
  · rfl
@[simp] theorem callPart_closeBlock (i : BlockIx) : callPart (closeBlock i s) = callPart s := by
  simp only [closeBlock]; split
  case h_4 => rfl
  all_goals exact callPart_masterEvent s i _ (by simp)
@[simp] theorem callPart_setClaim (i : BlockIx) (c : Option (Nat × Standing)) : callPart (setClaim i c s) = callPart s := by
  unfold setClaim; split <;> simp
@[simp] theorem callPart_setExits (i : BlockIx) (l : List Nat) : callPart (setExits i l s) = callPart s := by
  unfold setExits; split <;> simp
@[simp] theorem callPart_blockTag (p : SpurId) (t sense : Nat) : callPart (blockTag p t sense s) = callPart s := by
  have arriving (i : BlockIx) : callPart (farArriving i t s) = callPart s :=
    callPart_farEvent s i _ (by simp only [callPart_post]; split <;> split <;> simp)
  have leaving (i : BlockIx) : callPart (farLeaving i t s) = callPart s := callPart_farEvent s i _ (by simp)
  unfold blockTag; repeat' split
  all_goals simp [arriving, leaving]
@[simp] theorem callPart_takeNeighbour (d : Side) (m : NMsg) : callPart (takeNeighbour d m s) = callPart s := by
  have answered (i : BlockIx) (t : Nat) (st : Standing) : callPart (farAnswer i t st s) = callPart s := by
    unfold farAnswer; repeat' split
    · exact callPart_farEvent s i _ (callPart_setClaim s i _)
    all_goals rfl
  have mirrored (i : BlockIx) (m : Mirror) : callPart (farTakeState i m s) = callPart s := callPart_farEvent s i _ (by simp)
  unfold takeNeighbour neighbourClaim neighbourExit neighbourFarState neighbourGrant neighbourWait neighbourState
  repeat' split
  all_goals simp [answered, mirrored]
@[simp] theorem callPart_postReadiness (i : BlockIx) : callPart (postReadiness i s) = callPart s := by simp [postReadiness]
@[simp] theorem callPart_recheckFar (s0 : State) : callPart (recheckFar s0 s) = callPart s :=
  callPart_forEach s 4 _ fun i s => by
    have checked : callPart (farEvent i (fun s =>
        if s.farFaultNow i = (s.farEnd i).localFault then s
        else (s.setFar i { s.farEnd i with localFault := s.farFaultNow i }).mark (.block i)) s) = callPart s :=
      callPart_farEvent s i _ (by split <;> simp)
    simp only; repeat' split
    · exact checked
    · rw [callPart_postReadiness, checked]
    · rfl
@[simp] theorem callPart_blocksSpurLost (p : SpurId) (s0 : State) : callPart (blocksSpurLost p s0 s) = callPart s :=
  (callPart_recheckFar _ s0).trans (callPart_forEach s 4 _ fun i s => by split <;> simp)
@[simp] theorem callPart_blocksSpurUp (p : SpurId) (s0 : State) : callPart (blocksSpurUp p s0 s) = callPart s := by
  simp [blocksSpurUp]
@[simp] theorem callPart_blocksPortLost (d : Side) (s0 : State) : callPart (blocksPortLost d s0 s) = callPart s := by
  cases d with
  | inbye => exact callPart_forEach s 4 _ fun i s => by split <;> simp
  | outbye =>
    refine (callPart_recheckFar _ s0).trans (callPart_forEach s 4 _ fun i s => ?_)
    split
    · exact callPart_farEvent s i _ (by simp)
    · rfl
@[simp] theorem callPart_blocksPortUp (d : Side) (s0 : State) : callPart (blocksPortUp d s0 s) = callPart s := by
  cases d
  · rfl
  · exact callPart_recheckFar s s0
@[simp] theorem callPart_blocksAtLevel (b : Bool) : callPart (blocksAtLevel b s) = callPart s := by
  simp only [blocksAtLevel, callPart_reformStopAll, callPart_reformLights]; split
  · exact callPart_forEach s 4 _ fun i s => by
      split
      · exact callPart_masterEvent s i _ (callPart_serveWaits s i)
      · rfl
  · rfl
@[simp] theorem callPart_blockTurn (i : BlockIx) : callPart (blockTurn i s) = callPart s := by
  have posted (l : List Nat) (s : State) : callPart (l.foldl (fun s t => post .outbye (.exit (s.blockId i) t) s) s) = callPart s :=
    foldl_keeps callPart _ (fun s t => by simp) l s
  simp only [blockTurn, farTurn]; repeat' split
  all_goals simp [posted]
@[simp] theorem callPart_takeOverdue (i : BlockIx) (t : Nat) : callPart (takeOverdue i t s) = callPart s := by
  simp only [takeOverdue]; split <;> simp
@[simp] theorem callPart_replaceBlock (i : BlockIx) : callPart (replaceBlock i s) = callPart s := by
  have reset : callPart (resetBlock i s) = callPart s := rfl
  simp only [replaceBlock]; split <;> simp [reset]
@[simp] theorem callPart_blockCommissioning (i : BlockIx) : callPart (blockCommissioning i s) = callPart s := by
  unfold blockCommissioning; split <;> rfl
@[simp] theorem callPart_notifyReplaced (i : BlockIx) (old : Nat) : callPart (notifyReplaced i old s) = callPart s := by
  simp only [notifyReplaced]; split <;> simp
@[simp] theorem callPart_readinessLoaded (i : BlockIx) (was : Bool) : callPart (readinessLoaded i was s) = callPart s := by
  unfold readinessLoaded; split <;> simp

/-! ### Levels, refuges and actions -/

@[simp] theorem callPart_sendPrepare (r : PairIx) : callPart (sendPrepare r s) = callPart s := by simp [sendPrepare]
@[simp] theorem callPart_standdownTest (r : PairIx) : callPart (standdownTest r s) = callPart s := by
  simp only [standdownTest]; split <;> simp
@[simp] theorem callPart_refugesAtLevelBut (stay : PairIx → Bool) (old : Level) :
    callPart (refugesAtLevelBut stay old s) = callPart s := by
  simp only [refugesAtLevelBut]; repeat' split
  · exact callPart_forEach s 2 _ fun r s => by split <;> simp
  · exact callPart_forEach s 2 _ fun r s => by split <;> simp
  · rfl
@[simp] theorem callPart_setDistress (r : PairIx) (b : Bool) : callPart (setDistress r b s) = callPart s := by
  simp only [setDistress]; split <;> simp
@[simp] theorem callPart_panelStartUp (r : PairIx) : callPart (panelStartUp r s) = callPart s := by simp [panelStartUp]
@[simp] theorem callPart_notifyOccupied (r : PairIx) (n : Nat) : callPart (notifyOccupied r n s) = callPart s := by
  simp only [notifyOccupied]; split <;> simp
@[simp] theorem callPart_replaceRefuge (r : PairIx) (y : Refuge) : callPart (replaceRefuge r y s) = callPart s := by
  obtain ⟨m, replaced⟩ := replaceRefuge_frame r y s
  rw [replaced]; rfl
@[simp] theorem callPart_reformDrives : callPart (reformDrives s) = callPart s :=
  callPart_forEach s 2 _ fun o s => by unfold reformDrive; split <;> rfl
@[simp] theorem callPart_reformOutput : callPart (reformOutput s) = callPart s := by
  unfold reformOutput; split <;> rfl
@[simp] theorem callPart_setForce (o : PairIx) (f : Force) : callPart (setForce o f s) = callPart s := by
  unfold setForce reformDrive; split <;> rfl
@[simp] theorem callPart_contactNone (i : PairIx) : callPart (contactNone i s) = callPart s := by
  simp only [contactNone]; split <;> rfl
@[simp] theorem callPart_markChannel (c : ChanId) : callPart (markChannel c s) = callPart s := by simp [markChannel]
@[simp] theorem callPart_soundHandsets : callPart (soundHandsets s) = callPart s :=
  callPart_forEach s 8 _ fun p s => by split <;> simp
@[simp] theorem callPart_setStopTrucks (n : Nat) : callPart (setStopTrucks n s) = callPart s := by simp [setStopTrucks]
@[simp] theorem callPart_actionUncommissioned : callPart (actionUncommissioned s) = callPart s := by simp [actionUncommissioned]

/-! ### The line and the Management Engine -/

@[simp] theorem callPart_validFrame (p : SpurId) : callPart (validFrame p s) = callPart s := by
  simp only [validFrame]; split <;> rfl
@[simp] theorem callPart_keepVoice (p : SpurId) (v : List Octet) : callPart (keepVoice p v s) = callPart s := by
  unfold keepVoice; split <;> rfl
@[simp] theorem callPart_dropPartial : callPart (dropPartial s) = callPart s := by
  unfold dropPartial; split <;> rfl
@[simp] theorem callPart_setPosition (p : Option Nat) : callPart (setPosition p s) = callPart s := by
  unfold setPosition; split <;> rfl
@[simp] theorem callPart_setInbyeNeighbour (p : Option Nat) (e : Option Bool) : callPart (setInbyeNeighbour p e s) = callPart s := by
  unfold setInbyeNeighbour; split <;> rfl
@[simp] theorem callPart_setEndOfLine (b : Bool) : callPart (setEndOfLine b s) = callPart s := by
  unfold setEndOfLine; split <;> rfl
@[simp] theorem callPart_portDown (d : Side) : callPart (portDown d s) = callPart s := by simp [portDown, discardQueue]
@[simp] theorem callPart_windowEnd : callPart (windowEnd s) = callPart s := by
  unfold windowEnd; split <;> simp [closeWindow]
@[simp] theorem callPart_reply (h : OrderHdr) (code : Nat) (a : Answer) : callPart (reply h code a) = callPart a.state := by
  unfold reply; split <;> rfl
@[simp] theorem callPart_refreshAccess (o : Order) : callPart (refreshAccess o s) = callPart s := by
  unfold refreshAccess; split <;> rfl
@[simp] theorem callPart_earnCredit : callPart (earnCredit s) = callPart s := by
  unfold earnCredit; split <;> rfl
@[simp] theorem callPart_fillCell (a : Nat × Nat) : callPart (fillCell a s) = callPart s := by
  unfold fillCell; split <;> rfl
@[simp] theorem callPart_completeCommit : callPart (completeCommit s) = callPart s := by
  unfold completeCommit; repeat' split
  · exact callPart_reply _ _ _
  all_goals rfl

/-! ### Restarts -/

theorem callPart_restartSpur (old : SpurType) (p : SpurId) : callPart (restartSpur old p s) = callPart s := by
  simp only [restartSpur]; split <;> rfl
theorem callPart_restartBlocks (was : BlockIx → Bool) : callPart (restartBlocks was s) = callPart s :=
  callPart_forEach _ 4 _ fun i s => by simp
theorem callPart_restartAction : callPart (restartAction s) = callPart s := rfl
theorem callPart_restartChan (became : Bool) (c : ChanId) : callPart (restartChan became c s) = callPart s := by
  simp only [restartChan]; split <;> simp
theorem callPart_restartRefuge (same : Bool) (r : PairIx) : callPart (restartRefuge same r s) = callPart s := by simp [restartRefuge]
theorem callPart_restartForces (f : Tab 2 Force) : callPart (s.setLevel { s.level with force := f }) = callPart s := rfl
theorem callPart_restartTrucks : callPart (restartTrucks s) = callPart s := callPart_forEach s 8 _ fun p s => by split <;> simp
theorem callPart_restartPanels : callPart (restartPanels s) = callPart s :=
  callPart_forEach s 2 _ fun r s => by repeat' split
                                       all_goals simp
end

end Sys2Proof.Safety
end

section
/-! PROOFS. The family of the slot switching: a property of the calls' part that the Call Controller's own operations keep is kept by every
command. -/

namespace Sys2Proof.Safety
open Sys2Proof.Machine

/-- R92: a record in REQUESTED is given its slot and far side, and its pair of entries. -/
def assignCall (r : RecId) (sl : Slot) (f : Side) (s : State) : State :=
  installPair r f sl (enterCall r .alerting (fun x => { x with slot := some sl, far := some f }) s)

/-- `Q` is a property of the calls' part, and the operations that reach a record's state, its admission or its owners keep it, each where
the Call Controller uses it. -/
structure CallKeeps (Q : CallPart → Prop) : Prop where
  mask     : ∀ {s}, Q (callPart s) → Q (callPart (reformMask s))
  clear    : ∀ {s} r c, Q (callPart s) → Q (callPart (clearCall r c s))
  complete : ∀ {s} r d k, (s.call r).state = .collecting → Q (callPart s) → Q (callPart (completeCall r d k s))
  connect  : ∀ {s} r, (s.call r).live = true → Q (callPart s) → Q (callPart (enterCall r .connected id s))
  start    : ∀ {s} p, Q (callPart s) → Q (callPart (startCall p s))
  assign   : ∀ {s} r sl f, (s.call r).state = .requested → Q (callPart s) → Q (callPart (assignCall r sl f s))
  ring     : ∀ {s} r p k sl f, s.recToTake = some r → k ≤ s.level.mask → Q (callPart s) →
    Q (callPart (ringDestination r p k sl f s))
  free     : ∀ {s} r, (s.call r).state = .cleared → Q (callPart s) → Q (callPart (freeCall r s))
  restart  : ∀ {s}, Q (callPart s) → Q (callPart (restartCalls s))
  powerOn  : ∀ store pending n, Q (callPart (formQuietly (State.poweredOn store pending n)))

/-- What the clearing of one record keeps, the clearing of those that meet a test keeps. -/
theorem clearWhere_of {Q : CallPart → Prop} (clear : ∀ {s} r c, Q (callPart s) → Q (callPart (clearCall r c s)))
    (p : CallRec → Bool) (c : ClearCause) {s : State} (h : Q (callPart s)) : Q (callPart (clearWhere p c s)) :=
  forEach_invariant (fun s => Q (callPart s)) 16 _ (fun r s h => by
    split
    · exact clear r c h
    · exact h) s h

namespace CallKeeps
variable {Q : CallPart → Prop} (keeps : CallKeeps Q) {s t : State}

theorem same (h : Q (callPart s)) (e : callPart t = callPart s) : Q (callPart t) := e ▸ h

include keeps

/-! ### Calls -/

theorem clearWhere (p : CallRec → Bool) (c : ClearCause) (h : Q (callPart s)) : Q (callPart (clearWhere p c s)) :=
  clearWhere_of keeps.clear p c h
theorem completeStation (r : RecId) (n d : Nat) (collecting : (s.call r).state = .collecting) (h : Q (callPart s)) :
    Q (callPart (completeStation r n d s)) := by
  have named (q : SpurId) : callPart (s.setCall r { s.call r with role := some .localCall, dest := some q }) = callPart s :=
    callPart_setCall_same s r _ rfl
  simp only [Machine.completeStation]; repeat' split
  · exact keeps.clear r _ h
  · exact keeps.complete r _ _ (by simpa using collecting) (same h (named _))
  · exact keeps.clear r _ (same h (named _))
  · exact keeps.complete r _ _ collecting h
theorem takeDigit (p : SpurId) (d : Nat) (h : Q (callPart s)) : Q (callPart (takeDigit p d s)) := by
  simp only [Machine.takeDigit]
  generalize at_ : (if d ≤ 9 then s.collectingAt p else none) = o
  cases o with
  | none => exact h
  | some r =>
    have collecting : (s.call r).state = .collecting := by
      split at at_
      · have found := Tab.firstIx_some at_
        simp only [Bool.and_eq_true, beq_iff_eq] at found
        exact found.1
      · cases at_
    have toned : callPart (if (s.call r).digits.isEmpty then tone p .silent s else s) = callPart s := by split <;> simp
    simp only
    generalize (if (s.call r).digits.isEmpty then tone p .silent s else s) = u at toned
    generalize taken : u.setCall r _ = v
    have hv : callPart v = callPart s := by
      rw [← taken]
      refine (callPart_setCall_same u r _ ?_).trans toned
      exact (record_of_callPart toned r).symm
    have stands : (v.call r).state = .collecting := (state_of_callPart hv r).trans collecting
    split
    · exact same h hv
    · exact keeps.clear r _ (same h hv)
    · exact keeps.complete r _ _ stands (same h hv)
    · exact keeps.completeStation r _ _ stands (same h hv)
theorem liftHandset (p : SpurId) (h : Q (callPart s)) : Q (callPart (liftHandset p s)) := by
  have rings {x : CallRec} (ringing : x.state = .ringing) : x.live = true := by simp [CallRec.live, ringing]
  simp only [Machine.liftHandset]; repeat' split
  · next r found =>
    have ringing := Tab.firstIx_some found
    simp only [Bool.and_eq_true, beq_iff_eq] at ringing
    refine same (keeps.connect r (rings ringing.1.1) h) ?_
    simp only [answerDestination, callPart_tone, callPart_offer]; split <;> simp
  · next r found =>
    have ringing := Tab.firstIx_some found
    simp only [Bool.and_eq_true, beq_iff_eq] at ringing
    refine same (keeps.connect r (rings ringing.1.1) h) ?_
    simp only [answerLocal]; split
    · exact (callPart_tone _ _ _).trans (by simp)
    · simp
  · exact keeps.start p h
theorem takeOffhook (p : SpurId) (h : Q (callPart s)) : Q (callPart (takeOffhook p s)) := by
  unfold Machine.takeOffhook; split
  · exact h
  · exact keeps.liftHandset p (same h (callPart_setHook s p true))
theorem takeOnhook (p : SpurId) (h : Q (callPart s)) : Q (callPart (takeOnhook p s)) := by
  unfold Machine.takeOnhook; split
  · exact keeps.clearWhere _ _ (same h (callPart_tone _ p .silent))
  · exact h
theorem callsSpurLost (p : SpurId) (h : Q (callPart s)) : Q (callPart (callsSpurLost p s)) := keeps.clearWhere _ _ h
theorem callsAutonomous (h : Q (callPart s)) : Q (callPart (callsAutonomous s)) :=
  same (keeps.clearWhere _ _ h) (callPart_resetRequested _)
theorem timeoutCall (st : CallState) (r : RecId) (h : Q (callPart s)) : Q (callPart (timeoutCall st r s)) := by
  unfold Machine.timeoutCall; split
  · exact keeps.clear r _ h
  · exact h

/-! ### Levels -/

theorem reformEffectiveBut (stay : PairIx → Bool) (h : Q (callPart s)) : Q (callPart (reformEffectiveBut stay s)) := by
  simp only [Machine.reformEffectiveBut]; split
  · exact h
  · simp only [callPart_notify, callPart_refugesAtLevelBut, callPart_blocksAtLevel, callPart_reformDrives]
    exact keeps.mask h
theorem reformLocalBut (stay : PairIx → Bool) (h : Q (callPart s)) : Q (callPart (reformLocalBut stay s)) := by
  simp only [Machine.reformLocalBut]; split
  · exact h
  · exact keeps.reformEffectiveBut stay h
theorem reformLocal (h : Q (callPart s)) : Q (callPart (reformLocal s)) := keeps.reformLocalBut _ h
theorem reformAllBut (stay : PairIx → Bool) (h : Q (callPart s)) : Q (callPart (reformAllBut stay s)) := by
  rw [Machine.reformAllBut, callPart_reformDrives]
  exact keeps.mask (same (keeps.reformEffectiveBut stay (keeps.reformLocalBut stay h)) (callPart_reformOutput _))
theorem takeCauseBut (stay : PairIx → Bool) (c : Cause) (h : Q (callPart s)) : Q (callPart (takeCauseBut stay c s)) := by
  simp only [Machine.takeCauseBut]
  generalize caused : State.mark _ .isolation = u
  have hu : Q (callPart u) := by rw [← caused]; exact h
  exact keeps.reformLocalBut stay (same hu (callPart_reformOutput u))
theorem takeCause (c : Cause) (h : Q (callPart s)) : Q (callPart (takeCause c s)) := keeps.takeCauseBut _ c h
theorem contactChanged (i : PairIx) (b : Bool) (h : Q (callPart s)) : Q (callPart (contactChanged i b s)) := by
  simp only [Machine.contactChanged]; split
  · exact keeps.takeCause _ h
  · exact keeps.reformLocal h
theorem contactRolesBut (stay : PairIx → Bool) (old : PairIx → Role) (h : Q (callPart s)) :
    Q (callPart (contactRolesBut stay old s)) := by
  simp only [Machine.contactRolesBut]
  refine keeps.reformLocalBut stay (forEach_invariant (fun s => Q (callPart s)) 2 _ (fun i s h => ?_) _ ?_)
  · split
    · exact keeps.takeCauseBut stay _ h
    · exact h
  · exact same h (callPart_forEach s 2 _ fun i s => by split <;> simp)
theorem takeOrdered (t : Tab 16 Level) (h : Q (callPart s)) : Q (callPart (takeOrdered t s)) := by
  rw [Machine.takeOrdered, callPart_reformOutput]
  exact keeps.reformEffectiveBut _ h
theorem clearLatch (h : Q (callPart s)) : Q (callPart (clearLatch s)) := by
  unfold Machine.clearLatch; split
  · exact keeps.reformLocal (same h (callPart_reformOutput _))
  · exact h

/-! ### Refuges, channels and trucks -/

theorem reformRefuge (r : PairIx) (h : Q (callPart s)) : Q (callPart (reformRefuge r s)) := by
  simp only [Machine.reformRefuge]; split
  · exact h
  · exact keeps.reformLocal h
theorem changeRoll (r : PairIx) (y : Refuge) (h : Q (callPart s)) : Q (callPart (changeRoll r y s)) := by
  simp only [Machine.changeRoll]; split
  · exact h
  · exact keeps.reformRefuge r (same h (callPart_notifyOccupied _ r _))
theorem refugeCheckout (r : PairIx) (n : Nat) (h : Q (callPart s)) : Q (callPart (refugeCheckout r n s)) := by
  simp only [Machine.refugeCheckout]
  generalize ((s.refuges.get r).occupancy != 0 && ((s.refuges.get r).checkout n).occupancy == 0) = emptied
  generalize (if emptied then _ else _ : Refuge) = y
  refine same (keeps.changeRoll r y h) ?_
  split <;> simp
theorem refugeDoor (r : PairIx) (v : Nat) (h : Q (callPart s)) : Q (callPart (refugeDoor r v s)) := by
  simp only [Machine.refugeDoor]; split
  · exact h
  · exact keeps.reformRefuge r h
theorem refugeDistress (r : PairIx) (h : Q (callPart s)) : Q (callPart (refugeDistress r s)) := by
  simp only [Machine.refugeDistress]
  refine keeps.reformRefuge r (same h ?_)
  split <;> simp
theorem prepareAction (r : PairIx) (h : Q (callPart s)) : Q (callPart (prepareAction r s)) :=
  keeps.reformRefuge r (same h (by simp))
theorem refugesAtChannel (c : ChanId) (h : Q (callPart s)) : Q (callPart (refugesAtChannel c s)) :=
  forEach_invariant (fun s => Q (callPart s)) 2 _ (fun r s h => by
    simp only; split
    · exact keeps.reformRefuge r h
    · exact h) s h
theorem takeCauseOpt (c : Option Cause) (h : Q (callPart s)) : Q (callPart (takeCauseOpt c s)) := by
  cases c with
  | none => exact h
  | some c => exact keeps.takeCause c h
theorem changeChan (c : ChanId) (x : Channel) (h : Q (callPart s)) : Q (callPart (changeChan c x s)) := by
  simp only [Machine.changeChan, statusChanged]; split
  · exact h
  · exact keeps.reformLocal (keeps.refugesAtChannel c (keeps.takeCauseOpt _ (same h (by simp))))
theorem takeReading (p : SpurId) (sub raw q : Nat) (h : Q (callPart s)) : Q (callPart (takeReading p sub raw q s)) := by
  unfold Machine.takeReading; split
  · exact h
  · exact keeps.changeChan _ _ h
theorem chanFault (c : ChanId) (h : Q (callPart s)) : Q (callPart (chanFault c s)) := keeps.changeChan c _ h
theorem takeTruckStatus (p : SpurId) (n st : Nat) (h : Q (callPart s)) : Q (callPart (takeTruckStatus p n st s)) := by
  simp only [Machine.takeTruckStatus]
  generalize (if n = 0 ∨ 4095 < n then none else truckReportOf st) = o
  cases o with
  | none => exact h
  | some r =>
    simp only; split
    · exact h
    · exact keeps.reformLocal h
theorem clearTruckAlarm (h : Q (callPart s)) : Q (callPart (clearTruckAlarm s)) := by
  unfold Machine.clearTruckAlarm; split
  · exact h
  · refine same (s := setTruckAlarm none s) ?_ (callPart_forEach _ 8 _ fun p s => by split <;> simp)
    exact keeps.reformLocal h

/-! ### The Action Unit -/

theorem runAction (a : Action) (h : Q (callPart s)) : Q (callPart (runAction a s).1) := by
  cases a with
  | setOutput o f => simp only [Machine.runAction]; exact same h (callPart_setForce s o f)
  | soundHandsets => simp only [Machine.runAction]; exact same h (callPart_soundHandsets s)
  | closeBlock id =>
    simp only [Machine.runAction]; split
    · exact same h (callPart_closeBlock s _)
    · exact h
  | raiseLevel l => exact keeps.reformLocal h
  | setTrip => exact keeps.takeCause _ h
  | clearCallsAbove n => simp only [Machine.runAction]; exact keeps.clearWhere _ _ h
  | refugePrepare r =>
    simp only [Machine.runAction]; split
    · exact keeps.prepareAction r h
    · exact h
  | stopTrucks => simp only [Machine.runAction]; exact same h (callPart_setStopTrucks s _)
  | sendNote c => exact h
/-- R146: so the Action Unit's work keeps it. -/
theorem actions : KeptByActions fun s => Q (callPart s) where
  unit _ _ h := h
  triggers _ _ h := h
  note _ h := h
  action a _ h := keeps.runAction a h
theorem settle (h : Q (callPart s)) : Q (callPart (settle s)) := keeps.actions.settle h
theorem evalLists (h : Q (callPart s)) : Q (callPart (evalLists s)) := by
  unfold Machine.evalLists; split
  · exact keeps.settle (keeps.actions.evalList 1 (keeps.actions.evalList 0 h))
  · exact h
theorem armEntry (a : Action) (c : QueueCond) (h : Q (callPart s)) : Q (callPart (armEntry a c s)) := by
  simp only [Machine.armEntry]; split
  · exact keeps.actions.examineHead 8 h
  · exact h

/-! ### Spurs -/

theorem ownerLost (ty : SpurType) (p : SpurId) (s0 : State) (h : Q (callPart s)) : Q (callPart (ownerLost ty p s0 s)) := by
  cases ty with
  | off => exact h
  | gas =>
    simp only [Machine.ownerLost]
    exact forEach_invariant (fun s => Q (callPart s)) 16 _ (fun c s h => by
      split
      · exact keeps.settle (keeps.chanFault c h)
      · exact h) s h
  | voice => simp only [Machine.ownerLost]; exact keeps.callsSpurLost p h
  | truck => simp only [Machine.ownerLost]; exact same h (callPart_blocksSpurLost s p s0)
  | refuge =>
    simp only [Machine.ownerLost, refugeSpurLost]; split
    · exact keeps.reformRefuge _ h
    · exact h
theorem ownerUp (ty : SpurType) (p : SpurId) (s0 : State) (h : Q (callPart s)) : Q (callPart (ownerUp ty p s0 s)) := by
  cases ty with
  | off => exact h
  | gas => exact h
  | voice => exact h
  | truck => simp only [Machine.ownerUp]; exact same h (callPart_blocksSpurUp s p s0)
  | refuge =>
    simp only [Machine.ownerUp, refugeSpurUp]; split
    · exact same (keeps.reformRefuge _ h) (callPart_panelStartUp _ _)
    · exact h
theorem leaveUp (ty : SpurType) (p : SpurId) (st : SpurState) (h : Q (callPart s)) : Q (callPart (leaveUp ty p st s)) :=
  keeps.ownerLost ty p s h
theorem takeHello (p : SpurId) (ty : HeadType) (h : Q (callPart s)) : Q (callPart (takeHello p ty s)) := by
  simp only [Machine.takeHello]
  generalize judged : (if State.spurUp _ p then Machine.settle _ else _ : State) = u
  have hu : Q (callPart u) := by
    rw [← judged]; split
    · exact keeps.settle (keeps.leaveUp _ p .starting h)
    · exact h
  simp only [judgeHello]; repeat' split
  · exact keeps.ownerUp _ p u hu
  · exact hu
  · exact hu
theorem deliver (p : SpurId) (m : HeadMsg) (h : Q (callPart s)) : Q (callPart (deliver p m s)) := by
  cases m with
  | hello ty => exact keeps.takeHello p _ h
  | reading sub raw q => exact keeps.takeReading p sub raw q h
  | offhook => exact keeps.takeOffhook p h
  | onhook => exact keeps.takeOnhook p h
  | digit d => exact keeps.takeDigit p d h
  | tag n sense => exact same h (by simp only [Machine.deliver, deliverTag]; split <;> simp)
  | truckStatus n st => exact keeps.takeTruckStatus p n st h
  | door v => exact deliverRefuge_of (P := fun s => Q (callPart s)) p (fun r => keeps.refugeDoor r v) h
  | checkin n => exact deliverRefuge_of (P := fun s => Q (callPart s)) p (fun r => keeps.changeRoll r _) h
  | checkout n => exact deliverRefuge_of (P := fun s => Q (callPart s)) p (fun r => keeps.refugeCheckout r n) h
  | distress => exact deliverRefuge_of (P := fun s => Q (callPart s)) p keeps.refugeDistress h
theorem takeMsg (p : SpurId) (m : HeadMsg) (h : Q (callPart s)) : Q (callPart (takeMsg p m s)) := by
  unfold Machine.takeMsg; split
  · exact keeps.deliver p m h
  · exact h
theorem headMessage (p : SpurId) (m : HeadMsg) (h : Q (callPart s)) : Q (callPart (headMessage p m s)) := by
  unfold Machine.headMessage; split
  · exact h
  · exact keeps.takeMsg p m (same h (callPart_validFrame s p))
theorem takeFrame (p : SpurId) (f : List Octet) (h : Q (callPart s)) : Q (callPart (takeFrame p f s)) := by
  have framed : Q (callPart (Machine.keepVoice p (frameVoice f) (validFrame p s))) := same h (by simp)
  unfold Machine.takeFrame; split
  · exact h
  · split
    · simp only; split
      · exact framed
      · exact framed
      · exact keeps.takeMsg p _ framed
    · exact h
theorem silenceTimeout (p : SpurId) (h : Q (callPart s)) : Q (callPart (silenceTimeout p s)) := by
  simp only [Machine.silenceTimeout]; repeat' split
  · exact keeps.leaveUp _ p .down h
  · exact h
  · exact h
theorem retypeSpur (old ty : SpurType) (p : SpurId) (h : Q (callPart s)) : Q (callPart (retypeSpur old ty p s)) := by
  simp only [Machine.retypeSpur]; split
  · exact keeps.leaveUp old p _ h
  · exact h
theorem loadSpur (p : SpurId) (c : SpurCfg) (h : Q (callPart s)) : Q (callPart (loadSpur p c s)) := by
  simp only [Machine.loadSpur]; repeat' split
  · exact h
  · rw [callPart_reformLights]; exact keeps.retypeSpur (s.working.spurs.get p).type c.type p h
  · exact h

/-! ### The line ports -/

theorem setAutonomous (b : Bool) (h : Q (callPart s)) : Q (callPart (setAutonomous b s)) := by
  simp only [Machine.setAutonomous]; repeat' split
  · exact h
  · exact keeps.callsAutonomous h
  · exact same h (callPart_resetRequested _)
theorem takeMessage (d : Side) (m : Option NMsg) (h : Q (callPart s)) : Q (callPart (takeMessage d m s)) := by
  cases m with
  | none => exact h
  | some m => exact same (keeps.settle h) (callPart_takeNeighbour _ d m)
theorem takeSegment (d : Side) (pl : List Octet) (h : Q (callPart s)) : Q (callPart (takeSegment d pl s)) := by
  rw [takeSegment_eq]
  refine keeps.takeMessage d _ ?_
  cases d with
  | inbye => exact same h (callPart_setInbyeNeighbour _ _ _)
  | outbye =>
    simp only [cellFields]
    generalize lined : Machine.setAutonomous _ _ = u
    have hu : Q (callPart u) := by rw [← lined]; exact keeps.setAutonomous _ (same h (callPart_setPosition _ _))
    split
    · exact keeps.takeOrdered _ hu
    · exact hu
theorem segmentHanded (d : Side) (a : Arrival) (h : Q (callPart s)) : Q (callPart (segmentHanded d a s)) := by
  unfold Machine.segmentHanded; split
  · simp only [goodSegment]; repeat' split
    · exact keeps.takeSegment d _ (same h (callPart_setPort s d _))
    · exact h
    · exact same h (callPart_setPort s d _)
  · exact h
theorem portLost (d : Side) (h : Q (callPart s)) : Q (callPart (portLost d s)) := by
  cases d with
  | inbye => rw [portLost_inbye]; exact same h (by simp)
  | outbye => rw [portLost_outbye]; exact keeps.setAutonomous true (same h (by simp))
theorem portUp (d : Side) (h : Q (callPart s)) : Q (callPart (portUp d s)) := by
  have risen : Q (callPart (portRisen d s)) := keeps.settle (same h (by simp))
  cases d with
  | inbye => rw [portUp_inbye]; exact keeps.takeSegment _ _ (same risen (callPart_setEndOfLine _ _))
  | outbye => rw [portUp_outbye]; exact keeps.takeSegment _ _ risen
theorem portLostDue (d : Side) (h : Q (callPart s)) : Q (callPart (if (s.port d).lostDue then Machine.portLost d s else s)) := by
  split
  · exact keeps.portLost d h
  · exact h
theorem portUpDue (d : Side) (h : Q (callPart s)) : Q (callPart (if (s.port d).upDue then Machine.portUp d s else s)) := by
  split
  · exact keeps.portUp d h
  · exact h
theorem lineCycle (closed : PairIx → Bool) (h : Q (callPart s)) : Q (callPart (lineCycle closed s)) := by
  have port (d : Side) {s : State} (h : Q (callPart s)) : Q (callPart (portChangeDue d s)) := by
    unfold portChangeDue; repeat' split
    · exact keeps.settle (keeps.portLost d h)
    · exact keeps.settle (keeps.portUp d h)
    · exact h
  have changed : Q (callPart (changesDue s)) := forEach_invariant (fun s => Q (callPart s)) 8 _ (fun p s h => by
    unfold spurChangeDue; split
    · exact keeps.settle (keeps.silenceTimeout p h)
    · exact h) _ (port .inbye (port .outbye h))
  exact same changed (by simp [Machine.lineCycle])

/-! ### Loads and commissioning -/

theorem reloadChan (c : ChanId) (was : Bool) (old : ChanCfg) (h : Q (callPart s)) : Q (callPart (reloadChan c was old s)) := by
  simp only [Machine.reloadChan]; split
  · exact keeps.takeCauseOpt _ h
  · exact keeps.changeChan _ _ h
  · exact keeps.changeChan _ _ h
  · exact h
theorem spursUncommissioned (tb : Tables) (h : Q (callPart s)) : Q (callPart (spursUncommissioned tb s)) := by
  have off : callPart (forEach 8 (fun p s =>
      if (s.spurs.get p).state = .off then s else (s.setSpur p ((s.spurs.get p).reset .off)).mark (.spur p)) s) = callPart s :=
    callPart_forEach s 8 _ fun p s => by split <;> rfl
  exact forEach_invariant (fun s => Q (callPart s)) 8 _ (fun p t h => by
    split
    · exact keeps.ownerLost _ p s h
    · exact h) _ (same h off)
theorem commissioningChanged (tb : Tables) (was : Bool) (h : Q (callPart s)) : Q (callPart (commissioningChanged tb was s)) := by
  simp only [Machine.commissioningChanged]
  generalize spurs : (if was then Machine.spursUncommissioned tb s else forEach 8 spurCommissioned s) = u
  have hu : Q (callPart u) := by
    rw [← spurs]; split
    · exact keeps.spursUncommissioned tb h
    · exact forEach_invariant (fun s => Q (callPart s)) 8 _ (fun p s h => by
        unfold spurCommissioned; split
        · exact h
        · exact keeps.retypeSpur _ _ p h) s h
  have refuges : callPart (forEach 2 refugeCommissioning u) = callPart u :=
    callPart_forEach u 2 _ fun r s => callPart_replaceRefuge s r _
  have blocks : callPart (reformLights (forEach 4 blockCommissioning (forEach 2 refugeCommissioning u))) = callPart u := by
    rw [callPart_reformLights, callPart_forEach _ 4 _ fun i s => callPart_blockCommissioning s i, refuges]
  exact forEach_invariant (fun s => Q (callPart s)) 16 _ (fun c s h => keeps.reloadChan c _ _ h) _ (same hu blocks)
theorem applyCommission (c : Commission) (h : Q (callPart s)) : Q (callPart (applyCommission c s)) := by
  simp only [Machine.applyCommission]
  generalize spaced : (if c.spacing = s.working.commission.spacing then _ else _ : State) = u
  have hu : Q (callPart u) := by rw [← spaced]; split <;> exact h
  generalize (u.commissioned != s.commissioned) = changed
  generalize acted : (if changed then Machine.commissioningChanged s.working s.commissioned u else u) = v
  have hv : Q (callPart v) := by
    rw [← acted]; split
    · exact keeps.commissioningChanged _ _ hu
    · exact hu
  have formed : Q (callPart ((reformAll (Machine.contactRolesBut (fun _ => false) s.roleInForce v)).markIf changed .level)) :=
    same (keeps.reformAllBut _ (keeps.contactRolesBut _ _ hv)) (callPart_markIf _ _ _)
  repeat' split
  · exact formed
  · exact same formed (callPart_actionUncommissioned _)
  · exact keeps.evalLists formed
theorem moveRefuge (r : PairIx) (n : RefugeCfg) (h : Q (callPart s)) : Q (callPart (moveRefuge r n s)) := by
  simp only [Machine.moveRefuge]
  generalize moved : Machine.reformLocal _ = v
  have hv : Q (callPart v) := by
    rw [← moved]
    exact keeps.reformLocal (same h (by rw [callPart_notifyOccupied, callPart_replaceRefuge, callPart_setWorking]; split <;> simp))
  repeat' split
  · exact same (keeps.reformRefuge r (keeps.settle hv)) (callPart_panelStartUp _ _)
  · exact hv
  · exact hv
theorem loadTrigger (x : PairIx) (n : TriggerCfg) (h : Q (callPart s)) : Q (callPart (loadTrigger x n s)) := by
  simp only [Machine.loadTrigger, triggerLoaded]
  generalize loaded : State.mark _ .action = u
  have hu : Q (callPart u) := by rw [← loaded]; exact h
  split
  · exact keeps.actions.evalList x hu
  · exact hu
theorem applyEntry (tb : Table) (k : Nat) (b : List Octet) (h : Q (callPart s)) (e : applyEntry tb k b s = .ok t) :
    Q (callPart t) := by
  cases tb with
  | commission => obtain ⟨c, e⟩ := withEntry_ok e; cases e; exact keeps.applyCommission c h
  | levelMap =>
    simp only [Machine.applyEntry, loadLevelMap] at e
    repeat' split at e
    all_goals cases e
    exact keeps.mask h
  | spurs => obtain ⟨p, e⟩ := withIx_ok e; obtain ⟨c, e⟩ := withEntry_ok e; cases e; exact keeps.loadSpur p c h
  | channels =>
    obtain ⟨c, e⟩ := withIx_ok e; obtain ⟨n, e⟩ := withEntry_ok e
    simp only [loadChannel] at e
    repeat' split at e
    all_goals cases e
    exact keeps.reloadChan c _ _ h
  | blocks =>
    obtain ⟨i, e⟩ := withIx_ok e; obtain ⟨n, e⟩ := withEntry_ok e
    unfold loadBlock at e
    repeat' split at e
    iterate 3 · cases e
    rw [← Except.ok.inj e]
    exact same h (by simp)
  | refuges =>
    obtain ⟨r, e⟩ := withIx_ok e; obtain ⟨n, e⟩ := withEntry_ok e
    simp only [loadRefuge] at e
    repeat' split at e
    all_goals cases e
    · exact keeps.reformRefuge r h
    · exact keeps.moveRefuge r n h
  | triggers => obtain ⟨x, e⟩ := withIx_ok e; obtain ⟨n, e⟩ := withEntry_ok e; cases e; exact keeps.loadTrigger x n h
  | _ => cases e
theorem loadEntries (tb : Table) (size n k : Nat) (l : List Octet) (h : Q (callPart s)) :
    Q (callPart (loadEntries tb size n k l s).1) := by
  induction n generalizing k l s with
  | zero => exact h
  | succ n ih =>
    unfold Machine.loadEntries
    split
    · exact h
    · next t e => exact ih _ _ (keeps.settle (keeps.applyEntry tb k _ h e))

/-! ### Orders -/

theorem orderTableLoad (tb first n : Nat) (l : List Octet) (h : Q (callPart s)) :
    Q (callPart (orderTableLoad tb first n l s).state) := by
  have loaded (tb : Table) (size : Nat) : Q (callPart (loadAnswer (Machine.loadEntries tb size n first l s)).state) := by
    unfold loadAnswer
    split <;> exact keeps.loadEntries tb size n first l h
  unfold Machine.orderTableLoad; repeat' split
  case h_2.isFalse.isFalse.isFalse => exact loaded _ _
  all_goals exact h
theorem orderAssignOrigin (r n sl f : Nat) (h : Q (callPart s)) : Q (callPart (orderAssignOrigin r n sl f s).state) := by
  unfold Machine.orderAssignOrigin; repeat' split
  · exact h
  · exact h
  · next r sl f _ _ _ requested _ => exact same (keeps.assign r sl f (not_not.mp requested) h) (callPart_toneOpt _ _ _)
  · exact h
theorem orderAssignDestination (p k sl f : Nat) (h : Q (callPart s)) : Q (callPart (orderAssignDestination p k sl f s).state) := by
  unfold Machine.orderAssignDestination
  split
  · split
    · exact h
    · split
      · exact h
      · next p sl f _ _ _ _ ready =>
        split
        · exact h
        · split
          · exact h
          · next r taken =>
            split
            · exact h
            · exact keeps.ring r p k sl f taken (Nat.le_of_not_lt fun above => ready (.inr above)) h
  · exact h
theorem orderConnect (r n : Nat) (h : Q (callPart s)) : Q (callPart (orderConnect r n s).state) := by
  simp only [Machine.orderConnect]; repeat' split
  · next r _ alerting =>
    refine same (keeps.connect r (by simp [CallRec.live, alerting.1]) h) ?_
    simp only [answer, connectCall, callPart_toneOpt]; split <;> simp
  all_goals exact h
theorem runOrder (prep : Bool) (hdr : OrderHdr) (o : Order) (h : Q (callPart s)) : Q (callPart (runOrder prep hdr o s).state) := by
  cases o with
  | tableRead tb f n =>
    simp only [Machine.runOrder, orderTableRead]; repeat' split
    all_goals exact h
  | tableLoad tb f n l => exact keeps.orderTableLoad tb f n l h
  | historyRead c i n =>
    simp only [Machine.runOrder, orderHistoryRead]; repeat' split
    all_goals exact h
  | restart => simp only [Machine.runOrder, orderRestart]; split <;> exact h
  | unlock c =>
    simp only [Machine.runOrder, orderUnlock]; repeat' split
    all_goals exact h
  | callAssignOrigin r n sl f => exact keeps.orderAssignOrigin r n sl f h
  | callAssignDestination p k sl f => exact keeps.orderAssignDestination p k sl f h
  | callConnect r n => exact keeps.orderConnect r n h
  | callRelease r n =>
    simp only [Machine.runOrder, orderRelease]; split
    · exact keeps.clear _ _ h
    · exact h
  | callRefuse r n k =>
    simp only [Machine.runOrder, orderRefuse]; repeat' split
    · exact keeps.clear _ _ h
    all_goals exact h
  | tripReset =>
    simp only [Machine.runOrder, orderTripReset]; split
    · exact keeps.clearLatch h
    · exact h
  | blockOpen b c =>
    simp only [Machine.runOrder, orderBlockOpen]; repeat' split
    · exact h
    · exact h
    · exact same h (callPart_openBlock s _ _)
  | blockClose b =>
    simp only [Machine.runOrder, orderBlockClose]; split
    · exact h
    · exact same h (callPart_closeBlock s _)
  | arm a0 a1 a2 c0 c1 c2 c3 =>
    simp only [Machine.runOrder, orderArm]; repeat' split
    case h_1.isFalse => exact keeps.armEntry _ _ h
    all_goals exact h
  | levelClear => exact keeps.reformLocal h
  | truckClear => exact keeps.clearTruckAlarm h
  | outputSet o f =>
    simp only [Machine.runOrder, orderOutputSet]; split
    · exact same h (callPart_setForce s _ _)
    · exact h
  | _ => exact h
theorem takeOrder (hdr : OrderHdr) (o : Order) (h : Q (callPart s)) : Q (callPart (takeOrder hdr o s)) := by
  unfold Machine.takeOrder; split
  · exact h
  · generalize unprepared : s.setMgmt { s.mgmt with prepare := false } = u
    have hu : Q (callPart (refreshAccess o u)) := by rw [callPart_refreshAccess, ← unprepared]; exact h
    simp only [judgeOrder]; repeat' split
    case h_4.isFalse => rw [callPart_reply]; exact keeps.runOrder _ hdr o hu
    case h_3.isFalse.isFalse => exact hu
    all_goals rw [callPart_reply]; exact hu

/-! ### Cells and reports -/

theorem mgmtHanded (d : Side) (a : Arrival) (h : Q (callPart s)) : Q (callPart (mgmtHanded d a s)) := by
  have assembled (hd : MgmtHeader) (body : List Octet) {s : State} (h : Q (callPart s)) : Q (callPart (assembleCell hd body s)) := by
    have appended (last : Bool) : Q (callPart (appendCell last hd body s)) := by
      unfold appendCell; repeat' split
      · exact h
      · exact same h (callPart_dropPartial s)
      · exact keeps.takeOrder _ _ (same h (callPart_dropPartial s))
      · exact keeps.takeOrder _ _ h
      · exact h
    unfold assembleCell; split
    · exact keeps.takeOrder _ _ (same h (callPart_dropPartial s))
    · exact same h (callPart_dropPartial s)
    · exact appended _
    · exact appended _
  unfold Machine.mgmtHanded; split
  · simp only [inbyeMgmt]; split
    · exact h
    · split
      · exact assembled _ _ h
      · exact h
  · exact h
  · exact same h (callPart_dropPartial _)
  · exact h
  · exact h
theorem cellArrives (d : Side) (place : Nat) (c : List Octet) (h : Q (callPart s)) : Q (callPart (cellArrives d place c s)) := by
  have arrived : Q (callPart (s.setPort d ((s.port d).atCell.arrive place c))) := same h (callPart_setPort s d _)
  simp only [Machine.cellArrives]; repeat' split
  · exact same arrived (callPart_switchCell _ _ _)
  · exact keeps.mgmtHanded d _ arrived
  · exact keeps.segmentHanded d _ arrived
/-- R98: the report of a CLEARED record frees it, and no other report reaches a record. -/
theorem reportSent (x : Source) (h : Q (callPart s)) : Q (callPart (reportSent x s)) := by
  cases x with
  | call r =>
    simp only [Machine.reportSent]; split
    · next cleared => exact keeps.free r cleared h
    · exact h
  | _ => exact h
theorem outbyeFill (h : Q (callPart s)) : Q (callPart (outbyeFill s)) := by
  have chosen {s : State} (h : Q (callPart s)) : Q (callPart (chooseMessage s)) := by
    unfold chooseMessage; repeat' split
    · exact h
    · exact h
    · exact keeps.reportSent _ h
    · exact h
  have earned : Q (callPart (earnCredit s)) := same h (callPart_earnCredit s)
  unfold Machine.outbyeFill fillOutbye; split
  · rw [callPart_fillCell]; exact chosen earned
  · exact earned

/-! ### Power-on and restarts -/

theorem ofPowerOn (s : State) : Q (callPart (Machine.powerOn s)) := by
  refine keeps.evalLists ?_
  rw [callPart_reformStopAll, callPart_reformLights]
  exact keeps.powerOn _ _ _
theorem restartState (h : Q (callPart s)) : Q (callPart (restartState s)) := by
  simp only [Machine.restartState]
  generalize emptied : restartCalls _ = u
  have hu : Q (callPart u) := by rw [← emptied]; exact keeps.restart h
  rw [callPart_mark, callPart_markIf, callPart_reformStopAll, callPart_reformLights]
  refine keeps.reformAllBut _ (keeps.contactRolesBut _ _ (same hu ?_))
  rw [callPart_restartForces, callPart_forEach _ 2 _ fun r s => callPart_restartRefuge s _ r,
    callPart_forEach _ 16 _ fun c s => callPart_restartChan s _ c, callPart_restartAction, callPart_restartBlocks,
    callPart_forEach _ 8 _ fun p s => callPart_restartSpur s _ p]
theorem restartHandsets (h : Q (callPart s)) : Q (callPart (restartHandsets s)) := by
  have silenced : callPart (forEach 8 (fun p s =>
      if s.spurUpAs .voice p then tone p .silent (offer p (.ring false) s) else s) s) = callPart s :=
    callPart_forEach s 8 _ fun p s => by split <;> simp
  exact forEach_invariant (fun s => Q (callPart s)) 8 _ (fun p s h => by
    split
    · exact keeps.liftHandset p h
    · exact h) _ (same h silenced)
theorem restartNode (h : Q (callPart s)) : Q (callPart (restartNode s)) := by
  refine keeps.evalLists ?_
  rw [restartSends, callPart_restartPanels, callPart_restartTrucks]
  refine keeps.restartHandsets (same (keeps.restartState h) ?_)
  exact callPart_forEach _ 8 _ fun p s => by simp

/-! ### Every command -/

omit keeps in
theorem state_of_expired {st : CallState} {x : CallRec} (due : expired st x = true) : x.state = st := by
  rw [expired, Bool.and_eq_true, beq_iff_eq] at due
  exact due.1
omit keeps in
theorem of_whenPowered {f : State → State} (work : Q (callPart s) → Q (callPart (f s))) (h : Q (callPart s))
    (e : whenPowered f s = .next t) : Q (callPart t) := by
  rw [whenPowered_next] at e
  cases e
  split
  · exact work h
  · exact h
theorem of_settled {f : State → State} (work : Q (callPart s) → Q (callPart (f s))) (h : Q (callPart s))
    (e : settled f s = .next t) : Q (callPart t) :=
  of_whenPowered (f := fun s => Machine.settle (f s)) (fun h => keeps.settle (work h)) h e
/-- A command whose work leaves the calls alone. -/
theorem of_settledSame {f : State → State} (work : callPart (f s) = callPart s) (h : Q (callPart s)) (e : settled f s = .next t) :
    Q (callPart t) := keeps.of_settled (fun h => same h work) h e
theorem of_message (p : SpurId) (m : HeadMsg) (h : Q (callPart s)) (e : exec (m.command p) s = .next t) : Q (callPart t) := by
  have run : exec (m.command p) s = settled (Machine.headMessage p m) s := by cases m <;> rfl
  exact keeps.of_settled (keeps.headMessage p m) h (run.symm.trans e)
theorem of_order (hdr : OrderHdr) (o : Order) (h : Q (callPart s)) (e : orderArrives hdr o s = .next t) : Q (callPart t) := by
  refine keeps.of_settled (fun h => ?_) h e
  split
  · exact keeps.takeOrder hdr o h
  · exact h
theorem of_cell (d : Side) (place : Fin 32) (l : List Octet) (h : Q (callPart s)) (e : exec (cellRow d place l) s = .next t) :
    Q (callPart t) := by
  rw [exec_cellRow] at e
  exact keeps.of_settled (keeps.cellArrives d place.val l) h e
theorem of_neighbour (d : Side) (m : NMsg) (h : Q (callPart s)) (e : settled (takeNeighbour d m) s = .next t) : Q (callPart t) :=
  keeps.of_settledSame (callPart_takeNeighbour s d m) h e
theorem of_timeout (st : CallState) (r : RecId) (h : Q (callPart s)) (e : whenPowered (Machine.timeoutCall st r) s = .next t) :
    Q (callPart t) := of_whenPowered (keeps.timeoutCall st r) h e

/-- Every command keeps it. -/
theorem exec (c : Instr) (h : Q (callPart s)) (e : exec c s = .next t) : Q (callPart t) := by
  cases c with
  | powerOn =>
    have run : Machine.powerOn s = t := Host.Outcome.next.inj e
    rw [← run]
    exact keeps.ofPowerOn s
  | restartCarriedOut =>
    refine keeps.of_settled (fun h => ?_) h (exec_restartCarriedOut s ▸ e)
    split
    · exact keeps.restartNode h
    · exact h
  | lineCycle => exact keeps.of_settled (keeps.lineCycle _) h e
  | inbyeSegmentCell l => exact keeps.of_cell .outbye 1 l h e
  | outbyeSegmentCell l => exact keeps.of_cell .inbye 1 l h e
  | trafficCell d sl l => rw [trafficCell_eq_cellRow] at e; exact keeps.of_cell d _ l h e
  | managementCell d l => exact keeps.of_cell d 0 l h e
  | framingLost d => exact keeps.of_settledSame (callPart_setPort s d _) h (exec_framingLost d s ▸ e)
  | erroredSegmentCell d => exact keeps.of_settledSame (callPart_setPort s d _) h (exec_erroredSegmentCell d s ▸ e)
  | portLost d => exact keeps.of_settled (keeps.portLostDue d) h e
  | portUp d => exact keeps.of_settled (keeps.portUpDue d) h e
  | windowEnd => exact keeps.of_settledSame (callPart_windowEnd s) h e
  | reading p sub raw q => exact keeps.of_message p (.reading sub raw q) h e
  | offhook p => exact keeps.of_message p .offhook h e
  | onhook p => exact keeps.of_message p .onhook h e
  | digit p d => exact keeps.of_message p (.digit d) h e
  | tag p n sense => exact keeps.of_message p (.tag n sense) h e
  | truckStatus p n st => exact keeps.of_message p (.truckStatus n st) h e
  | checkin p n => exact keeps.of_message p (.checkin n) h e
  | checkout p n => exact keeps.of_message p (.checkout n) h e
  | door p v => exact keeps.of_message p (.door v) h e
  | distress p => exact keeps.of_message p .distress h e
  | hello p ty => exact keeps.of_message p (.hello ty) h e
  | spurFrame p f => exact keeps.of_settled (keeps.takeFrame p f) h e
  | spurSilenceTimeout p => exact keeps.of_settled (keeps.silenceTimeout p) h e
  | staleExpiry c =>
    refine keeps.of_settled (fun h => ?_) h e
    unfold staleExpire; split
    · exact keeps.chanFault c h
    · exact h
  | contactChange i =>
    refine keeps.of_settled (fun h => ?_) h (exec_contactChange i s ▸ e)
    split
    · exact keeps.contactChanged i _ h
    · exact h
  | surfaceCompletionTimeout r =>
    refine of_whenPowered (fun h => ?_) h e
    split
    · next due => exact keeps.complete r _ _ (state_of_expired due.1) h
    · exact h
  | refugeEmergencyCompletion r =>
    refine of_whenPowered (fun h => ?_) h e
    split
    · next due => exact keeps.complete r _ _ (state_of_expired due.1) h
    · exact h
  | collectingTimeout r =>
    refine of_whenPowered (fun h => ?_) h e
    split
    · exact keeps.timeoutCall _ r h
    · exact h
  | requestedTimeout r => exact keeps.of_timeout _ r h e
  | heldTimeout r => exact keeps.of_timeout _ r h e
  | alertingTimeout r => exact keeps.of_timeout _ r h e
  | ringingTimeout r => exact keeps.of_timeout _ r h e
  | continuityLoss slot =>
    refine of_whenPowered (fun h => ?_) h (exec_continuityLoss slot s ▸ e)
    repeat' split
    · exact keeps.clear _ _ h
    all_goals exact h
  | claim => exact keeps.of_neighbour _ _ h e
  | grant => exact keeps.of_neighbour _ _ h e
  | wait => exact keeps.of_neighbour _ _ h e
  | exit => exact keeps.of_neighbour _ _ h e
  | state => exact keeps.of_neighbour _ _ h e
  | farEndState => exact keeps.of_neighbour _ _ h e
  | blockTurn i => exact keeps.of_settledSame (by split <;> simp) h e
  | overdue i n => exact keeps.of_settledSame (callPart_takeOverdue s i n) h e
  | stopTrucksEnd => exact keeps.of_settledSame (by split <;> simp) h e
  | headDelayExpiry =>
    refine keeps.of_settled (fun h => ?_) h e
    split
    · exact keeps.actions.examineHead 8 h
    · exact h
  | fillCreditEarned => exact keeps.of_settledSame (callPart_earnCredit s) h e
  | outbyeCellFill => exact keeps.of_settled keeps.outbyeFill h e
  | accessExpiry => exact keeps.of_settledSame (by unfold expireAccess; split <;> rfl) h e
  | commitComplete => exact keeps.of_settledSame (callPart_completeCommit s) h e
  | supplyLoss =>
    refine of_whenPowered (fun h => same h ?_) h e
    simp only [loseSupply]; split <;> rfl
  | _ => exact keeps.of_order _ _ h e
/-- So a step keeps it. -/
theorem step (h : Q (callPart s)) (e : step s = .next t) : Q (callPart t) := by
  unfold Machine.step at e
  split at e
  next => cases e; exact h
  next c rest _ => exact keeps.exec (s := { s with pending := rest }) c h e
end CallKeeps

end Sys2Proof.Safety
end

section
/-! PROOFS. The family of the slot switching: every owner of a Slot Map entry is a live record on that entry's slot (O11). -/

namespace Sys2Proof.Safety
open Sys2Proof.Machine

/-! ## Owners in the calls' part (R67, R99) -/

/-- R79: live while ALERTING, RINGING or CONNECTED. -/
def RecordPart.live (x : RecordPart) : Bool := x.state == .alerting || x.state == .ringing || x.state == .connected
/-- R67: the record is live, and its far side and slot give the entry. -/
def RecordPart.Holds (x : RecordPart) (ix : Side → Slot → SlotIx) (e : SlotIx) : Prop :=
  x.live = true ∧ ∃ far sl, x.far = some far ∧ x.slot = some sl ∧ ix far sl = e

namespace CallPart

/-- The relation of the owners, as the calls' part shows it. -/
structure OwnersLive (p : CallPart) : Prop where
  clearing : ∀ r ∈ p.clearing, (p.record r).state = .cleared
  drop : ∀ e r, p.drop e = some r → (p.record r).Holds dropIx e
  add  : ∀ e r, p.add e = some r → (p.record r).Holds addIx e
/-- No entry of the Slot Map is owned by the record. -/
def OwnsNothing (p : CallPart) (r : RecId) : Prop := ∀ e, p.drop e ≠ some r ∧ p.add e ≠ some r
/-- R97: the pair of entries that a live record's far side and slot give goes. -/
def dropPair (p : CallPart) (x : RecordPart) : CallPart :=
  match x.far, x.slot with
  | some far, some sl => if x.live then p.setOwners none far sl else p
  | _, _ => p
def unpair (p : CallPart) (r : RecId) : CallPart := p.dropPair (p.record r)
/-- R97: a record is cleared and joins the order of reclaiming. -/
def clear (p : CallPart) (r : RecId) : CallPart := { (p.unpair r).enter r .cleared with clearing := p.clearing ++ [r] }

section
variable (p : CallPart) (r q : RecId) (x : RecordPart) (o : Option RecId) (far : Side) (sl : Slot) (e : SlotIx)

@[simp] theorem record_setRecord : (p.setRecord r x).record q = if q = r then x else p.record q := Function.update_apply ..
@[simp] theorem drop_setOwners : (p.setOwners o far sl).drop e = if e = dropIx far sl then o else p.drop e :=
  Function.update_apply ..
@[simp] theorem add_setOwners : (p.setOwners o far sl).add e = if e = addIx far sl then o else p.add e :=
  Function.update_apply ..

variable {p r far sl}
theorem unpair_of_live (live : (p.record r).live = true) (hfar : (p.record r).far = some far) (hslot : (p.record r).slot = some sl) :
    p.unpair r = p.setOwners none far sl := by
  simp [unpair, dropPair, live, hfar, hslot]
variable (p r)
/-- The pair goes after a record has entered a state as it goes before. -/
theorem dropPair_enter (st : CallState) (l : List RecId) :
    { p.enter r st with clearing := l }.dropPair x = { (p.dropPair x).enter r st with clearing := l } := by
  unfold dropPair; split
  · split <;> rfl
  · rfl
/-- R97: the pair that goes is one of an owner's, or there is none. -/
theorem unpair_cases : p.unpair r = p ∨ ∃ far sl, p.unpair r = p.setOwners none far sl := by
  unfold unpair dropPair; split
  · split
    · exact .inr ⟨_, _, rfl⟩
    · exact .inl rfl
  · exact .inl rfl
theorem clearing_unpair : (p.unpair r).clearing = p.clearing := by
  obtain none | ⟨far, sl, pair⟩ := p.unpair_cases r
  · rw [none]
  · rw [pair]; rfl
variable {e q}
theorem drop_of_unpair (owns : (p.unpair r).drop e = some q) : p.drop e = some q := by
  obtain none | ⟨far, sl, pair⟩ := p.unpair_cases r
  · rwa [none] at owns
  · rw [pair, drop_setOwners] at owns; split at owns
    · cases owns
    · exact owns
theorem add_of_unpair (owns : (p.unpair r).add e = some q) : p.add e = some q := by
  obtain none | ⟨far, sl, pair⟩ := p.unpair_cases r
  · rwa [none] at owns
  · rw [pair, add_setOwners] at owns; split at owns
    · cases owns
    · exact owns
end

theorem ownersLive_of_empty {p : CallPart} (clearing : p.clearing = []) (drop : ∀ e, p.drop e = none) (add : ∀ e, p.add e = none) :
    p.OwnersLive where
  clearing r mem := by simp [clearing] at mem
  drop e r own := by simp [drop] at own
  add e r own := by simp [add] at own

namespace OwnersLive
variable {p : CallPart} (h : p.OwnersLive) {r : RecId}
include h

theorem withMask (m : Nat) : { p with mask := m }.OwnersLive := ⟨h.clearing, h.drop, h.add⟩

/-! ### The records -/

/-- A record that is not live owns nothing. -/
theorem ownsNothing (idle : (p.record r).live = false) : p.OwnsNothing r := by
  have never {ix : Side → Slot → SlotIx} {e : SlotIx} (holds : (p.record r).Holds ix e) : False :=
    Bool.false_ne_true (idle.symm.trans holds.1)
  exact fun e => ⟨fun own => never (h.drop e r own), fun own => never (h.add e r own)⟩
/-- A record that is not CLEARED is not in the order of reclaiming. -/
theorem not_mem_clearing (stands : (p.record r).state ≠ .cleared) : r ∉ p.clearing := fun mem => stands (h.clearing r mem)
/-- A record is replaced by one that holds the entries that it owns. -/
theorem setRecord {x : RecordPart} (drop : ∀ e, p.drop e = some r → x.Holds dropIx e) (add : ∀ e, p.add e = some r → x.Holds addIx e)
    (cleared : r ∈ p.clearing → x.state = .cleared) : (p.setRecord r x).OwnersLive where
  clearing q mem := by
    rw [record_setRecord]; split
    · next own => exact cleared (own ▸ mem)
    · exact h.clearing q mem
  drop e q owns := by
    rw [record_setRecord]; split
    · next own => exact drop e (own ▸ owns)
    · exact h.drop e q owns
  add e q owns := by
    rw [record_setRecord]; split
    · next own => exact add e (own ▸ owns)
    · exact h.add e q owns
/-- A record that is not live and not CLEARED is replaced. -/
theorem setIdle (x : RecordPart) (idle : (p.record r).live = false) (stands : (p.record r).state ≠ .cleared) :
    (p.setRecord r x).OwnersLive :=
  h.setRecord (fun e own => absurd own (h.ownsNothing idle e).1) (fun e own => absurd own (h.ownsNothing idle e).2)
    fun mem => absurd mem (h.not_mem_clearing stands)
/-- A live record stays live with its far side and slot. -/
theorem enterLive {st : CallState} (was : (p.record r).live = true) (live : { p.record r with state := st }.live = true) :
    (p.enter r st).OwnersLive :=
  h.setRecord (fun e own => ⟨live, (h.drop e r own).2⟩) (fun e own => ⟨live, (h.add e r own).2⟩) fun mem => by
    simp [RecordPart.live, h.clearing r mem] at was

/-! ### The owners -/

/-- R67: a pair is given to a live record on that slot. -/
theorem install {far : Side} {sl : Slot} (live : (p.record r).live = true) (hfar : (p.record r).far = some far)
    (hslot : (p.record r).slot = some sl) : (p.setOwners (some r) far sl).OwnersLive where
  clearing := h.clearing
  drop e q owns := by
    rw [drop_setOwners] at owns; split at owns
    · next pair => cases owns; exact ⟨live, far, sl, hfar, hslot, pair.symm⟩
    · exact h.drop e q owns
  add e q owns := by
    rw [add_setOwners] at owns; split at owns
    · next pair => cases owns; exact ⟨live, far, sl, hfar, hslot, pair.symm⟩
    · exact h.add e q owns
/-- A pair that goes leaves every other owner as it was. -/
theorem remove (far : Side) (sl : Slot) : (p.setOwners none far sl).OwnersLive where
  clearing := h.clearing
  drop e q owns := by
    rw [drop_setOwners] at owns; split at owns
    · cases owns
    · exact h.drop e q owns
  add e q owns := by
    rw [add_setOwners] at owns; split at owns
    · cases owns
    · exact h.add e q owns
theorem unpair (r : RecId) : (p.unpair r).OwnersLive := by
  obtain none | ⟨far, sl, pair⟩ := p.unpair_cases r
  · rwa [none]
  · rw [pair]; exact h.remove far sl
/-- R67, R97: the pair that goes with a record is all that the record owned. -/
theorem ownsNothing_unpair (r : RecId) : (p.unpair r).OwnsNothing r := by
  refine fun e => ⟨fun owns => ?_, fun owns => ?_⟩
  · obtain ⟨live, far, sl, hfar, hslot, pair⟩ := h.drop e r (drop_of_unpair p r owns)
    simp [unpair_of_live live hfar hslot, pair] at owns
  · obtain ⟨live, far, sl, hfar, hslot, pair⟩ := h.add e r (add_of_unpair p r owns)
    simp [unpair_of_live live hfar hslot, pair] at owns

/-! ### The records' ends -/

/-- R97: a cleared record owns nothing and joins the order of reclaiming. -/
theorem clear (r : RecId) : (p.clear r).OwnersLive := by
  have nothing := h.ownsNothing_unpair r
  have cleared : ((p.unpair r).enter r .cleared).OwnersLive :=
    (h.unpair r).setRecord (fun e own => absurd own (nothing e).1) (fun e own => absurd own (nothing e).2) fun _ => rfl
  refine { cleared with clearing := fun q mem => ?_ }
  rcases List.mem_append.mp mem with before | last
  · exact cleared.clearing q ((clearing_unpair p r).symm ▸ before)
  · simp [CallPart.clear, enter, List.mem_singleton.mp last]
/-- R98, R99: a record that is not live becomes IDLE. -/
theorem free (idle : (p.record r).live = false) : (p.free r).OwnersLive where
  clearing q mem := by
    obtain ⟨before, other⟩ := List.mem_filter.mp mem
    simpa [CallPart.free, of_decide_eq_true other] using h.clearing q before
  drop e q owns := by
    have other : q ≠ r := fun own => (h.ownsNothing idle e).1 (own ▸ owns)
    simpa [CallPart.free, other] using h.drop e q owns
  add e q owns := by
    have other : q ≠ r := fun own => (h.ownsNothing idle e).2 (own ▸ owns)
    simpa [CallPart.free, other] using h.add e q owns
end OwnersLive
end CallPart

theorem ownersLive_iff (s : State) : OwnersLive s ↔ (callPart s).OwnersLive :=
  ⟨fun h => ⟨h.clearing, h.drop, h.add⟩, fun h => ⟨h.clearing, h.drop, h.add⟩⟩

end Sys2Proof.Safety
end

section
/-! PROOFS. The family of the slot switching: the Call Controller's operations keep every owner of the Slot Map live, and O11. -/

namespace Sys2Proof.Safety
open Sys2Proof.Machine

/-! ## What the Call Controller's operations do to the calls' part -/

@[simp] theorem far_recordPart (x : CallRec) : (recordPart x).far = x.far := rfl
@[simp] theorem slot_recordPart (x : CallRec) : (recordPart x).slot = x.slot := rfl
@[simp] theorem state_recordPart (x : CallRec) : (recordPart x).state = x.state := rfl
@[simp] theorem live_recordPart (x : CallRec) : (recordPart x).live = x.live := rfl

/-- A record in a state that is none of the three is not live. -/
theorem not_live_of_state {x : CallRec} {st : CallState} (at_ : x.state = st)
    (other : (st == .alerting || st == .ringing || st == .connected) = false) : x.live = false := by
  rw [CallRec.live, at_, other]

section
variable (s : State) (r : RecId)

theorem callPart_setClearing (l : List RecId) :
    callPart (s.setCalls { s.calls with clearing := l }) = { callPart s with clearing := l } := rfl
theorem callPart_dropPair (x : CallRec) : callPart (dropPair x s) = (callPart s).dropPair (recordPart x) := by
  simp only [dropPair, CallPart.dropPair, far_recordPart, slot_recordPart, live_recordPart]
  cases x.far with
  | none => rfl
  | some far =>
    cases x.slot with
    | none => rfl
    | some sl =>
      by_cases live : x.live = true
      · simp [live]
      · simp [live]
/-- R97: what the clearing of an in-use record changes. -/
theorem callPart_clearCall (c : ClearCause) (inUse : (s.call r).inUse = true) :
    callPart (clearCall r c s) = (callPart s).clear r := by
  have silenced (u : State) : callPart (if (s.call r).state = .ringing then ringOpt (rungSpur (s.call r)) false u else u) = callPart u := by
    split <;> simp
  rw [clearCall, if_pos inUse, callPart_clearTones, silenced, callPart_dropBridge, callPart_dropPair, callPart_setClearing,
    callPart_enterCall, CallPart.clear, CallPart.unpair]
  exact (callPart s).dropPair_enter r _ .cleared _
/-- A record that is IDLE or CLEARED is left as it is. -/
theorem callPart_clearCall_of_not_inUse (c : ClearCause) (rest : (s.call r).inUse = false) :
    callPart (clearCall r c s) = callPart s := by
  simp [clearCall, rest]
/-- R82, R99: the record that is taken is IDLE, or the head of the order of reclaiming. -/
theorem state_of_recToTake {s : State} {r : RecId} (taken : s.recToTake = some r) :
    (s.call r).state = .idle ∨ r ∈ (callPart s).clearing := by
  unfold State.recToTake at taken; split at taken
  · next idle => cases taken; exact .inl (by simpa [State.call] using Tab.firstIx_some idle)
  · exact .inr (List.mem_of_head? taken)
theorem callPart_reclaim : callPart (reclaim r s) = if (s.call r).state = .cleared then (callPart s).free r else callPart s := by
  unfold reclaim; split
  · rw [callPart_freeCall, callPart_withdraw]
  · rfl
theorem callPart_restartCalls : callPart (restartCalls s) =
    { callPart s with record := fun _ => recordPart .idle, clearing := [], drop := fun _ => none, add := fun _ => none } := by
  simp [callPart, restartCalls, State.call]
end

/-! ## The owners' relation is kept -/

section
variable {s : State} {r : RecId} (h : (callPart s).OwnersLive)
include h

theorem ownersLive_clearCall (r : RecId) (c : ClearCause) : (callPart (clearCall r c s)).OwnersLive := by
  cases used : (s.call r).inUse with
  | true => rw [callPart_clearCall s r c used]; exact h.clear r
  | false => rwa [callPart_clearCall_of_not_inUse s r c used]

/-! ### Admission (R87, R88) -/

/-- A record that is neither live nor CLEARED takes the fields and the state that admission gives it. -/
theorem ownersLive_enterCall {st : CallState} {f : CallRec → CallRec} (idle : (s.call r).live = false)
    (stands : (s.call r).state ≠ .cleared) : (callPart (enterCall r st f s)).OwnersLive := by
  rw [callPart_enterCall]; exact h.setIdle _ idle stands
theorem ownersLive_ringStep (idle : (s.call r).live = false) (stands : (s.call r).state ≠ .cleared) :
    (callPart (ringStep r s)).OwnersLive := by
  simp only [ringStep]; repeat' split
  · exact h
  · exact ownersLive_clearCall h r _
  · exact ownersLive_clearCall h r _
  · exact ownersLive_clearCall h r _
  · rw [callPart_toneOpt, callPart_offer]; exact ownersLive_enterCall h idle stands
theorem ownersLive_proceedCall (idle : (s.call r).live = false) (stands : (s.call r).state ≠ .cleared) :
    (callPart (proceedCall r s)).OwnersLive := by
  simp only [proceedCall]; repeat' split
  · exact ownersLive_ringStep h idle stands
  · exact ownersLive_clearCall h r _
  · rw [requestCall, callPart_toneOpt]; exact ownersLive_enterCall h idle stands
theorem ownersLive_admitCall (idle : (s.call r).live = false) (stands : (s.call r).state ≠ .cleared) :
    (callPart (admitCall r s)).OwnersLive := by
  simp only [admitCall]; split
  · rw [callPart_toneOpt]; exact ownersLive_enterCall h idle stands
  · exact ownersLive_proceedCall h idle stands
theorem ownersLive_completeCall (d : Dialled) (k : Option Nat) (collecting : (s.call r).state = .collecting) :
    (callPart (completeCall r d k s)).OwnersLive := by
  rw [completeCall]
  refine ownersLive_admitCall ?_ ?_ ?_
  · rw [callPart_setCall]
    exact h.setIdle _ (not_live_of_state collecting rfl) (by simp [collecting])
  · simp [CallRec.live, collecting]
  · simp [collecting]

/-! ### A change of the mask (R89, R90) -/

theorem ownersLive_retest (mask : Nat) : (callPart (retest mask s)).OwnersLive := by
  rw [retest]
  refine List.foldlRecOn _ _ (motive := fun s => (callPart s).OwnersLive) h fun s h r _ => ?_
  split
  · next held => exact ownersLive_proceedCall h (not_live_of_state held rfl) (by simp [held])
  · exact h
theorem ownersLive_reformMask : (callPart (reformMask s)).OwnersLive := by
  simp only [reformMask, callsAtMask]
  have masked : (callPart ((s.setLevel { s.level with mask := s.maskOf }).mark .level)).OwnersLive := h.withMask s.maskOf
  repeat' split
  · exact h
  · exact clearWhere_of (fun r c h => ownersLive_clearCall h r c) _ _ masked
  · exact ownersLive_retest masked _

/-! ### A record is taken (R82, R93, R99) -/

theorem ownersLive_reclaim (r : RecId) : (callPart (reclaim r s)).OwnersLive := by
  rw [callPart_reclaim]; split
  · next cleared => exact h.free (not_live_of_state cleared rfl)
  · exact h
theorem state_reclaim (taken : s.recToTake = some r) : ((reclaim r s).call r).state = .idle := by
  have freed : ((callPart (reclaim r s)).record r).state = .idle := by
    rw [callPart_reclaim]; split
    · simp [CallPart.free, recordPart, CallRec.idle]
    · next stands =>
      rcases state_of_recToTake taken with idle | mem
      · exact idle
      · exact absurd (h.clearing r mem) stands
  exact freed
/-- The record that is taken is numbered, and enters the state that its use gives it. -/
theorem ownersLive_takeRecord (taken : s.recToTake = some r) (st : CallState) (f : CallRec → CallRec) :
    (callPart (enterCall r st f (numberCall r (reclaim r s)))).OwnersLive := by
  have idle : ((numberCall r (reclaim r s)).call r).state = .idle :=
    (state_of_callPart (callPart_numberCall _ r) r).trans (state_reclaim h taken)
  refine ownersLive_enterCall ?_ (not_live_of_state idle rfl) (by simp [idle])
  rw [callPart_numberCall]; exact ownersLive_reclaim h r
theorem ownersLive_startCall (p : SpurId) : (callPart (startCall p s)).OwnersLive := by
  unfold startCall; split
  · rwa [callPart_countRefused, callPart_tone]
  · next r taken => rw [callPart_tone]; exact ownersLive_takeRecord h taken _ _

/-! ### A pair is given (R92, R93) -/

theorem ownersLive_assignCall (sl : Slot) (far : Side) (requested : (s.call r).state = .requested) :
    (callPart (assignCall r sl far s)).OwnersLive := by
  rw [assignCall, callPart_installPair]
  refine (ownersLive_enterCall h (not_live_of_state requested rfl) (by simp [requested])).install ?_ ?_ ?_
  all_goals simp [callPart_enterCall, recordPart, RecordPart.live]
theorem ownersLive_ringDestination (p : SpurId) (k : Nat) (sl : Slot) (far : Side) (taken : s.recToTake = some r) :
    (callPart (ringDestination r p k sl far s)).OwnersLive := by
  rw [ringDestination, callPart_offer, callPart_installPair]
  refine (ownersLive_takeRecord h taken _ _).install ?_ ?_ ?_
  all_goals simp [callPart_enterCall, recordPart, RecordPart.live]
end

/-- R67, R99: the Call Controller's operations keep every owner live on its entry's slot. -/
theorem callKeeps_ownersLive : CallKeeps CallPart.OwnersLive where
  mask h := ownersLive_reformMask h
  clear r c h := ownersLive_clearCall h r c
  complete _ d k collecting h := ownersLive_completeCall h d k collecting
  connect r live h := by rw [callPart_enterCall_id]; exact h.enterLive live rfl
  start p h := ownersLive_startCall h p
  assign _ sl far requested h := ownersLive_assignCall h sl far requested
  ring _ p k sl far taken _ h := ownersLive_ringDestination h p k sl far taken
  free r cleared h := by rw [callPart_freeCall]; exact h.free (not_live_of_state cleared rfl)
  restart _ := by rw [callPart_restartCalls]; exact CallPart.ownersLive_of_empty rfl (fun _ => rfl) fun _ => rfl
  powerOn store pending n := by
    have slots : (formQuietly (State.poweredOn store pending n)).slots = .start := rfl
    refine CallPart.ownersLive_of_empty rfl (fun e => ?_) fun e => ?_
    all_goals simp [callPart, slots, SlotSwitch.start, SlotEntry.pass]

/-- Settles O11: the calls' part holds what the relation reads, each operation of the Call Controller keeps the relation there, and a
step is made of those operations and of work that leaves the calls' part as it was. -/
theorem slotOwnersStayLive : Obligations.SlotOwnersStayLive := by
  intro s t h e
  exact (ownersLive_iff t).mpr (callKeeps_ownersLive.step ((ownersLive_iff s).mp h) e)

end Sys2Proof.Safety
end

section
/-! PROOFS. The family of the calls: every admitted call stays within the admission mask (O7). -/

namespace Sys2Proof.Safety
open Sys2Proof.Machine

/-! ## Walks over a table -/

section
variable {σ : Type} {n : Nat} (f : Fin n → σ → σ)

/-- The turns before an index, its own turn, and the turns after it. -/
theorem forEach_split (i : Fin n) : ∃ before after : List (Fin n), i ∉ before ∧ i ∉ after ∧
    ∀ s, forEach n f s = after.foldl (fun t j => f j t) (f i (before.foldl (fun t j => f j t) s)) := by
  obtain ⟨before, after, split⟩ := List.append_of_mem (List.mem_finRange i)
  have once := List.nodup_finRange n
  rw [split] at once
  have apart := List.nodup_middle.mp once
  obtain ⟨fresh, _⟩ := List.nodup_cons.mp apart
  refine ⟨before, after, fun mem => fresh (List.mem_append_left _ mem), fun mem => fresh (List.mem_append_right _ mem), fun s => ?_⟩
  rw [forEach, split, List.foldl_append, List.foldl_cons]
/-- What an index holds before its turn, which the other turns keep, its own turn makes into what holds after it. -/
theorem forEach_turn {i : Fin n} {Before After : σ → Prop} (before : ∀ j s, j ≠ i → Before s → Before (f j s))
    (turn : ∀ s, Before s → After (f i s)) (after : ∀ j s, j ≠ i → After s → After (f j s)) {s : σ} (h : Before s) :
    After (forEach n f s) := by
  obtain ⟨l, l', notIn, notIn', walk⟩ := forEach_split f i
  rw [walk]
  refine List.foldlRecOn l' _ (motive := After) (turn _ ?_) fun t h j mem => after j t (fun own => notIn' (own ▸ mem)) h
  exact List.foldlRecOn l _ (motive := Before) h fun t h j mem => before j t (fun own => notIn (own ▸ mem)) h
/-- Where one index alone acts, the walk is its turn. -/
theorem forEach_only {i : Fin n} {s : σ} (stands : ∀ j, j ≠ i → f j s = s) (after : ∀ j, j ≠ i → f j (f i s) = f i s) :
    forEach n f s = f i s := by
  obtain ⟨l, l', notIn, notIn', walk⟩ := forEach_split f i
  have idle (l : List (Fin n)) (notIn : i ∉ l) (t : σ) (rest : ∀ j, j ≠ i → f j t = t) : l.foldl (fun t j => f j t) t = t :=
    List.foldlRecOn l _ (motive := (· = t)) rfl fun u same j mem => by rw [same]; exact rest j fun own => notIn (own ▸ mem)
  rw [walk, idle l notIn s stands, idle l' notIn' _ after]
end

/-! ## Admission in the calls' part (R87, R89, R90) -/

/-- R90: the four admitted states. -/
def RecordPart.admitted (x : RecordPart) : Bool := x.state == .requested || x.live
/-- R90: an admitted record has a priority number within the mask. -/
def RecordPart.Within (mask : Nat) (x : RecordPart) : Prop := x.admitted = true → x.priority.getD 0 ≤ mask

@[simp] theorem admitted_recordPart (x : CallRec) : (recordPart x).admitted = x.admitted := rfl
@[simp] theorem priority_recordPart (x : CallRec) : (recordPart x).priority = x.priority := rfl
/-- A record in a state that is none of the four is within every mask. -/
theorem RecordPart.within_of_state {x : RecordPart} {st : CallState} (at_ : x.state = st)
    (other : (st == .requested || (st == .alerting || st == .ringing || st == .connected)) = false) (mask : Nat) : x.Within mask :=
  fun admitted => by rw [RecordPart.admitted, RecordPart.live, at_, other] at admitted; cases admitted
theorem RecordPart.within_of_priority {x : RecordPart} {mask : Nat} (le : x.priority.getD 0 ≤ mask) : x.Within mask := fun _ => le

namespace CallPart

/-- The relation of the mask, as the calls' part shows it. -/
def WithinMask (p : CallPart) : Prop := ∀ r, (p.record r).Within p.mask

section
variable (p : CallPart) (r q : RecId)

theorem record_unpair : (p.unpair r).record = p.record := by
  obtain none | ⟨far, sl, pair⟩ := p.unpair_cases r
  · rw [none]
  · rw [pair]; rfl
theorem mask_unpair : (p.unpair r).mask = p.mask := by
  obtain none | ⟨far, sl, pair⟩ := p.unpair_cases r
  · rw [none]
  · rw [pair]; rfl
theorem record_enter (st : CallState) :
    (p.enter r st).record q = if q = r then { p.record r with state := st } else p.record q := record_setRecord p r q _
theorem record_clear : (p.clear r).record q = if q = r then { p.record r with state := .cleared } else p.record q := by
  rw [← record_unpair p r]; exact record_enter _ r q .cleared
theorem mask_clear : (p.clear r).mask = p.mask := mask_unpair p r
end

namespace WithinMask
variable {p : CallPart} (h : p.WithinMask) {r : RecId}
include h

theorem setRecord {x : RecordPart} (within : x.Within p.mask) : (p.setRecord r x).WithinMask := fun q => by
  rw [record_setRecord]; split
  · exact within
  · exact h q
/-- A record changes its state alone, with its priority number within the mask. -/
theorem enter {st : CallState} (le : (p.record r).priority.getD 0 ≤ p.mask) : (p.enter r st).WithinMask :=
  h.setRecord (RecordPart.within_of_priority le)
theorem setOwners (o : Option RecId) (far : Side) (sl : Slot) : (p.setOwners o far sl).WithinMask := h
theorem clear (r : RecId) : (p.clear r).WithinMask := fun q => by
  rw [record_clear, mask_clear]; split
  · exact RecordPart.within_of_state rfl rfl _
  · exact h q
theorem free (r : RecId) : (p.free r).WithinMask := h.setRecord (RecordPart.within_of_state rfl rfl _)
end WithinMask
end CallPart

theorem admittedWithinMask_iff (s : State) : AdmittedWithinMask s ↔ (callPart s).WithinMask := Iff.rfl

/-! ## What clearing and proceeding can do to the calls' part -/

section
variable (s : State) (r : RecId)

theorem callPart_clearCall_cases (c : ClearCause) :
    callPart (clearCall r c s) = callPart s ∨ callPart (clearCall r c s) = (callPart s).clear r := by
  cases used : (s.call r).inUse with
  | true => exact .inr (callPart_clearCall s r c used)
  | false => exact .inl (callPart_clearCall_of_not_inUse s r c used)
/-- R87, R88: a record that proceeds changes its state alone, or is cleared. -/
theorem callPart_proceedCall_cases : (∃ st, callPart (proceedCall r s) = (callPart s).enter r st) ∨
    callPart (proceedCall r s) = callPart s ∨ callPart (proceedCall r s) = (callPart s).clear r := by
  simp only [proceedCall, ringStep, requestCall]; repeat' split
  · exact .inr (.inl rfl)
  · exact .inr (callPart_clearCall_cases s r _)
  · exact .inr (callPart_clearCall_cases s r _)
  · exact .inr (callPart_clearCall_cases s r _)
  · exact .inl ⟨.ringing, by simp⟩
  · exact .inr (callPart_clearCall_cases s r _)
  · exact .inl ⟨.requested, by simp⟩
/-- A record that proceeds moves no priority number and no mask. -/
theorem priority_proceedCall (q : RecId) :
    ((callPart (proceedCall r s)).record q).priority = ((callPart s).record q).priority := by
  obtain ⟨st, e⟩ | e | e := callPart_proceedCall_cases s r
  · rw [e, CallPart.record_enter]; split
    · next own => rw [own]
    · rfl
  · rw [e]
  · rw [e, CallPart.record_clear]; split
    · next own => rw [own]
    · rfl
theorem mask_proceedCall : (callPart (proceedCall r s)).mask = (callPart s).mask := by
  obtain ⟨st, e⟩ | e | e := callPart_proceedCall_cases s r
  · rw [e]; rfl
  · rw [e]
  · rw [e, CallPart.mask_clear]
theorem mask_clearCall (c : ClearCause) : (callPart (clearCall r c s)).mask = (callPart s).mask := by
  obtain e | e := callPart_clearCall_cases s r c
  · rw [e]
  · rw [e, CallPart.mask_clear]
end

/-! ## The mask's relation is kept -/

section
variable {s : State} {r : RecId} (h : (callPart s).WithinMask)
include h

theorem withinMask_clearCall (r : RecId) (c : ClearCause) : (callPart (clearCall r c s)).WithinMask := by
  obtain e | e := callPart_clearCall_cases s r c
  · rwa [e]
  · rw [e]; exact h.clear r
theorem withinMask_proceedCall (le : (s.call r).priority.getD 0 ≤ s.level.mask) : (callPart (proceedCall r s)).WithinMask := by
  obtain ⟨st, e⟩ | e | e := callPart_proceedCall_cases s r
  · rw [e]; exact h.enter le
  · rwa [e]
  · rw [e]; exact h.clear r
/-- R87: the admission test lets a record proceed within the mask alone. -/
theorem withinMask_admitCall : (callPart (admitCall r s)).WithinMask := by
  simp only [admitCall]; split
  · rw [callPart_toneOpt, callPart_enterCall_id]; exact h.setRecord (RecordPart.within_of_state rfl rfl _)
  · next le => exact withinMask_proceedCall h (Nat.le_of_not_lt le)
theorem withinMask_completeCall (d : Dialled) (k : Option Nat) (collecting : (s.call r).state = .collecting) :
    (callPart (completeCall r d k s)).WithinMask := by
  rw [completeCall]
  refine withinMask_admitCall ?_
  rw [callPart_setCall]
  exact h.setRecord (RecordPart.within_of_state collecting rfl _)
theorem withinMask_reclaim (r : RecId) : (callPart (reclaim r s)).WithinMask := by
  rw [callPart_reclaim]; split
  · exact h.free r
  · exact h
/-- R89: a HELD record whose turn comes stands as it stood when the order was formed, but for its state: so its priority number is
within the mask. -/
theorem withinMask_retest : (callPart (retest s.level.mask s)).WithinMask := by
  have ordered {q : RecId} (mem : q ∈ s.retestOrder s.level.mask) : (s.call q).priority.getD 0 ≤ s.level.mask := by
    obtain ⟨k, _, found⟩ := List.mem_flatMap.mp mem
    have meets := of_decide_eq_true (List.mem_filter.mp found).2
    exact meets.1 ▸ meets.2
  have kept : (callPart (retest s.level.mask s)).WithinMask ∧ (callPart (retest s.level.mask s)).mask = s.level.mask ∧
      ∀ q, ((callPart (retest s.level.mask s)).record q).priority = (s.call q).priority := by
    rw [retest]
    refine List.foldlRecOn _ _ (motive := fun t => (callPart t).WithinMask ∧ (callPart t).mask = s.level.mask ∧
      ∀ q, ((callPart t).record q).priority = (s.call q).priority) ⟨h, rfl, fun _ => rfl⟩ fun t ⟨within, mask, priority⟩ q mem => ?_
    split
    · have le : ((callPart t).record q).priority.getD 0 ≤ (callPart t).mask := by rw [priority, mask]; exact ordered mem
      exact ⟨withinMask_proceedCall within le, (mask_proceedCall t q).trans mask,
        fun k => (priority_proceedCall t q k).trans (priority k)⟩
    · exact ⟨within, mask, priority⟩
  exact kept.1
end

/-! ### A clearing of all that meet a test -/

section
variable (test : CallRec → Bool) (c : ClearCause) (s : State)

/-- The turn of one record. -/
def clearTurn (r : RecId) (s : State) : State := if test (s.call r) then clearCall r c s else s
theorem clearWhere_eq : clearWhere test c s = forEach 16 (clearTurn test c) s := rfl
variable {s}
theorem clearTurn_meets {r : RecId} (meets : test (s.call r) = true) : clearTurn test c r s = clearCall r c s := if_pos meets
theorem clearTurn_fails {r : RecId} (fails : test (s.call r) = false) : clearTurn test c r s = s := if_neg (by simp [fails])
theorem clearTurn_cases (r : RecId) : clearTurn test c r s = s ∨ clearTurn test c r s = clearCall r c s := by
  unfold clearTurn; split
  · exact .inr rfl
  · exact .inl rfl
variable (s)
theorem mask_clearWhere : (callPart (clearWhere test c s)).mask = (callPart s).mask :=
  forEach_keeps (fun s => (callPart s).mask) 16 (clearTurn test c) (fun r s => by
    obtain e | e := clearTurn_cases test c (s := s) r
    · rw [e]
    · rw [e, mask_clearCall]) s
/-- Where the records that meet the test are in use, each record is left CLEARED or failing the test. -/
theorem record_clearWhere {P : RecordPart → Prop} (inUse : ∀ x, test x = true → x.inUse = true)
    (cleared : ∀ x : RecordPart, P { x with state := .cleared }) (stands : ∀ x : CallRec, test x = false → P (recordPart x)) (r : RecId) :
    P ((callPart (clearWhere test c s)).record r) := by
  rw [clearWhere_eq]
  refine forEach_turn (i := r) _ (Before := fun _ => True) (After := fun t => P ((callPart t).record r)) (fun _ _ _ _ => trivial)
    (fun t _ => ?_) (fun q t ne holds => ?_) trivial
  · cases meets : test (t.call r) with
    | true =>
      rw [clearTurn_meets test c meets, callPart_clearCall t r c (inUse _ meets), CallPart.record_clear, if_pos rfl]; exact cleared _
    | false => rw [clearTurn_fails test c meets]; exact stands _ meets
  · obtain e | e := clearTurn_cases test c (s := t) q
    · rwa [e]
    · obtain same | clear := callPart_clearCall_cases t q c
      · rwa [e, same]
      · rwa [e, clear, CallPart.record_clear, if_neg (Ne.symm ne)]
end
theorem inUse_of_admitted {x : CallRec} (admitted : x.admitted = true) : x.inUse = true := by
  cases state : x.state <;> simp_all [CallRec.inUse, CallRec.admitted, CallRec.live]
/-- R90: on a fall of the mask every admitted record above it is cleared, whatever the calls were. -/
theorem withinMask_preempt {s : State} {mask : Nat} (masked : s.level.mask = mask) : (callPart (preempt mask s)).WithinMask := by
  intro r
  rw [preempt, mask_clearWhere]
  refine record_clearWhere (P := RecordPart.Within s.level.mask) _ _ s (fun x above => ?_) (fun x => ?_) (fun x below admitted => ?_) r
  · exact inUse_of_admitted (Bool.and_eq_true_iff.mp above).1
  · exact RecordPart.within_of_state rfl rfl _
  · have passed : x.admitted = true := admitted
    simpa [passed, masked] using below
/-- R33, R89, R90: a new mask preempts what it no longer admits, or lets what it admits proceed. -/
theorem withinMask_reformMask {s : State} (h : (callPart s).WithinMask) : (callPart (reformMask s)).WithinMask := by
  simp only [reformMask, callsAtMask]
  generalize masked : State.mark _ .level = u
  have mask : u.level.mask = s.maskOf := by rw [← masked]; rfl
  have record : (callPart u).record = (callPart s).record := by rw [← masked]; rfl
  repeat' split
  · exact h
  · exact withinMask_preempt mask
  · next rises =>
    have raised : (callPart u).WithinMask := fun r admitted => by
      rw [record] at admitted ⊢
      exact (h r admitted).trans ((Nat.le_of_not_lt rises).trans_eq mask.symm)
    exact mask ▸ withinMask_retest raised

/-- R87, R89, R90: the Call Controller's operations keep every admitted record within the mask. -/
theorem callKeeps_withinMask : CallKeeps CallPart.WithinMask where
  mask h := withinMask_reformMask h
  clear r c h := withinMask_clearCall h r c
  complete _ d k collecting h := withinMask_completeCall h d k collecting
  connect r live h := by
    rw [callPart_enterCall_id]
    exact h.enter (h r (Bool.or_eq_true_iff.mpr (.inr live)))
  start p h := by
    unfold startCall; split
    · rwa [callPart_countRefused, callPart_tone]
    · rw [callPart_tone, callPart_enterCall, callPart_numberCall]
      exact (withinMask_reclaim h _).setRecord (RecordPart.within_of_state rfl rfl _)
  assign {s} r sl far requested h := by
    rw [assignCall, callPart_installPair, callPart_enterCall]
    refine (h.setRecord (RecordPart.within_of_priority ?_)).setOwners _ _ _
    exact h r (by simp [CallRec.admitted, requested])
  ring {s} r p k sl far taken le h := by
    have mask : (callPart (reclaim r s)).mask = s.level.mask := by rw [callPart_reclaim]; split <;> rfl
    rw [ringDestination, callPart_offer, callPart_installPair, callPart_enterCall, callPart_numberCall]
    exact ((withinMask_reclaim h r).setRecord (RecordPart.within_of_priority (mask.symm ▸ le))).setOwners _ _ _
  free r _ h := by rw [callPart_freeCall]; exact h.free r
  restart _ := by rw [callPart_restartCalls]; exact fun r => RecordPart.within_of_state rfl rfl _
  powerOn store pending n := fun r => by
    have calls : (formQuietly (State.poweredOn store pending n)).calls = .start := rfl
    refine RecordPart.within_of_state (st := .idle) ?_ rfl _
    simp [State.call, calls, Calls.start, CallRec.idle]

/-- Settles O7: the calls' part holds what the relation reads, and each operation of the Call Controller keeps the relation there. -/
theorem admittedCallsStayWithinTheMask : Obligations.AdmittedCallsStayWithinTheMask := by
  intro s t h e
  exact (admittedWithinMask_iff t).mpr (callKeeps_withinMask.step ((admittedWithinMask_iff s).mp h) e)

end Sys2Proof.Safety
end

section
/-! PROOFS. The family of the calls: what each operation on a call record does to the record, to the others, to the Slot Map, to the
bridge and to the spurs, and what it leaves alone (R67, R73, R79, R97, R169). -/

namespace Sys2Proof

theorem Tab.put_put {n : Nat} {α : Type} (t : Tab n α) (i : Fin n) (x y : α) : (t.put i x).put i y = t.put i y :=
  Tab.ext fun j => by rw [Tab.get_put, Tab.get_put, Tab.get_put]; split <;> rfl

end Sys2Proof

namespace Sys2Proof.Safety
open Sys2Proof.Machine

/-! ## What the work on calls leaves alone -/

/-- The state with everything blanked that an operation on call records can reach: the records with their two orders, the Slot Map's
entries and the bridge, the queues of messages for heads with their discards, and the report marks. -/
def outsideCalls (s : State) : State :=
  { s with
    calls := { s.calls with recs := Tab.fill 16 .idle, clearing := [], heldOrder := [] }
    slots := { s.slots with map := Tab.fill 60 .pass, bridge := [] }
    spurs := s.spurs.mapIx fun _ x => { x with queue := [], outDiscard := 0 }
    mgmt := { s.mgmt with holding := Tab.fill 58 none } }

/-- `t` is `s` but for the calls, the Slot Switch, the spurs and the report marks. -/
def CallsFrame (s t : State) : Prop :=
  t = { s with calls := t.calls, slots := t.slots, spurs := t.spurs, mgmt := { s.mgmt with holding := t.mgmt.holding } }

namespace CallsFrame
variable {s t u : State}
theorem trans (h : CallsFrame s t) (k : CallsFrame t u) : CallsFrame s u := by
  rw [CallsFrame, k, h]
/-- With the Slot Switch as it was. -/
theorem sameSlots (h : CallsFrame s t) (slots : t.slots = s.slots) :
    t = { s with calls := t.calls, spurs := t.spurs, mgmt := { s.mgmt with holding := t.mgmt.holding } } :=
  Eq.trans h (by rw [slots])
end CallsFrame

section
variable {s t : State} (h : outsideCalls t = outsideCalls s)
include h

theorem frame_of_outsideCalls : CallsFrame s t := by
  have mgmt : t.mgmt = { s.mgmt with holding := t.mgmt.holding } := by
    have blanked : { t.mgmt with holding := Tab.fill 58 none } = { s.mgmt with holding := Tab.fill 58 none } := (congrArg State.mgmt h :)
    exact congrArg (fun m : Mgmt => { m with holding := t.mgmt.holding }) blanked
  have rest := congrArg (fun u : State => { u with calls := t.calls, slots := t.slots, spurs := t.spurs, mgmt := t.mgmt }) h
  rw [CallsFrame, ← mgmt]
  exact rest
theorem counts_of_outsideCalls :
    t.calls.hooks = s.calls.hooks ∧ t.calls.counter = s.calls.counter ∧ t.calls.refused = s.calls.refused :=
  ⟨congrArg (fun u => u.calls.hooks) h, congrArg (fun u => u.calls.counter) h, congrArg (fun u => u.calls.refused) h⟩
theorem line_of_outsideCalls : t.line = s.line := (congrArg State.line h :)
theorem level_of_outsideCalls : t.level = s.level := (congrArg State.level h :)
theorem working_of_outsideCalls : t.working = s.working := (congrArg State.working h :)
theorem action_of_outsideCalls : t.action = s.action := (congrArg State.action h :)
theorem collisions_of_outsideCalls : t.slots.collisions = s.slots.collisions := congrArg (fun u => u.slots.collisions) h
theorem noNotices_of_outsideCalls (idle : NoNotices s) : NoNotices t := by
  rw [NoNotices, action_of_outsideCalls h]; exact idle
theorem get_spurs_of_outsideCalls (p : SpurId) :
    t.spurs.get p = { s.spurs.get p with queue := (t.spurs.get p).queue, outDiscard := (t.spurs.get p).outDiscard } := by
  have blanked := congrArg (fun u => u.spurs.get p) h
  simp only [outsideCalls, Tab.get_mapIx] at blanked
  exact congrArg (fun x : Spur => { x with queue := (t.spurs.get p).queue, outDiscard := (t.spurs.get p).outDiscard }) blanked
end

/-! ## Messages to heads (R169) -/

/-- R169: an UP spur takes an offer, and any other stands. -/
def sent (t : SpurType) (m : OutMsg) (x : Spur) : Spur := if x.state = .up then offerTo t m x else x

/-- `t` is `s` but for the spurs. -/
def SpursOnly (s t : State) : Prop := t = { s with spurs := t.spurs }

namespace SpursOnly
variable {s t u : State}
theorem refl (s : State) : SpursOnly s s := rfl
theorem trans (h : SpursOnly s t) (k : SpursOnly t u) : SpursOnly s u := by
  rw [SpursOnly, k, h]
section
variable (h : SpursOnly s t)
include h
theorem calls : t.calls = s.calls := (congrArg State.calls h :)
theorem slots : t.slots = s.slots := (congrArg State.slots h :)
theorem mgmt : t.mgmt = s.mgmt := (congrArg State.mgmt h :)
theorem line : t.line = s.line := (congrArg State.line h :)
theorem level : t.level = s.level := (congrArg State.level h :)
theorem working : t.working = s.working := (congrArg State.working h :)
end
end SpursOnly

section
variable (s : State) (p q : SpurId) (m : OutMsg) (a : Tone) (o : Option SpurId) (b : Bool) (c : ClearCause) (l : List SpurId)

theorem offer_eq : offer p m s = s.setSpur p (sent (s.spurType p) m (s.spurs.get p)) := by
  unfold offer sent State.spurUp
  by_cases up : (s.spurs.get p).state = .up
  · simp [up]
  · simp [up, State.setSpur]
theorem spurs_offer : (offer p m s).spurs = s.spurs.put p (sent (s.spurType p) m (s.spurs.get p)) := by rw [offer_eq]; rfl
theorem sent_up {ty : SpurType} {x : Spur} (up : x.state = .up) : sent ty m x = offerTo ty m x := if_pos up
theorem sent_rest (ty : SpurType) (x : Spur) : { sent ty m x with queue := x.queue, outDiscard := x.outDiscard } = x := by
  unfold sent; split
  · exact offerTo_rest _ _ _
  · rfl
theorem state_sent (ty : SpurType) (x : Spur) : (sent ty m x).state = x.state :=
  (congrArg Spur.state (sent_rest m ty x) :)
theorem spurUp_offer : (offer p m s).spurUp q = s.spurUp q := by
  rw [State.spurUp, spurs_offer, Tab.get_put]; split
  · next own => rw [own, state_sent]; rfl
  · rfl

theorem spurType_congr {t : State} (working : t.working = s.working) : t.spurType p = s.spurType p := by
  rw [State.spurType, State.commissioned, working]; rfl
theorem spurUpAs_congr {t : State} (ty : SpurType) (spurs : t.spurs = s.spurs) (working : t.working = s.working) :
    t.spurUpAs ty p = s.spurUpAs ty p := by
  rw [State.spurUpAs, State.spurUp, spurs, spurType_congr s p working]; rfl
theorem spurUpAs_offer (ty : SpurType) : (offer p m s).spurUpAs ty q = s.spurUpAs ty q := by
  rw [State.spurUpAs, spurUp_offer, offer_eq]; rfl
/-- R169: what an UP spur of a type is offered. -/
theorem spurs_offer_up {ty : SpurType} (up : s.spurUpAs ty p = true) :
    (offer p m s).spurs = s.spurs.put p (offerTo ty m (s.spurs.get p)) := by
  obtain ⟨state, type⟩ := Bool.and_eq_true_iff.mp up
  rw [spurs_offer, sent_up m (beq_iff_eq.mp state), beq_iff_eq.mp type]

theorem spursOnly_offer : SpursOnly s (offer p m s) := by rw [offer_eq]; rfl
theorem spursOnly_tone : SpursOnly s (tone p a s) := spursOnly_offer s p _
theorem spursOnly_toneOpt : SpursOnly s (toneOpt o a s) := by
  cases o with
  | none => rfl
  | some p => exact spursOnly_tone s p a
theorem spursOnly_ringOpt : SpursOnly s (ringOpt o b s) := by
  cases o with
  | none => rfl
  | some p => exact spursOnly_offer s p _
theorem spursOnly_clearTones : SpursOnly s (clearTones c l s) := by
  induction l generalizing s with
  | nil => rfl
  | cons p l ih =>
    refine SpursOnly.trans ?_ (ih _)
    dsimp only
    split
    · exact spursOnly_tone s p _
    · rfl

@[simp] theorem working_offer : (offer p m s).working = s.working := (spursOnly_offer s p m).working
@[simp] theorem working_toneOpt : (toneOpt o a s).working = s.working := (spursOnly_toneOpt s a o).working
@[simp] theorem calls_offer : (offer p m s).calls = s.calls := (spursOnly_offer s p m).calls
@[simp] theorem calls_tone : (tone p a s).calls = s.calls := (spursOnly_tone s p a).calls
@[simp] theorem calls_toneOpt : (toneOpt o a s).calls = s.calls := (spursOnly_toneOpt s a o).calls
@[simp] theorem calls_clearTones : (clearTones c l s).calls = s.calls := (spursOnly_clearTones s c l).calls
@[simp] theorem slots_offer : (offer p m s).slots = s.slots := (spursOnly_offer s p m).slots
@[simp] theorem slots_tone : (tone p a s).slots = s.slots := (spursOnly_tone s p a).slots
@[simp] theorem slots_toneOpt : (toneOpt o a s).slots = s.slots := (spursOnly_toneOpt s a o).slots
@[simp] theorem slots_clearTones : (clearTones c l s).slots = s.slots := (spursOnly_clearTones s c l).slots
@[simp] theorem mgmt_offer : (offer p m s).mgmt = s.mgmt := (spursOnly_offer s p m).mgmt
@[simp] theorem mgmt_toneOpt : (toneOpt o a s).mgmt = s.mgmt := (spursOnly_toneOpt s a o).mgmt
@[simp] theorem mgmt_clearTones : (clearTones c l s).mgmt = s.mgmt := (spursOnly_clearTones s c l).mgmt
@[simp] theorem call_offer (r : RecId) : (offer p m s).call r = s.call r := by simp [State.call]
@[simp] theorem call_tone (r : RecId) : (tone p a s).call r = s.call r := by simp [State.call]
@[simp] theorem call_toneOpt (r : RecId) : (toneOpt o a s).call r = s.call r := by simp [State.call]

/-! ### What one spur is sent -/

/-- Offers at equal spurs of equal types leave equal spurs. -/
theorem spurs_offer_congr {t : State} (spurs : t.spurs = s.spurs) (working : t.working = s.working) :
    (offer p m t).spurs = (offer p m s).spurs := by
  rw [spurs_offer, spurs_offer, spurs, spurType_congr s p working]
theorem spurs_toneOpt_congr {t : State} (spurs : t.spurs = s.spurs) (working : t.working = s.working) :
    (toneOpt o a t).spurs = (toneOpt o a s).spurs := by
  cases o with
  | none => exact spurs
  | some p => exact spurs_offer_congr s p _ spurs working
theorem get_spurs_offer_same : (offer p m s).spurs.get p = sent (s.spurType p) m (s.spurs.get p) := by simp [spurs_offer]
theorem get_spurs_offer_ne (ne : q ≠ p) : (offer p m s).spurs.get q = s.spurs.get q := by rw [spurs_offer, Tab.get_put_ne _ _ ne]
/-- What is offered to a spur rests on that spur and its type alone. -/
theorem get_spurs_offer_congr {t : State} (spur : t.spurs.get p = s.spurs.get p) (working : t.working = s.working) :
    (offer p m t).spurs.get p = (offer p m s).spurs.get p := by
  rw [get_spurs_offer_same, get_spurs_offer_same, spur, spurType_congr s p working]
theorem get_spurs_ringOpt : (ringOpt o b s).spurs.get q = (if o = some q then offer q (.ring b) s else s).spurs.get q := by
  cases o with
  | none => rfl
  | some p =>
    by_cases own : q = p
    · simp [own, ringOpt]
    · rw [if_neg fun e => own (Option.some.inj e).symm]; exact get_spurs_offer_ne s p q _ own
/-- R97: each handset on a list without repeats is sent the tone when it is off hook. -/
theorem get_spurs_clearTones (once : l.Nodup) : (clearTones c l s).spurs.get q =
    (if q ∈ l ∧ s.calls.hooks.get q = true then offer q (.tone (clearTone c)) s else s).spurs.get q := by
  induction l generalizing s with
  | nil => rfl
  | cons p l ih =>
    obtain ⟨fresh, once⟩ := List.nodup_cons.mp once
    generalize toned : (if s.calls.hooks.get p then tone p (clearTone c) s else s) = u
    have only : SpursOnly s u := by
      rw [← toned]; split
      · exact spursOnly_tone s p _
      · rfl
    have rest : clearTones c (p :: l) s = clearTones c l u := by rw [← toned]; rfl
    rw [rest, ih u once, only.calls]
    by_cases own : q = p
    · subst own
      rw [if_neg fun both => fresh both.1, ← toned]
      simp [tone]
    · have stands : u.spurs.get q = s.spurs.get q := by
        rw [← toned]; split
        · exact get_spurs_offer_ne s p q _ own
        · rfl
      simp only [List.mem_cons, own, false_or]
      split
      · exact get_spurs_offer_congr s q _ stands only.working
      · exact stands
end

/-! ## A record's change of state (R79) -/

section
variable (s : State) (r q : RecId) (st : CallState) (f : CallRec → CallRec) (o : Option RecId)
variable (far : Side) (sl : Slot) (e : SlotIx)

@[simp] theorem call_enterCall : (enterCall r st f s).call r =
    { f (s.call r) with state := st, entry := some s.line.cycle, timer := some 0 } := State.setCall_call s r _
theorem call_enterCall_ne (ne : q ≠ r) : (enterCall r st f s).call q = s.call q := State.setCall_call_ne s _ ne
@[simp] theorem slots_enterCall : (enterCall r st f s).slots = s.slots := rfl
@[simp] theorem spurs_enterCall : (enterCall r st f s).spurs = s.spurs := rfl
@[simp] theorem working_enterCall : (enterCall r st f s).working = s.working := rfl
@[simp] theorem hooks_enterCall : (enterCall r st f s).calls.hooks = s.calls.hooks := rfl
@[simp] theorem counter_enterCall : (enterCall r st f s).calls.counter = s.calls.counter := rfl
@[simp] theorem mgmt_enterCall : (enterCall r st f s).mgmt =
    { s.mgmt with holding := s.mgmt.holding.put (Source.call r).ix (markHeld (s.held (.call r))) } := rfl

/-! ## The pair of entries (R67) -/

@[simp] theorem calls_installPair : (installPair r far sl s).calls = s.calls := rfl
@[simp] theorem spurs_installPair : (installPair r far sl s).spurs = s.spurs := rfl
@[simp] theorem mgmt_installPair : (installPair r far sl s).mgmt = s.mgmt := rfl
@[simp] theorem working_installPair : (installPair r far sl s).working = s.working := rfl
@[simp] theorem bridge_installPair : (installPair r far sl s).slots.bridge = s.slots.bridge := rfl
@[simp] theorem call_installPair : (installPair r far sl s).call q = s.call q := rfl
@[simp] theorem continuity_startContinuity :
    ((startContinuity far sl s).slots.map.get (dropIx far sl)).continuity = 0 := by simp [startContinuity]

/-- An entry's write of its own owner shows what the entry of the other direction keeps. -/
theorem add_setDrop (e' : SlotIx) : ((s.setSlot e { s.slots.map.get e with drop := o, continuity := 0 }).slots.map.get e').add =
    (s.slots.map.get e').add := by
  rw [State.setSlot_slots, Tab.get_put]; split
  · next own => rw [own]
  · rfl
theorem add_installPair : ((installPair r far sl s).slots.map.get (addIx far sl)).add = some r := by
  rw [installPair, add_setDrop]; simp
theorem drop_installPair : ((installPair r far sl s).slots.map.get (dropIx far sl)).drop = some r := by simp [installPair]
theorem continuity_installPair : ((installPair r far sl s).slots.map.get (dropIx far sl)).continuity = 0 := by simp [installPair]
theorem get_installPair_ne (add : e ≠ addIx far sl) (drop : e ≠ dropIx far sl) :
    (installPair r far sl s).slots.map.get e = s.slots.map.get e := by
  simp [installPair, Tab.get_put_ne _ _ add, Tab.get_put_ne _ _ drop]
theorem removePair_frees : ((removePair far sl s).slots.map.get (addIx far sl)).add = none ∧
    ((removePair far sl s).slots.map.get (dropIx far sl)).drop = none := by
  refine ⟨?_, by simp [removePair]⟩
  rw [removePair, add_setDrop]; simp
end

/-! ## What the operations leave alone -/

section
variable (s : State) (r : RecId)

@[simp] theorem outsideCalls_enterCall (st : CallState) (f : CallRec → CallRec) :
    outsideCalls (enterCall r st f s) = outsideCalls s := rfl
@[simp] theorem outsideCalls_setClearing (l : List RecId) :
    outsideCalls (s.setCalls { s.calls with clearing := l }) = outsideCalls s := rfl
@[simp] theorem outsideCalls_setBridge (b : List (SpurId × SpurId)) :
    outsideCalls (s.setSlots { s.slots with bridge := b }) = outsideCalls s := rfl
@[simp] theorem outsideCalls_installPair (far : Side) (sl : Slot) : outsideCalls (installPair r far sl s) = outsideCalls s := rfl
theorem outsideCalls_setSpur (p : SpurId) (x : Spur)
    (h : { x with queue := (s.spurs.get p).queue, outDiscard := (s.spurs.get p).outDiscard } = s.spurs.get p) :
    outsideCalls (s.setSpur p x) = outsideCalls s := by
  have spurs : (s.spurs.put p x).mapIx (fun _ x => { x with queue := [], outDiscard := 0 })
      = s.spurs.mapIx fun _ x => { x with queue := [], outDiscard := 0 } :=
    Tab.mapIx_put _ _ _ _ (congrArg (fun x : Spur => { x with queue := [], outDiscard := 0 }) h)
  simp only [outsideCalls, State.setSpur_spurs, spurs]
  rfl
@[simp] theorem outsideCalls_offer (p : SpurId) (m : OutMsg) : outsideCalls (offer p m s) = outsideCalls s := by
  rw [offer_eq]; exact outsideCalls_setSpur s p _ (sent_rest _ _ _)
@[simp] theorem outsideCalls_tone (p : SpurId) (a : Tone) : outsideCalls (tone p a s) = outsideCalls s := outsideCalls_offer s p _
@[simp] theorem outsideCalls_toneOpt (o : Option SpurId) (a : Tone) : outsideCalls (toneOpt o a s) = outsideCalls s := by
  cases o <;> simp [toneOpt]
@[simp] theorem outsideCalls_ringOpt (o : Option SpurId) (b : Bool) : outsideCalls (ringOpt o b s) = outsideCalls s := by
  cases o <;> simp [ringOpt]
@[simp] theorem outsideCalls_clearTones (c : ClearCause) (l : List SpurId) : outsideCalls (clearTones c l s) = outsideCalls s :=
  foldl_keeps outsideCalls _ (fun s p => by split <;> simp) l s
@[simp] theorem outsideCalls_dropPair (x : CallRec) : outsideCalls (dropPair x s) = outsideCalls s := by
  unfold dropPair; repeat' split
  all_goals rfl
@[simp] theorem outsideCalls_dropBridge (x : CallRec) : outsideCalls (dropBridge x s) = outsideCalls s := by
  unfold dropBridge; split <;> rfl
end

end Sys2Proof.Safety
end

section
/-! PROOFS. The family of the calls: what clearing does (R97), one record at a time and for all that meet a test. -/

namespace Sys2Proof.Safety
open Sys2Proof.Machine

/-! ## One record cleared (R97) -/

/-- R97: the record is CLEARED for the cause and joins the order of reclaiming. -/
def joinCleared (r : RecId) (c : ClearCause) (s : State) : State :=
  let s := enterCall r .cleared (fun y => { y with cause := some c }) s
  s.setCalls { s.calls with clearing := s.calls.clearing ++ [r] }
/-- R97: RING off to the spur that a RINGING record rings. -/
def stopRinging (x : CallRec) (s : State) : State := if x.state = .ringing then ringOpt (rungSpur x) false s else s

section
variable (s : State) (r : RecId) (c : ClearCause) (x : CallRec)

theorem clearCall_inUse (inUse : (s.call r).inUse = true) : clearCall r c s =
    clearTones c (handsetsOf (s.call r)) (stopRinging (s.call r) (dropBridge (s.call r) (dropPair (s.call r) (joinCleared r c s)))) :=
  if_pos inUse
theorem clearCall_not_inUse (rest : (s.call r).inUse = false) : clearCall r c s = s := by simp [clearCall, rest]

/-! ### Its parts -/

theorem dropPair_cases : dropPair x s = s ∨ ∃ far sl, dropPair x s = removePair far sl s := by
  unfold dropPair; repeat' split
  · exact .inr ⟨_, _, rfl⟩
  · exact .inl rfl
  · exact .inl rfl
theorem dropPair_live {far : Side} {sl : Slot} (live : x.live = true) (hfar : x.far = some far) (hslot : x.slot = some sl) :
    dropPair x s = removePair far sl s := by simp [dropPair, live, hfar, hslot]
theorem dropPair_not_live (rest : x.live = false) : dropPair x s = s := by
  unfold dropPair; split
  · simp [rest]
  · rfl
theorem bridge_dropPair : (dropPair x s).slots.bridge = s.slots.bridge := by
  obtain e | ⟨far, sl, e⟩ := dropPair_cases s x
  · rw [e]
  · rw [e]; rfl
theorem map_dropBridge : (dropBridge x s).slots.map = s.slots.map := by unfold dropBridge; split <;> rfl
theorem bridges_iff {b : SpurId × SpurId} {x : CallRec} : bridges b x = true ↔
    (x.role = some .localCall ∧ x.state = .connected) ∧ x.origin = some b.1 ∧ x.dest = some b.2 := by
  simp [bridges, and_assoc]
/-- R97: the bridge loses the pair of a LOCAL record in CONNECTED, and no other. -/
theorem bridge_dropBridge : (dropBridge x s).slots.bridge = s.slots.bridge.filter fun b => !bridges b x := by
  unfold dropBridge; split
  · next joined =>
    refine List.filter_congr fun b _ => congrArg not (Bool.eq_iff_iff.mpr ?_)
    rw [bridges_iff, Bool.and_eq_true_iff, beq_iff_eq, beq_iff_eq, eq_comm, eq_comm (b := x.dest)]
    exact ⟨fun ends => ⟨joined, ends⟩, fun all => all.2⟩
  · next apart =>
    refine (List.filter_eq_self.mpr fun b _ => ?_).symm
    exact congrArg not (Bool.eq_false_iff.mpr fun hit => apart (bridges_iff.mp hit).1)
theorem dropBridge_not_connected (rest : x.state ≠ .connected) : dropBridge x s = s := if_neg fun both => rest both.2
@[simp] theorem calls_dropPair : (dropPair x s).calls = s.calls := by
  obtain e | ⟨far, sl, e⟩ := dropPair_cases s x
  · rw [e]
  · rw [e]; rfl
@[simp] theorem spurs_dropPair : (dropPair x s).spurs = s.spurs := by
  obtain e | ⟨far, sl, e⟩ := dropPair_cases s x
  · rw [e]
  · rw [e]; rfl
@[simp] theorem mgmt_dropPair : (dropPair x s).mgmt = s.mgmt := by
  obtain e | ⟨far, sl, e⟩ := dropPair_cases s x
  · rw [e]
  · rw [e]; rfl
@[simp] theorem working_dropPair : (dropPair x s).working = s.working := working_of_outsideCalls (outsideCalls_dropPair s x)
@[simp] theorem calls_dropBridge : (dropBridge x s).calls = s.calls := by unfold dropBridge; split <;> rfl
@[simp] theorem spurs_dropBridge : (dropBridge x s).spurs = s.spurs := by unfold dropBridge; split <;> rfl
@[simp] theorem mgmt_dropBridge : (dropBridge x s).mgmt = s.mgmt := by unfold dropBridge; split <;> rfl
@[simp] theorem working_dropBridge : (dropBridge x s).working = s.working := working_of_outsideCalls (outsideCalls_dropBridge s x)
theorem spursOnly_stopRinging : SpursOnly s (stopRinging x s) := by
  unfold stopRinging; split
  · exact spursOnly_ringOpt s _ _
  · rfl
@[simp] theorem call_setClearing (l : List RecId) (q : RecId) : (s.setCalls { s.calls with clearing := l }).call q = s.call q := rfl
theorem call_joinCleared : (joinCleared r c s).call r =
    { s.call r with state := .cleared, cause := some c, entry := some s.line.cycle, timer := some 0 } := by
  rw [joinCleared, call_setClearing, call_enterCall]
theorem call_joinCleared_ne {q : RecId} (ne : q ≠ r) : (joinCleared r c s).call q = s.call q := by
  rw [joinCleared, call_setClearing, call_enterCall_ne _ _ _ _ _ ne]
theorem outsideCalls_joinCleared : outsideCalls (joinCleared r c s) = outsideCalls s := by
  rw [joinCleared, outsideCalls_setClearing, outsideCalls_enterCall]
@[simp] theorem outsideCalls_stopRinging : outsideCalls (stopRinging x s) = outsideCalls s := by
  unfold stopRinging; split <;> simp
@[simp] theorem outsideCalls_clearCall : outsideCalls (clearCall r c s) = outsideCalls s := by
  cases used : (s.call r).inUse with
  | true =>
    rw [clearCall_inUse s r c used, outsideCalls_clearTones, outsideCalls_stopRinging, outsideCalls_dropBridge, outsideCalls_dropPair,
      outsideCalls_joinCleared]
  | false => rw [clearCall_not_inUse s r c used]
theorem handsetsOf_nodup : (handsetsOf x).Nodup := by
  unfold handsetsOf; split
  · next two =>
    refine (Option.toList_nodup _).append (Option.toList_nodup _) fun p origin dest => two.2 ?_
    rw [Option.mem_toList.mp origin, Option.mem_toList.mp dest]
  · simpa using Option.toList_nodup _

/-! ### Its records, its slots and what it sends -/

section
variable {s r} (inUse : (s.call r).inUse = true)
include inUse

theorem calls_clearCall : (clearCall r c s).calls = (joinCleared r c s).calls := by
  rw [clearCall_inUse s r c inUse, calls_clearTones, (spursOnly_stopRinging _ _).calls, calls_dropBridge, calls_dropPair]
theorem call_clearCall (q : RecId) : (clearCall r c s).call q = (joinCleared r c s).call q :=
  congrArg (fun k : Calls => k.recs.get q) (calls_clearCall c inUse)
theorem mgmt_clearCall : (clearCall r c s).mgmt = (joinCleared r c s).mgmt := by
  rw [clearCall_inUse s r c inUse, mgmt_clearTones, (spursOnly_stopRinging _ _).mgmt, mgmt_dropBridge, mgmt_dropPair]
theorem slots_clearCall : (clearCall r c s).slots = (dropBridge (s.call r) (dropPair (s.call r) (joinCleared r c s))).slots := by
  rw [clearCall_inUse s r c inUse, slots_clearTones, (spursOnly_stopRinging _ _).slots]
/-- R97: RING off goes to the spur that is rung, and then the tone of the cause to a handset of the call that is off hook. -/
theorem get_spurs_clearCall (p : SpurId) : (clearCall r c s).spurs.get p = (clearingSends (s.call r) c p s).spurs.get p := by
  generalize dropped : dropBridge (s.call r) (dropPair (s.call r) (joinCleared r c s)) = u
  have working : u.working = s.working := by rw [← dropped, working_dropBridge, working_dropPair]; rfl
  have spurs : u.spurs = s.spurs := by rw [← dropped, spurs_dropBridge, spurs_dropPair]; rfl
  have hooks : u.calls.hooks = s.calls.hooks := by rw [← dropped, calls_dropBridge, calls_dropPair]; rfl
  have ring : (stopRinging (s.call r) u).spurs.get p = (if (s.call r).state = .ringing ∧ rungSpur (s.call r) = some p
      then offer p (.ring false) s else s).spurs.get p := by
    unfold stopRinging
    by_cases ringing : (s.call r).state = .ringing
    · rw [if_pos ringing, get_spurs_ringOpt]
      simp only [ringing, true_and]
      split
      · exact get_spurs_offer_congr s p _ (by rw [spurs]) working
      · rw [spurs]
    · rw [if_neg ringing, if_neg fun both => ringing both.1, spurs]
  have ringOnly : SpursOnly s (if (s.call r).state = .ringing ∧ rungSpur (s.call r) = some p then offer p (.ring false) s else s) := by
    split
    · exact spursOnly_offer s p _
    · rfl
  have only := spursOnly_stopRinging u (s.call r)
  rw [clearCall_inUse s r c inUse, dropped, get_spurs_clearTones _ p c _ (handsetsOf_nodup _), only.calls, hooks]
  simp only [clearingSends]
  rw [ringOnly.calls]
  split
  · exact get_spurs_offer_congr _ p _ ring (only.working.trans (working.trans ringOnly.working.symm))
  · exact ring
/-- R97: what clearing an in-use record does. -/
theorem clearCall_cleared : CallCleared r c s (clearCall r c s) where
  record := (call_clearCall c inUse r).trans (call_joinCleared s r c)
  others q ne := (call_clearCall c inUse q).trans (call_joinCleared_ne s r c ne)
  order := by rw [calls_clearCall c inUse]; rfl
  marked := mgmt_clearCall c inUse
  pair far sl live hfar hslot := by
    rw [slots_clearCall c inUse, map_dropBridge, dropPair_live _ _ live hfar hslot]
    exact removePair_frees _ far sl
  bridge := by rw [slots_clearCall c inUse, bridge_dropBridge, bridge_dropPair]; rfl
  spurs p := get_spurs_clearCall c inUse p
  rest := by
    have frame := outsideCalls_clearCall s r c
    refine ⟨?_, counts_of_outsideCalls frame⟩
    have mgmt : (clearCall r c s).mgmt = { s.mgmt with holding := (clearCall r c s).mgmt.holding } := by
      rw [mgmt_clearCall c inUse]; rfl
    exact Eq.trans (frame_of_outsideCalls frame) (by rw [← mgmt])
end

/-- R97: a record that is not live has no slot, and is in no pair of the bridge. -/
theorem slots_clearCall_of_not_live (rest : (s.call r).live = false) : (clearCall r c s).slots = s.slots := by
  cases used : (s.call r).inUse with
  | true =>
    have apart : (s.call r).state ≠ .connected := fun joined => by simp [CallRec.live, joined] at rest
    rw [slots_clearCall c used, dropBridge_not_connected _ _ apart, dropPair_not_live _ _ rest]; rfl
  | false => rw [clearCall_not_inUse s r c used]
/-- R97: clearing frees owners and gives none. -/
theorem owners_clearCall {e : SlotIx} (c : ClearCause) :
    ((s.slots.map.get e).add = none → ((clearCall r c s).slots.map.get e).add = none) ∧
    ((s.slots.map.get e).drop = none → ((clearCall r c s).slots.map.get e).drop = none) := by
  obtain same | cleared := callPart_clearCall_cases s r c
  · exact ⟨(congrFun (congrArg CallPart.add same) e).trans, (congrFun (congrArg CallPart.drop same) e).trans⟩
  · refine ⟨fun free => ?_, fun free => ?_⟩
    · refine Option.eq_none_iff_forall_ne_some.mpr fun q owns => ?_
      have before := CallPart.add_of_unpair (callPart s) r ((congrFun (congrArg CallPart.add cleared) e).symm.trans owns)
      exact absurd (free.symm.trans before) (by simp)
    · refine Option.eq_none_iff_forall_ne_some.mpr fun q owns => ?_
      have before := CallPart.drop_of_unpair (callPart s) r ((congrFun (congrArg CallPart.drop cleared) e).symm.trans owns)
      exact absurd (free.symm.trans before) (by simp)
end

/-! ## All that meet a test cleared -/

section
variable (test : CallRec → Bool) (c : ClearCause) (s : State)

theorem outsideCalls_clearTurn (r : RecId) : outsideCalls (clearTurn test c r s) = outsideCalls s := by
  obtain e | e := clearTurn_cases test c (s := s) r
  · rw [e]
  · rw [e, outsideCalls_clearCall]
@[simp] theorem outsideCalls_clearWhere : outsideCalls (clearWhere test c s) = outsideCalls s :=
  forEach_keeps outsideCalls 16 (clearTurn test c) (fun r s => outsideCalls_clearTurn test c s r) s
theorem owners_clearTurn (r : RecId) {e : SlotIx} :
    ((s.slots.map.get e).add = none → ((clearTurn test c r s).slots.map.get e).add = none) ∧
    ((s.slots.map.get e).drop = none → ((clearTurn test c r s).slots.map.get e).drop = none) := by
  obtain e | e := clearTurn_cases test c (s := s) r
  · rw [e]; exact ⟨id, id⟩
  · rw [e]; exact owners_clearCall s r c
theorem call_clearTurn_ne {r q : RecId} (ne : q ≠ r) : (clearTurn test c r s).call q = s.call q := by
  obtain e | e := clearTurn_cases test c (s := s) r
  · rw [e]
  · rw [e]
    cases used : (s.call r).inUse with
    | true => exact (clearCall_cleared c used).others q ne
    | false => rw [clearCall_not_inUse s r c used]

variable {test s} (inUse : ∀ x, test x = true → x.inUse = true)
include inUse

/-- A record that meets the test is cleared, and its pair of entries is free. -/
theorem call_clearWhere {r : RecId} (meets : test (s.call r) = true) : (clearWhere test c s).call r =
      { s.call r with state := .cleared, cause := some c, entry := some s.line.cycle, timer := some 0 } ∧
    ∀ far sl, (s.call r).live = true → (s.call r).far = some far → (s.call r).slot = some sl →
      ((clearWhere test c s).slots.map.get (addIx far sl)).add = none ∧
      ((clearWhere test c s).slots.map.get (dropIx far sl)).drop = none := by
  rw [clearWhere_eq]
  refine forEach_turn (i := r) (clearTurn test c) (Before := fun t => t.call r = s.call r ∧ t.line = s.line)
    (After := fun t => t.call r = { s.call r with state := .cleared, cause := some c, entry := some s.line.cycle, timer := some 0 } ∧
      ∀ far sl, (s.call r).live = true → (s.call r).far = some far → (s.call r).slot = some sl →
        (t.slots.map.get (addIx far sl)).add = none ∧ (t.slots.map.get (dropIx far sl)).drop = none)
    (fun q t ne => ?_) (fun t => ?_) (fun q t ne => ?_) ⟨rfl, rfl⟩
  · rintro ⟨record, line⟩
    exact ⟨(call_clearTurn_ne test c t (Ne.symm ne)).trans record,
      (line_of_outsideCalls (outsideCalls_clearTurn test c t q)).trans line⟩
  · rintro ⟨record, line⟩
    have now : test (t.call r) = true := record.symm ▸ meets
    rw [clearTurn_meets test c now]
    have cleared := clearCall_cleared c (inUse _ now)
    have done := cleared.record
    have pair := cleared.pair
    rw [record, line] at done
    rw [record] at pair
    exact ⟨done, pair⟩
  · rintro ⟨record, pair⟩
    refine ⟨(call_clearTurn_ne test c t (Ne.symm ne)).trans record, fun far sl live hfar hslot => ?_⟩
    obtain ⟨add, drop⟩ := pair far sl live hfar hslot
    exact ⟨(owners_clearTurn test c t q).1 add, (owners_clearTurn test c t q).2 drop⟩
omit inUse in
/-- A record that does not meet the test stands. -/
theorem call_clearWhere_of_not {r : RecId} (fails : test (s.call r) = false) : (clearWhere test c s).call r = s.call r := by
  rw [clearWhere_eq]
  refine forEach_turn (i := r) (clearTurn test c) (Before := fun t => t.call r = s.call r) (After := fun t => t.call r = s.call r)
    (fun q t ne h => (call_clearTurn_ne test c t (Ne.symm ne)).trans h) (fun t h => ?_)
    (fun q t ne h => (call_clearTurn_ne test c t (Ne.symm ne)).trans h) rfl
  exact (congrArg (State.call · r) (clearTurn_fails test c (h.symm ▸ fails))).trans h
/-- R97: the bridge loses the pairs of the records that are cleared. -/
theorem bridge_clearWhere : (clearWhere test c s).slots.bridge =
    s.slots.bridge.filter fun b => !s.calls.recs.anyIx fun _ x => test x && bridges b x := by
  have walked (l : List RecId) (once : l.Nodup) (t : State) (stand : ∀ r ∈ l, t.call r = s.call r) :
      (l.foldl (fun t r => clearTurn test c r t) t).slots.bridge =
        t.slots.bridge.filter fun b => !l.any fun r => test (s.call r) && bridges b (s.call r) := by
    induction l generalizing t with
    | nil => simp
    | cons r l ih =>
      obtain ⟨fresh, once⟩ := List.nodup_cons.mp once
      have own := stand r List.mem_cons_self
      have rest (q : RecId) (mem : q ∈ l) : (clearTurn test c r t).call q = s.call q := by
        have ne : q ≠ r := fun own => fresh (own ▸ mem)
        exact (call_clearTurn_ne test c t ne).trans (stand q (List.mem_cons_of_mem r mem))
      have turn : (clearTurn test c r t).slots.bridge = t.slots.bridge.filter fun b => !(test (s.call r) && bridges b (s.call r)) := by
        cases meets : test (s.call r) with
        | true =>
          have now : test (t.call r) = true := own.symm ▸ meets
          rw [clearTurn_meets test c now, (clearCall_cleared c (inUse _ now)).bridge, own]
          simp
        | false => rw [clearTurn_fails test c (own.symm ▸ meets)]; simp
      rw [List.foldl_cons, ih once _ rest, turn, List.filter_filter]
      simp only [List.any_cons, Bool.not_or, Bool.and_comm]
  exact walked _ (List.nodup_finRange 16) s fun _ _ => rfl
omit inUse in
/-- With no record that meets the test nothing is done. -/
theorem clearWhere_none (none : ∀ r, test (s.call r) = false) : clearWhere test c s = s :=
  forEach_invariant (· = s) 16 (clearTurn test c) (fun r t same => by rw [same]; exact clearTurn_fails test c (none r)) s rfl
/-- With one record that meets the test that one is cleared. -/
theorem clearWhere_one {r : RecId} (only : ∀ q, test (s.call q) = true ↔ q = r) : clearWhere test c s = clearCall r c s := by
  have meets := (only r).mpr rfl
  have fails {q : RecId} (ne : q ≠ r) : test (s.call q) = false := Bool.eq_false_iff.mpr fun other => ne ((only q).mp other)
  rw [clearWhere_eq, forEach_only (i := r) _ (fun q ne => clearTurn_fails test c (fails ne)) fun q ne => ?_,
    clearTurn_meets test c meets]
  rw [clearTurn_meets test c meets]
  exact clearTurn_fails test c (by rw [(clearCall_cleared c (inUse _ meets)).others q ne]; exact fails ne)
end

end Sys2Proof.Safety
end

section
/-! PROOFS. The family of the calls: a handset lifted and put down (O30, O31, O32). -/

namespace Sys2Proof.Safety
open Sys2Proof.Machine

/-! ## A message from an UP head (R164, R168) -/

section
variable {s t : State} {p : SpurId}

/-- R168: a message that fits the type of its UP spur is delivered. -/
theorem headMessage_up {ty : SpurType} {m : HeadMsg} (up : s.spurUpAs ty p = true) (fits : m.fits ty = true) :
    headMessage p m s = deliver p m (heard p s) := by
  obtain ⟨state, _⟩ := Bool.and_eq_true_iff.mp up
  obtain ⟨heardState, heardType⟩ := Bool.and_eq_true_iff.mp ((heard_spurUpAs ty p p s).trans up)
  have notOff : (s.spurs.get p).state ≠ .off := by simp [beq_iff_eq.mp state]
  rw [headMessage, if_neg notOff, validFrame_up state, takeMsg, if_pos (by simp [heardState, beq_iff_eq.mp heardType, fits])]
/-- A message that hands no change over leaves the Action Unit nothing to take. -/
theorem settled_headMessage {ty : SpurType} {m : HeadMsg} (powered : s.powered = true) (up : s.spurUpAs ty p = true)
    (fits : m.fits ty = true) (delivers : deliver p m (heard p s) = t) (idle : NoNotices t) :
    settled (headMessage p m) s = .next t := by
  rw [settled_powered _ powered, headMessage_up up fits, delivers, settle_of_noNotices idle]

theorem callsFrame_heard : CallsFrame s (heard p s) := rfl
theorem callsFrame_setHook (b : Bool) : CallsFrame s (s.setHook p b) := rfl
theorem CallsFrame.action (h : CallsFrame s t) : t.action = s.action := (congrArg State.action h :)
theorem CallsFrame.noNotices (h : CallsFrame s t) (idle : NoNotices s) : NoNotices t := by
  rw [NoNotices, h.action]; exact idle
end

/-! ## Taking a record (R79, R82, R99) -/

section
variable (s : State) (r q : RecId)

/-- R79, R99: the record that is taken leaves CLEARED, and leaves IDLE with its number. -/
def numbered (r : RecId) (s : State) : State := numberCall r (reclaim r s)

theorem reclaim_cases : reclaim r s = s ∨ reclaim r s = freeCall r (s.withdraw (.call r)) := by
  unfold reclaim; split
  · exact .inr rfl
  · exact .inl rfl
theorem counter_reclaim : (reclaim r s).calls.counter = s.calls.counter := by
  obtain e | e := reclaim_cases s r
  · rw [e]
  · rw [e]; rfl
theorem hooks_reclaim : (reclaim r s).calls.hooks = s.calls.hooks := by
  obtain e | e := reclaim_cases s r
  · rw [e]
  · rw [e]; rfl
theorem call_reclaim_ne (ne : q ≠ r) : (reclaim r s).call q = s.call q := by
  obtain e | e := reclaim_cases s r
  · rw [e]
  · rw [e]; exact State.setCall_call_ne _ _ ne
theorem slots_reclaim : (reclaim r s).slots = s.slots := by
  obtain e | e := reclaim_cases s r
  · rw [e]
  · rw [e]; rfl
theorem spurs_reclaim : (reclaim r s).spurs = s.spurs := by
  obtain e | e := reclaim_cases s r
  · rw [e]
  · rw [e]; rfl
theorem callsFrame_reclaim : CallsFrame s (reclaim r s) := by
  obtain e | e := reclaim_cases s r
  · rw [e]; rfl
  · rw [e]; rfl

theorem callNo_numbered : ((numbered r s).call r).callNo = some s.calls.counter := by
  rw [← counter_reclaim s r]
  exact congrArg CallRec.callNo (State.setCall_call (reclaim r s) r _)
theorem call_numbered_ne (ne : q ≠ r) : (numbered r s).call q = s.call q :=
  (State.setCall_call_ne (reclaim r s) _ ne).trans (call_reclaim_ne s r q ne)
theorem counter_numbered : (numbered r s).calls.counter = if s.calls.counter = 255 then 1 else s.calls.counter + 1 := by
  rw [← counter_reclaim s r]; rfl
theorem hooks_numbered : (numbered r s).calls.hooks = s.calls.hooks := hooks_reclaim s r
theorem slots_numbered : (numbered r s).slots = s.slots := slots_reclaim s r
theorem spurs_numbered : (numbered r s).spurs = s.spurs := spurs_reclaim s r
theorem callsFrame_numbered : CallsFrame s (numbered r s) := (callsFrame_reclaim s r).trans rfl
theorem line_numbered : (numbered r s).line = s.line := (congrArg State.line (callsFrame_numbered s r) :)
theorem working_numbered : (numbered r s).working = s.working := (congrArg State.working (callsFrame_numbered s r) :)
end

/-! ## OFFHOOK (R82, R85) -/

section
variable {s : State} {p : SpurId}

/-- R82: the handset is heard, and is off hook. -/
def lifted (p : SpurId) (s : State) : State := (heard p s).setHook p true
@[simp] theorem call_lifted (r : RecId) : (lifted p s).call r = s.call r := rfl
theorem callsFrame_lifted : CallsFrame s (lifted p s) := rfl
theorem spurUpAs_lifted (up : s.spurUpAs .voice p = true) : (lifted p s).spurUpAs .voice p = true :=
  (heard_spurUpAs .voice p p s).trans up
theorem deliver_offhook_off (off : s.calls.hooks.get p = true) : deliver p .offhook (heard p s) = heard p s := if_pos off
theorem deliver_offhook_on (on : s.calls.hooks.get p = false) : deliver p .offhook (heard p s) = liftHandset p (lifted p s) :=
  if_neg (Bool.eq_false_iff.mp on)
/-- What a lifted handset's spur is offered stands beside what the frame left there. -/
theorem spurs_offer_lifted {u : State} (m : OutMsg) (up : s.spurUpAs .voice p = true) (spurs : u.spurs = (lifted p s).spurs)
    (working : u.working = s.working) :
    (offer p m u).spurs = s.spurs.put p (offerTo .voice m ((heard p s).spurs.get p)) := by
  have uUp : u.spurUpAs .voice p = true := (spurUpAs_congr (lifted p s) p .voice spurs working).trans (spurUpAs_lifted up)
  rw [spurs_offer_up u p m uUp, spurs]
  exact Tab.put_put _ _ _ _

/-- R82, R85: the fields of a record that is taken for a handset. -/
def dialling (cfg : SpurCfg) (p : SpurId) (x : CallRec) : CallRec :=
  { x with
    role := some .origin, origin := some p, refuge := cfg.refuge, digits := []
    priority := some (if cfg.refuge then 0 else cfg.priority) }
theorem startCall_some {r : RecId} (taken : s.recToTake = some r) :
    startCall p s = tone p .dial (enterCall r .collecting (dialling (s.working.spurs.get p) p) (numbered r s)) := by
  simp only [startCall, taken]
  rfl
theorem call_startCall {r : RecId} (taken : s.recToTake = some r) : (startCall p s).call r =
    { dialling (s.working.spurs.get p) p ((numbered r s).call r) with
      state := .collecting, entry := some s.line.cycle, timer := some 0 } := by
  rw [startCall_some taken, call_tone, call_enterCall, line_numbered]
theorem call_startCall_ne {r q : RecId} (taken : s.recToTake = some r) (ne : q ≠ r) : (startCall p s).call q = s.call q := by
  rw [startCall_some taken, call_tone, call_enterCall_ne _ _ _ _ _ ne, call_numbered_ne _ _ _ ne]
theorem counter_startCall {r : RecId} (taken : s.recToTake = some r) :
    (startCall p s).calls.counter = if s.calls.counter = 255 then 1 else s.calls.counter + 1 := by
  rw [startCall_some taken, calls_tone, counter_enterCall, counter_numbered]
theorem hooks_startCall {r : RecId} (taken : s.recToTake = some r) : (startCall p s).calls.hooks = s.calls.hooks := by
  rw [startCall_some taken, calls_tone, hooks_enterCall, hooks_numbered]
theorem slots_startCall {r : RecId} (taken : s.recToTake = some r) : (startCall p s).slots = s.slots := by
  rw [startCall_some taken, slots_tone, slots_enterCall, slots_numbered]
theorem callsFrame_startCall {r : RecId} (taken : s.recToTake = some r) : CallsFrame s (startCall p s) := by
  rw [startCall_some taken]
  refine (callsFrame_numbered s r).trans (frame_of_outsideCalls ?_)
  rw [outsideCalls_tone, outsideCalls_enterCall]
theorem spurs_startCall {r : RecId} (taken : s.recToTake = some r) : (startCall p s).spurs = (offer p (.tone .dial) s).spurs := by
  rw [startCall_some taken, tone]
  refine spurs_offer_congr s p _ ?_ ?_
  · rw [spurs_enterCall, spurs_numbered]
  · rw [working_enterCall, working_numbered]
theorem startCall_none (full : s.recToTake = none) : startCall p s = countRefused (tone p .congestion s) := by
  simp only [startCall, full]
theorem liftHandset_start (dest : s.ringingDestination p = none) (own : s.ringingLocal p = none) :
    liftHandset p s = startCall p s := by simp only [liftHandset, dest, own]
end

/-- Settles O30: by the cases of the taking of a record. -/
theorem offhookTakesARecord : Obligations.OffhookTakesARecord := by
  intro p s powered idle up
  refine ⟨fun off => settled_headMessage powered up rfl (deliver_offhook_off off) idle, fun on dest own => ?_⟩
  have starts : deliver p .offhook (heard p s) = startCall p (lifted p s) :=
    (deliver_offhook_on on).trans (liftHandset_start dest own)
  refine ⟨fun r taken => ?_, fun full => ?_⟩
  · have taken : (lifted p s).recToTake = some r := taken
    have frame : CallsFrame s (startCall p (lifted p s)) := callsFrame_lifted.trans (callsFrame_startCall taken)
    refine ⟨_, settled_headMessage powered up rfl starts (frame.noNotices idle), ?_⟩
    rw [call_startCall taken]
    exact ⟨rfl, callNo_numbered (lifted p s) r, rfl, rfl, rfl, rfl, rfl, rfl, fun q ne => call_startCall_ne taken ne,
      counter_startCall taken, hooks_startCall taken, (spurs_startCall taken).trans (spurs_offer_lifted _ up rfl rfl),
      frame.sameSlots (slots_startCall taken)⟩
  · have refused := starts.trans (startCall_none (s := lifted p s) full)
    have toned : tone p .congestion (lifted p s) = { lifted p s with
        spurs := s.spurs.put p (offerTo .voice (.tone .congestion) ((heard p s).spurs.get p)) } := by
      rw [← spurs_offer_lifted (.tone .congestion) up rfl rfl]
      exact spursOnly_tone _ _ _
    rw [toned] at refused
    exact settled_headMessage powered up rfl refused idle

/-! ## The answer to a call that rings (R73, R75, R82) -/

/-- R73: the continuity count of the drop entry that a record's far side and slot give starts at 0. -/
def startOwn (x : CallRec) (s : State) : State :=
  match x.far, x.slot with | some far, some sl => startContinuity far sl s | _, _ => s

section
variable (s : State) (x : CallRec) (r : RecId) (p : SpurId)

theorem startOwn_cases : startOwn x s = s ∨ ∃ far sl, startOwn x s = startContinuity far sl s := by
  unfold startOwn; split
  · exact .inr ⟨_, _, rfl⟩
  · exact .inl rfl
theorem startOwn_pair {far : Side} {sl : Slot} (hfar : x.far = some far) (hslot : x.slot = some sl) :
    startOwn x s = startContinuity far sl s := by simp [startOwn, hfar, hslot]
@[simp] theorem calls_startOwn : (startOwn x s).calls = s.calls := by
  obtain e | ⟨far, sl, e⟩ := startOwn_cases s x
  · rw [e]
  · rw [e]; rfl
@[simp] theorem call_startOwn : (startOwn x s).call r = s.call r := congrArg (fun k : Calls => k.recs.get r) (calls_startOwn s x)
@[simp] theorem spurs_startOwn : (startOwn x s).spurs = s.spurs := by
  obtain e | ⟨far, sl, e⟩ := startOwn_cases s x
  · rw [e]
  · rw [e]; rfl
@[simp] theorem mgmt_startOwn : (startOwn x s).mgmt = s.mgmt := by
  obtain e | ⟨far, sl, e⟩ := startOwn_cases s x
  · rw [e]
  · rw [e]; rfl
@[simp] theorem bridge_startOwn : (startOwn x s).slots.bridge = s.slots.bridge := by
  obtain e | ⟨far, sl, e⟩ := startOwn_cases s x
  · rw [e]
  · rw [e]; rfl
@[simp] theorem outsideCalls_startOwn : outsideCalls (startOwn x s) = outsideCalls s := by
  obtain e | ⟨far, sl, e⟩ := startOwn_cases s x
  · rw [e]
  · rw [e]; rfl
@[simp] theorem working_startOwn : (startOwn x s).working = s.working := working_of_outsideCalls (outsideCalls_startOwn s x)
theorem continuity_startOwn {far : Side} {sl : Slot} (hfar : x.far = some far) (hslot : x.slot = some sl) :
    ((startOwn x s).slots.map.get (dropIx far sl)).continuity = 0 := by
  rw [startOwn_pair s x hfar hslot]; exact continuity_startContinuity s far sl

theorem answerDestination_eq :
    answerDestination r p s = tone p .silent (offer p (.ring false) (startOwn (s.call r) (enterCall r .connected id s))) := rfl
@[simp] theorem outsideCalls_answerDestination : outsideCalls (answerDestination r p s) = outsideCalls s := by
  simp [answerDestination_eq]
@[simp] theorem calls_answerDestination : (answerDestination r p s).calls = (enterCall r .connected id s).calls := by
  simp [answerDestination_eq]

/-- R82: RING off and the tones of a LOCAL call that is answered. -/
def localTones (r : RecId) (p : SpurId) (s : State) : State :=
  tone p .silent (toneOpt (s.call r).origin .silent (offer p (.ring false) (enterCall r .connected id s)))
theorem answerLocal_cases : answerLocal r p s = localTones r p s ∨ ∃ b, answerLocal r p s =
    (localTones r p s).setSlots { (localTones r p s).slots with bridge := b } := by
  simp only [answerLocal]; split
  · exact .inr ⟨_, rfl⟩
  · exact .inl rfl
theorem bridge_answerLocal {o : SpurId} (origin : (s.call r).origin = some o) :
    (answerLocal r p s).slots.bridge = s.slots.bridge ++ [(o, p)] := by
  simp [answerLocal, origin]
@[simp] theorem outsideCalls_localTones : outsideCalls (localTones r p s) = outsideCalls s := by simp [localTones]
@[simp] theorem calls_localTones : (localTones r p s).calls = (enterCall r .connected id s).calls := by simp [localTones]
theorem map_answerLocal : (answerLocal r p s).slots.map = s.slots.map := by
  have tones : (localTones r p s).slots.map = s.slots.map := by simp [localTones]
  obtain e | ⟨b, e⟩ := answerLocal_cases s r p
  · rw [e, tones]
  · rw [e]; exact tones
theorem outsideCalls_answerLocal : outsideCalls (answerLocal r p s) = outsideCalls s := by
  obtain e | ⟨b, e⟩ := answerLocal_cases s r p
  · rw [e, outsideCalls_localTones]
  · rw [e, outsideCalls_setBridge, outsideCalls_localTones]
theorem calls_answerLocal : (answerLocal r p s).calls = (enterCall r .connected id s).calls := by
  obtain e | ⟨b, e⟩ := answerLocal_cases s r p
  · rw [e, calls_localTones]
  · rw [e]; exact calls_localTones s r p
theorem spurs_answerLocal : (answerLocal r p s).spurs = (localTones r p s).spurs := by
  obtain e | ⟨b, e⟩ := answerLocal_cases s r p
  · rw [e]
  · rw [e]; rfl
end

/-! ### The answer of a lifted handset -/

section
variable {s : State} {p : SpurId} {r : RecId}

/-- R82: the record that is answered is CONNECTED, and no other changes. -/
theorem answered_of_calls {t : State} (calls : t.calls = (enterCall r .connected id (lifted p s)).calls) :
    t.call r = { s.call r with state := .connected, entry := some s.line.cycle, timer := some 0 } ∧
    (∀ q, q ≠ r → t.call q = s.call q) ∧ t.calls.hooks = s.calls.hooks.put p true := by
  have record (q : RecId) : t.call q = (enterCall r .connected id (lifted p s)).call q :=
    congrArg (fun k : Calls => k.recs.get q) calls
  refine ⟨?_, fun q ne => ?_, ?_⟩
  · rw [record, call_enterCall]; rfl
  · rw [record, call_enterCall_ne _ _ _ _ _ ne, call_lifted]
  · rw [calls, hooks_enterCall]; rfl
theorem spurs_answerDestination (up : s.spurUpAs .voice p = true) : (answerDestination r p (lifted p s)).spurs =
    s.spurs.put p (offerTo .voice (.tone .silent) (offerTo .voice (.ring false) ((heard p s).spurs.get p))) := by
  rw [answerDestination_eq, tone]
  generalize started : startOwn ((lifted p s).call r) (enterCall r .connected id (lifted p s)) = u
  have spurs : u.spurs = (lifted p s).spurs := by rw [← started, spurs_startOwn, spurs_enterCall]
  have working : u.working = s.working := by rw [← started, working_startOwn, working_enterCall]; rfl
  have uUp : u.spurUpAs .voice p = true := (spurUpAs_congr (lifted p s) p .voice spurs working).trans (spurUpAs_lifted up)
  have stillUp : (offer p (.ring false) u).spurUpAs .voice p = true := (spurUpAs_offer u p p (.ring false) .voice).trans uUp
  rw [spurs_offer_up _ p (.tone .silent) stillUp, spurs_offer_lifted (.ring false) up spurs working, Tab.put_put, Tab.get_put_same]
theorem spurs_localTones : (localTones r p (lifted p s)).spurs =
    (tone p .silent (toneOpt (s.call r).origin .silent (offer p (.ring false) (heard p s)))).spurs := by
  have ringOff : (offer p (.ring false) (enterCall r .connected id (lifted p s))).spurs = (offer p (.ring false) (heard p s)).spurs :=
    spurs_offer_congr (heard p s) p _ (spurs_enterCall ..) (working_enterCall ..)
  have working :
      (offer p (.ring false) (enterCall r .connected id (lifted p s))).working = (offer p (.ring false) (heard p s)).working := by
    rw [working_offer, working_offer, working_enterCall]; rfl
  rw [localTones, call_lifted, tone, tone]
  refine spurs_offer_congr _ p _ (spurs_toneOpt_congr _ .silent _ ringOff working) ?_
  rw [working_toneOpt, working_toneOpt, working]
end

/-- Settles O31: by the role of the record that rings the handset. -/
theorem offhookAnswersTheCallThatRings : Obligations.OffhookAnswersTheCallThatRings := by
  intro p r s powered idle up on rings
  have lifts := deliver_offhook_on on
  obtain dest | ⟨none, own⟩ := rings
  · have answers : liftHandset p (lifted p s) = answerDestination r p (lifted p s) := by
      have found : (lifted p s).ringingDestination p = some r := dest
      simp only [liftHandset, found]
    have frame : CallsFrame s (answerDestination r p (lifted p s)) :=
      callsFrame_lifted.trans (frame_of_outsideCalls (outsideCalls_answerDestination _ r p))
    obtain ⟨record, others, hooks⟩ := answered_of_calls (calls_answerDestination (lifted p s) r p)
    refine ⟨_, settled_headMessage powered up rfl (lifts.trans answers) (frame.noNotices idle), record, others, hooks,
      fun _ => ⟨spurs_answerDestination up, ?_, fun far sl hfar hslot => ?_⟩, fun none => by simp [none] at dest, frame⟩
    · rw [answerDestination_eq, slots_tone, slots_offer, bridge_startOwn]; rfl
    · rw [answerDestination_eq, slots_tone, slots_offer]
      exact continuity_startOwn _ _ hfar hslot
  · have answers : liftHandset p (lifted p s) = answerLocal r p (lifted p s) := by
      have unfound : (lifted p s).ringingDestination p = Option.none := none
      have found : (lifted p s).ringingLocal p = some r := own
      simp only [liftHandset, unfound, found]
    have frame : CallsFrame s (answerLocal r p (lifted p s)) :=
      callsFrame_lifted.trans (frame_of_outsideCalls (outsideCalls_answerLocal _ r p))
    obtain ⟨record, others, hooks⟩ := answered_of_calls (calls_answerLocal (lifted p s) r p)
    exact ⟨_, settled_headMessage powered up rfl (lifts.trans answers) (frame.noNotices idle), record, others, hooks,
      fun dest => by simp [none] at dest, fun _ => ⟨map_answerLocal (lifted p s) r p, (spurs_answerLocal _ r p).trans spurs_localTones,
        fun o origin => bridge_answerLocal (lifted p s) r p origin⟩, frame⟩

/-! ## ONHOOK (R83) -/

/-- R83: the handset is heard and on hook, and is sent TONE NONE. -/
def putDown (p : SpurId) (s : State) : State := tone p .silent ((heard p s).setHook p false)

theorem inUse_of_endsWith (p : SpurId) (x : CallRec) (ends : endsWith p x = true) : x.inUse = true := (Bool.and_eq_true_iff.mp ends).1

/-- Settles O32: the handset put down, and then all that `endsWith` meets cleared. -/
theorem onhookClearsTheHandsetsCalls : Obligations.OnhookClearsTheHandsetsCalls := by
  intro p s powered idle up
  refine ⟨fun on => ?_, fun off => ?_⟩
  · have stands : deliver p .onhook (heard p s) = heard p s := if_neg (Bool.eq_false_iff.mp on)
    exact settled_headMessage powered up rfl stands idle
  · have clears : deliver p .onhook (heard p s) = clearWhere (endsWith p) .normal (putDown p s) := if_pos off
    have call (r : RecId) : (putDown p s).call r = s.call r := call_tone _ p .silent r
    have only : SpursOnly ((heard p s).setHook p false) (putDown p s) := spursOnly_tone _ p .silent
    have outside := outsideCalls_clearWhere (endsWith p) .normal (putDown p s)
    have inUse := inUse_of_endsWith p
    have frame : CallsFrame s (clearWhere (endsWith p) .normal (putDown p s)) :=
      callsFrame_heard.trans ((callsFrame_setHook false).trans (frame_of_outsideCalls (outside.trans (outsideCalls_tone _ p _))))
    obtain ⟨hooks, counter, refused⟩ := counts_of_outsideCalls outside
    refine ⟨_, settled_headMessage powered up rfl clears (frame.noNotices idle), ?_, fun r ends => ?_, fun r stays => ?_, ?_,
      ⟨fun none => ?_, fun r one q => ?_⟩, ?_, ?_, frame⟩
    · rw [hooks, only.calls]; rfl
    · have cleared := call_clearWhere .normal inUse (s := putDown p s) (r := r) (by rw [call]; exact ends)
      rw [call, only.line] at cleared
      exact cleared
    · rw [call_clearWhere_of_not .normal (by rw [call]; exact stays), call]
    · rw [bridge_clearWhere .normal inUse, only.calls, only.slots]; rfl
    · rw [clearWhere_none .normal fun r => by rw [call]; exact none r]; rfl
    · rw [clearWhere_one .normal inUse fun q => by rw [call]; exact one q,
        get_spurs_clearCall .normal (by rw [call]; exact inUse _ ((one r).mpr rfl)), call]
      rfl
    · rw [counter, only.calls]; rfl
    · rw [refused, only.calls]; rfl

end Sys2Proof.Safety
end

section
/-! PROOFS. The family of the calls: digits, the admission test, and the limits of a record's states (O33, O34, O35). -/

namespace Sys2Proof.Safety
open Sys2Proof.Machine

/-! ## What reaches one record alone -/

/-- `CallAlone` (`Alone.callAlone`), as each operation on a record shows it. -/
structure Alone (r : RecId) (s t : State) : Prop where
  others  : ∀ q, q ≠ r → t.call q = s.call q
  slots   : t.slots = s.slots
  outside : outsideCalls t = outsideCalls s

namespace Alone
variable {r : RecId} {s t u : State}
theorem refl (r : RecId) (s : State) : Alone r s s := ⟨fun _ _ => rfl, rfl, rfl⟩
theorem trans (h : Alone r s t) (k : Alone r t u) : Alone r s u :=
  ⟨fun q ne => (k.others q ne).trans (h.others q ne), k.slots.trans h.slots, k.outside.trans h.outside⟩
theorem callAlone (h : Alone r s t) : CallAlone r s t where
  others := h.others
  rest := ⟨(frame_of_outsideCalls h.outside).sameSlots h.slots, counts_of_outsideCalls h.outside⟩
  spurs := get_spurs_of_outsideCalls h.outside
theorem line (h : Alone r s t) : t.line = s.line := line_of_outsideCalls h.outside
theorem level (h : Alone r s t) : t.level = s.level := level_of_outsideCalls h.outside
theorem working (h : Alone r s t) : t.working = s.working := working_of_outsideCalls h.outside
theorem noNotices (h : Alone r s t) (idle : NoNotices s) : NoNotices t := noNotices_of_outsideCalls h.outside idle
end Alone

section
variable (r : RecId) (s : State)

theorem alone_setCall (x : CallRec) : Alone r s (s.setCall r x) := ⟨fun _ ne => State.setCall_call_ne s x ne, rfl, rfl⟩
theorem alone_enterCall (st : CallState) (f : CallRec → CallRec) : Alone r s (enterCall r st f s) :=
  ⟨fun q ne => call_enterCall_ne s r q st f ne, rfl, rfl⟩
theorem alone_offer (p : SpurId) (m : OutMsg) : Alone r s (offer p m s) :=
  ⟨fun q _ => call_offer s p m q, slots_offer s p m, outsideCalls_offer s p m⟩
theorem alone_tone (p : SpurId) (a : Tone) : Alone r s (tone p a s) := alone_offer r s p _
theorem alone_toneOpt (o : Option SpurId) (a : Tone) : Alone r s (toneOpt o a s) :=
  ⟨fun q _ => call_toneOpt s a o q, slots_toneOpt s a o, outsideCalls_toneOpt s o a⟩
theorem alone_clearCall (c : ClearCause) (rest : (s.call r).live = false) : Alone r s (clearCall r c s) where
  others q ne := by
    cases used : (s.call r).inUse with
    | true => exact (clearCall_cleared c used).others q ne
    | false => rw [clearCall_not_inUse s r c used]
  slots := slots_clearCall_of_not_live s r c rest
  outside := outsideCalls_clearCall s r c
end

/-! ### What the test of admission reads stands -/

theorem spurUpAs_of_outsideCalls {s t : State} (outside : outsideCalls t = outsideCalls s) (ty : SpurType) (p : SpurId) :
    t.spurUpAs ty p = s.spurUpAs ty p := by
  have state : (t.spurs.get p).state = (s.spurs.get p).state := (congrArg Spur.state (get_spurs_of_outsideCalls outside p) :)
  rw [State.spurUpAs, State.spurUp, state, spurType_congr s p (working_of_outsideCalls outside)]; rfl
/-- R88: the record itself does not make a handset busy for its own ring step. -/
theorem Alone.ringBusy {r : RecId} {s t : State} (h : Alone r s t) (d : SpurId) : t.ringBusy r d = s.ringBusy r d := by
  have hooks := (counts_of_outsideCalls h.outside).1
  rw [State.ringBusy, hooks, State.ringBusy, Tab.anyIx, Tab.anyIx]
  refine congrArg _ (congrArg (List.any (List.finRange 16)) (funext fun q => ?_))
  by_cases own : q = r
  · simp [own]
  · have stands : t.calls.recs.get q = s.calls.recs.get q := h.others q own
    rw [stands]

/-! ## Admission of one record (R87, R88) -/

/-- A record in a state, otherwise as it was, whose state timer starts. -/
def entered (st : CallState) (cycle : Nat) (x : CallRec) : CallRec := { x with state := st, entry := some cycle, timer := some 0 }
/-- `y` is the record `x` but for its state, with what stands beside it. -/
def Progressed (x y : CallRec) : Prop := y = { x with state := y.state, entry := y.entry, timer := y.timer, cause := y.cause }

namespace Progressed
variable {x y : CallRec} (h : Progressed x y)
include h
theorem role : y.role = x.role := (congrArg CallRec.role h :)
theorem dest : y.dest = x.dest := (congrArg CallRec.dest h :)
theorem priority : y.priority = x.priority := (congrArg CallRec.priority h :)
theorem digits : y.digits = x.digits := (congrArg CallRec.digits h :)
theorem dialled : y.dialled = x.dialled := (congrArg CallRec.dialled h :)
end Progressed

section
variable {s : State} {r : RecId}

/-- R97: a record that is in use is cleared with its fields as they were. -/
theorem call_clearCall_own (c : ClearCause) (used : (s.call r).inUse = true) :
    (clearCall r c s).call r = { entered .cleared s.line.cycle (s.call r) with cause := some c } := (clearCall_cleared c used).record
theorem progressed_clearCall (c : ClearCause) : Progressed (s.call r) ((clearCall r c s).call r) := by
  cases used : (s.call r).inUse with
  | true => rw [call_clearCall_own c used]; rfl
  | false => rw [clearCall_not_inUse s r c used]; rfl

/-! ### The local ring step (R88) -/

section
variable {d : SpurId} (dest : (s.call r).dest = some d)
include dest

theorem ringStep_busy (busy : (s.call r).origin = some d ∨ s.spurUpAs .voice d = true ∧ s.ringBusy r d = true) :
    ringStep r s = clearCall r .busy s := by
  simp only [ringStep, dest]
  obtain own | ⟨up, busy⟩ := busy
  · simp [own]
  · simp [up, busy]
theorem ringStep_congestion (other : (s.call r).origin ≠ some d) (down : s.spurUpAs .voice d = false) :
    ringStep r s = clearCall r .congestion s := by
  simp [ringStep, dest, other, down]
theorem ringStep_rings (other : (s.call r).origin ≠ some d) (up : s.spurUpAs .voice d = true) (free : s.ringBusy r d = false) :
    (ringStep r s).call r = entered .ringing s.line.cycle (s.call r) := by
  simp only [ringStep, dest, other, up, free]
  rw [if_neg (by simp), if_neg (by simp), if_neg (by simp), call_toneOpt, call_offer, call_enterCall]
  rfl
end
theorem alone_ringStep (rest : (s.call r).live = false) : Alone r s (ringStep r s) := by
  simp only [ringStep]; repeat' split
  · exact .refl r s
  · exact alone_clearCall r s _ rest
  · exact alone_clearCall r s _ rest
  · exact alone_clearCall r s _ rest
  · exact ((alone_enterCall r s _ _).trans (alone_offer r _ _ _)).trans (alone_toneOpt r _ _ _)
theorem progressed_ringStep : Progressed (s.call r) ((ringStep r s).call r) := by
  simp only [ringStep]; repeat' split
  · rfl
  · exact progressed_clearCall _
  · exact progressed_clearCall _
  · exact progressed_clearCall _
  · rw [call_toneOpt, call_offer, call_enterCall]; rfl

/-! ### The admission test (R87) -/

theorem alone_proceedCall (rest : (s.call r).live = false) : Alone r s (proceedCall r s) := by
  simp only [proceedCall]; repeat' split
  · exact alone_ringStep rest
  · exact alone_clearCall r s _ rest
  · exact (alone_enterCall r s _ _).trans (alone_toneOpt r _ _ _)
theorem progressed_proceedCall : Progressed (s.call r) ((proceedCall r s).call r) := by
  simp only [proceedCall]; repeat' split
  · exact progressed_ringStep
  · exact progressed_clearCall _
  · rw [requestCall, call_toneOpt, call_enterCall]; rfl
theorem alone_admitCall (rest : (s.call r).live = false) : Alone r s (admitCall r s) := by
  simp only [admitCall]; split
  · exact (alone_enterCall r s _ _).trans (alone_toneOpt r _ _ _)
  · exact alone_proceedCall rest
theorem admitCall_above (above : s.level.mask < (s.call r).priority.getD 0) :
    (admitCall r s).call r = entered .held s.line.cycle (s.call r) := by
  simp only [admitCall, if_pos above, call_toneOpt, call_enterCall]
  rfl
theorem admitCall_within (within : (s.call r).priority.getD 0 ≤ s.level.mask) : admitCall r s = proceedCall r s :=
  if_neg (Nat.not_lt.mpr within)
theorem progressed_admitCall : Progressed (s.call r) ((admitCall r s).call r) := by
  obtain above | within := Nat.lt_or_ge s.level.mask ((s.call r).priority.getD 0)
  · rw [admitCall_above above]; rfl
  · rw [admitCall_within within]; exact progressed_proceedCall
theorem admitCall_own (own : (s.call r).role = some .localCall) (within : (s.call r).priority.getD 0 ≤ s.level.mask) :
    admitCall r s = ringStep r s := (admitCall_within within).trans (if_pos own)
theorem proceedCall_requested (away : (s.call r).role ≠ some .localCall)
    (reached : s.line.autonomous = false ∨ (s.call r).dialled = some .emergency) :
    (proceedCall r s).call r = entered .requested s.line.cycle (s.call r) := by
  have proceeds : proceedCall r s = requestCall r s := by
    simp only [proceedCall, if_neg away]
    obtain surface | emergency := reached
    · simp [surface]
    · simp [emergency]
  rw [proceeds, requestCall, call_toneOpt, call_enterCall]
  rfl
theorem proceedCall_cut (away : (s.call r).role ≠ some .localCall) (autonomous : s.line.autonomous = true)
    (other : (s.call r).dialled ≠ some .emergency) : proceedCall r s = clearCall r .congestion s := by
  simp [proceedCall, away, autonomous, other]
/-- R87: where the admission test leaves a record that is neither for a handset of this node nor EMERGENCY. -/
theorem admitCall_away (used : (s.call r).inUse = true) (away : (s.call r).role ≠ some .localCall)
    (other : (s.call r).dialled ≠ some .emergency) :
    ((admitCall r s).call r).state = admittedTo s ((s.call r).priority.getD 0) false ∧
    (((admitCall r s).call r).state = .cleared → ((admitCall r s).call r).cause = some .congestion) := by
  unfold admittedTo
  obtain above | within := Nat.lt_or_ge s.level.mask ((s.call r).priority.getD 0)
  · rw [admitCall_above above, if_pos above]
    exact ⟨rfl, nofun⟩
  · rw [admitCall_within within, if_neg (Nat.not_lt.mpr within)]
    cases autonomous : s.line.autonomous with
    | true =>
      rw [proceedCall_cut away autonomous other, call_clearCall_own _ used]
      exact ⟨rfl, fun _ => rfl⟩
    | false =>
      rw [proceedCall_requested away (.inl autonomous)]
      exact ⟨rfl, nofun⟩

/-! ## A completed number (R84 to R87) -/

theorem inUse_of_collecting {x : CallRec} (collecting : x.state = .collecting) : x.inUse = true := by simp [CallRec.inUse, collecting]

/-- R85: an EMERGENCY number is within every mask, and waits for no neighbour. -/
theorem call_completeCall_emergency (away : (s.call r).role ≠ some .localCall) : (completeCall r .emergency (some 0) s).call r =
    entered .requested s.line.cycle { s.call r with dialled := some .emergency, priority := some 0 } := by
  simp only [completeCall]
  generalize named : s.setCall r _ = u
  have record : u.call r = { s.call r with dialled := some .emergency, priority := some 0 } := by
    rw [← named]; exact State.setCall_call s r _
  have line : u.line = s.line := by rw [← named]; rfl
  rw [admitCall_within (by rw [record]; exact Nat.zero_le _), proceedCall_requested (by rw [record]; exact away) (.inr (by rw [record])),
    record, line]
section
variable (collecting : (s.call r).state = .collecting)
include collecting

theorem alone_completeCall (d : Dialled) (k : Option Nat) : Alone r s (completeCall r d k s) := by
  refine (alone_setCall r s _).trans (alone_admitCall ?_)
  rw [State.setCall_call]; exact not_live_of_state collecting rfl
/-- R87: where a completed number is left that is neither for a handset of this node nor EMERGENCY. -/
theorem call_completeCall_away {d : Dialled} (away : (s.call r).role ≠ some .localCall) (other : d ≠ .emergency) :
    ((completeCall r d none s).call r).dialled = some d ∧ ((completeCall r d none s).call r).priority = (s.call r).priority ∧
    ((completeCall r d none s).call r).state = admittedTo s ((s.call r).priority.getD 0) false ∧
    (((completeCall r d none s).call r).state = .cleared → ((completeCall r d none s).call r).cause = some .congestion) := by
  simp only [completeCall]
  generalize named : s.setCall r _ = u
  have record : u.call r = { s.call r with dialled := some d } := by rw [← named]; exact State.setCall_call s r _
  have same : admittedTo u = admittedTo s := by rw [← named]; rfl
  have progressed := progressed_admitCall (s := u) (r := r)
  have left := admitCall_away (s := u) (r := r) (by rw [record]; exact inUse_of_collecting collecting) (by rw [record]; exact away)
    (by rw [record]; simpa using other)
  rw [same] at left
  rw [record] at progressed left
  exact ⟨progressed.dialled, progressed.priority, left⟩
end
theorem digits_completeCall (d : Dialled) (k : Option Nat) : ((completeCall r d k s).call r).digits = (s.call r).digits := by
  rw [completeCall, progressed_admitCall.digits, State.setCall_call]

/-! ### A number of this node (R84, R88) -/

/-- R84: the record of a number of this node. -/
def madeLocal (r : RecId) (q : SpurId) (s : State) : State := s.setCall r { s.call r with role := some .localCall, dest := some q }

theorem completeStation_away {n k : Nat} (away : n ≠ s.working.commission.station) :
    completeStation r n k s = completeCall r (.station n k) none s := if_neg away
section
variable {n k : Nat} {q : SpurId} (here : n = s.working.commission.station) (spur : identIx 8 k = some q)
include here spur
theorem completeStation_invalid (other : (s.working.spurs.get q).type ≠ .voice) :
    completeStation r n k s = clearCall r .invalid (madeLocal r q s) := by
  simp only [completeStation, if_pos here, spur]
  exact if_neg other
theorem completeStation_voice (voice : (s.working.spurs.get q).type = .voice) :
    completeStation r n k s = completeCall r (.station n k) none (madeLocal r q s) := by
  simp only [completeStation, if_pos here, spur]
  exact if_pos voice
end
theorem alone_completeStation (n k : Nat) (collecting : (s.call r).state = .collecting) : Alone r s (completeStation r n k s) := by
  simp only [completeStation]; repeat' split
  · exact alone_clearCall r s _ (not_live_of_state collecting rfl)
  · exact (alone_setCall r s _).trans (alone_completeCall (by simpa using collecting) _ _)
  · refine (alone_setCall r s _).trans (alone_clearCall r _ _ ?_)
    rw [State.setCall_call]; exact not_live_of_state collecting rfl
  · exact alone_completeCall collecting _ _
theorem digits_completeStation (n k : Nat) : ((completeStation r n k s).call r).digits = (s.call r).digits := by
  simp only [completeStation]; repeat' split
  · exact (progressed_clearCall _).digits
  · rw [digits_completeCall, State.setCall_call]
  · rw [(progressed_clearCall _).digits, State.setCall_call]
  · exact digits_completeCall _ _

/-- R88: what the local ring step and its admission make of a number of this node. -/
structure RungLocally (r : RecId) (q : SpurId) (s : State) (y : CallRec) : Prop where
  role : y.role = some .localCall
  dest : y.dest = some q
  held : s.level.mask < (s.call r).priority.getD 0 → y.state = .held
  self : (s.call r).priority.getD 0 ≤ s.level.mask → (s.call r).origin = some q → y.state = .cleared ∧ y.cause = some .busy
  down : (s.call r).priority.getD 0 ≤ s.level.mask → (s.call r).origin ≠ some q → s.spurUpAs .voice q = false →
    y.state = .cleared ∧ y.cause = some .congestion
  busy : (s.call r).priority.getD 0 ≤ s.level.mask → (s.call r).origin ≠ some q → s.spurUpAs .voice q = true →
    s.ringBusy r q = true → y.state = .cleared ∧ y.cause = some .busy
  rung : (s.call r).priority.getD 0 ≤ s.level.mask → (s.call r).origin ≠ some q → s.spurUpAs .voice q = true →
    s.ringBusy r q = false → y.state = .ringing
theorem rungLocally_admitCall {q : SpurId} (used : (s.call r).inUse = true) (own : (s.call r).role = some .localCall)
    (dest : (s.call r).dest = some q) : RungLocally r q s ((admitCall r s).call r) where
  role := progressed_admitCall.role.trans own
  dest := progressed_admitCall.dest.trans dest
  held above := by rw [admitCall_above above]; rfl
  self within self := by rw [admitCall_own own within, ringStep_busy dest (.inl self), call_clearCall_own _ used]; exact ⟨rfl, rfl⟩
  down within other down := by
    rw [admitCall_own own within, ringStep_congestion dest other down, call_clearCall_own _ used]; exact ⟨rfl, rfl⟩
  busy within other up busy := by
    rw [admitCall_own own within, ringStep_busy dest (.inr ⟨up, busy⟩), call_clearCall_own _ used]; exact ⟨rfl, rfl⟩
  rung within other up free := by rw [admitCall_own own within, ringStep_rings dest other up free]; rfl
/-- The test of a number of this node reads of the record what it held before it was named. -/
theorem rungLocally_completeCall {q : SpurId} (d : Dialled) (collecting : (s.call r).state = .collecting) :
    RungLocally r q s ((completeCall r d none (madeLocal r q s)).call r) := by
  have alone : Alone r s ((madeLocal r q s).setCall r { (madeLocal r q s).call r with dialled := some d }) :=
    (alone_setCall r s _).trans (alone_setCall r _ _)
  rw [completeCall]
  change RungLocally r q s ((admitCall r ((madeLocal r q s).setCall r { (madeLocal r q s).call r with dialled := some d })).call r)
  generalize named : (madeLocal r q s).setCall r _ = u at alone
  have record : u.call r = { s.call r with role := some .localCall, dest := some q, dialled := some d } := by
    rw [← named, State.setCall_call, madeLocal, State.setCall_call]
  have rung := rungLocally_admitCall (s := u) (r := r) (q := q) (by rw [record]; exact inUse_of_collecting collecting) (by rw [record])
    (by rw [record])
  obtain ⟨role, dest, held, self, down, busy, rung⟩ := rung
  rw [record, alone.level] at held self down busy rung
  rw [spurUpAs_of_outsideCalls alone.outside] at down busy rung
  rw [alone.ringBusy] at busy rung
  exact ⟨role, dest, held, self, down, busy, rung⟩
end

/-! ## A digit (R84) -/

section
variable {s : State} {r : RecId} {p : SpurId} {d : Nat}

/-- R84: the digit joins the record's digits, and its timer starts again; the first one stops the tone. -/
def digitTaken (p : SpurId) (d : Nat) (r : RecId) (s : State) : State :=
  (if (s.call r).digits.isEmpty then tone p .silent s else s).setCall r
    { s.call r with digits := (s.call r).digits ++ [d], timer := some 0 }
/-- R84: what an outcome of the digits does. -/
def dialStep (o : DialOutcome) (r : RecId) (s : State) : State :=
  match o with
  | .wait => s
  | .bad => clearCall r .invalid s
  | .emergency => completeCall r .emergency (some 0) s
  | .station n k => completeStation r n k s

theorem takeDigit_none (none : 9 < d ∨ s.collectingAt p = none) : takeDigit p d s = s := by
  have unfound : (if d ≤ 9 then s.collectingAt p else Option.none) = Option.none := by
    obtain above | none := none
    · rw [if_neg (Nat.not_le.mpr above)]
    · rw [none, ite_self]
  simp only [takeDigit, unfound]
theorem takeDigit_some (digit : d ≤ 9) (found : s.collectingAt p = some r) :
    takeDigit p d s = dialStep (dialOutcome ((s.call r).digits ++ [d])) r (digitTaken p d r s) := by
  simp only [takeDigit, if_pos digit, found]
  rfl
theorem alone_digitTaken : Alone r s (digitTaken p d r s) := by
  refine Alone.trans ?_ (alone_setCall r _ _)
  split
  · exact alone_tone r s p _
  · exact .refl r s
theorem call_digitTaken : (digitTaken p d r s).call r = { s.call r with digits := (s.call r).digits ++ [d], timer := some 0 } :=
  State.setCall_call _ r _
theorem alone_dialStep (o : DialOutcome) (collecting : (s.call r).state = .collecting) : Alone r s (dialStep o r s) := by
  cases o with
  | wait => exact .refl r s
  | bad => exact alone_clearCall r s _ (not_live_of_state collecting rfl)
  | emergency => exact alone_completeCall collecting _ _
  | station n k => exact alone_completeStation n k collecting
theorem digits_dialStep (o : DialOutcome) : ((dialStep o r s).call r).digits = (s.call r).digits := by
  cases o with
  | wait => rfl
  | bad => exact (progressed_clearCall _).digits
  | emergency => exact digits_completeCall _ _
  | station n k => exact digits_completeStation n k
theorem collectingAt_some (found : s.collectingAt p = some r) : (s.call r).state = .collecting ∧ (s.call r).origin = some p := by
  have meets := Tab.firstIx_some found
  simp only [Bool.and_eq_true, beq_iff_eq] at meets
  exact meets
end

/-- Settles O33: by the outcome of the digits. -/
theorem digitsBuildTheNumber : Obligations.DigitsBuildTheNumber := by
  intro p d s powered idle up
  refine ⟨fun none => settled_headMessage powered up rfl (takeDigit_none none) idle, fun r digit found away => ?_⟩
  obtain ⟨collecting, origin⟩ := collectingAt_some found
  generalize taken : digitTaken p d r (heard p s) = v
  have alone : Alone r (heard p s) v := taken ▸ alone_digitTaken
  have record : v.call r = { s.call r with digits := (s.call r).digits ++ [d], timer := some 0 } := taken ▸ call_digitTaken
  have still : (v.call r).state = .collecting := by rw [record]; exact collecting
  have notLocal : (v.call r).role ≠ some .localCall := by rw [record]; simp [away]
  have used := inUse_of_collecting still
  have line : v.line = s.line := alone.line
  have level : v.level = s.level := alone.level
  have working : v.working = s.working := alone.working
  have steps : deliver p (.digit d) (heard p s) = dialStep (dialOutcome ((s.call r).digits ++ [d])) r v :=
    taken ▸ takeDigit_some digit found
  have whole := alone.trans (alone_dialStep (dialOutcome ((s.call r).digits ++ [d])) still)
  refine ⟨_, settled_headMessage powered up rfl steps (whole.noNotices idle), whole.callAlone, ?_, fun o => ?_, fun o => ?_, fun o => ?_,
    fun n k o other => ?_, fun n k q o here spur => ?_⟩
  · rw [digits_dialStep, record]
  · rw [o]; exact record
  · rw [o, dialStep, call_clearCall_own _ used]; exact ⟨rfl, rfl⟩
  · rw [o, dialStep, call_completeCall_emergency notLocal, record, line]; rfl
  · have left := call_completeCall_away (d := .station n k) still notLocal (by simp)
    rw [o, dialStep, completeStation_away (by rw [working]; exact other)]
    rw [record] at left
    have same : admittedTo v = admittedTo s := by funext a b; rw [admittedTo, level, line]; rfl
    rw [same] at left
    exact left
  · have there : n = v.working.commission.station := by rw [working]; exact here
    have rung := rungLocally_completeCall (s := v) (r := r) (q := q) (.station n k) still
    rw [o, dialStep]
    by_cases voice : (s.working.spurs.get q).type = .voice
    · rw [completeStation_voice there spur (by rw [working]; exact voice)]
      obtain ⟨role, dest, held, self, down, busy, rung⟩ := rung
      rw [record, level] at held self down busy rung
      rw [spurUpAs_of_outsideCalls alone.outside, heard_spurUpAs] at down busy rung
      rw [alone.ringBusy] at busy rung
      have apart (ne : q ≠ p) : (s.call r).origin ≠ some q := by rw [origin]; exact fun e => ne (Option.some.inj e).symm
      exact ⟨role, dest, fun other => absurd voice other, fun _ => ⟨held, fun within own => self within (own ▸ origin),
        fun within ne => down within (apart ne), fun within ne => busy within (apart ne), fun within ne => rung within (apart ne)⟩⟩
    · have made : (madeLocal r q v).call r = { v.call r with role := some .localCall, dest := some q } := State.setCall_call v r _
      rw [completeStation_invalid there spur (by rw [working]; exact voice),
        call_clearCall_own _ (by rw [made]; exact inUse_of_collecting still), made]
      exact ⟨rfl, rfl, fun _ => ⟨rfl, rfl⟩, fun other => absurd other voice⟩

/-! ## Numbers that time completes (R85, R86) -/

theorem expired_iff {st : CallState} {x : CallRec} : expired st x = true ↔ x.state = st ∧ timerLimit x ≤ x.timer.getD 0 := by
  simp [expired]
theorem timerLimit_surface {x : CallRec} (collecting : x.state = .collecting) (digits : x.digits = [0]) : timerLimit x = 500 := by
  simp [timerLimit, collecting, digits]
theorem timerLimit_refuge {x : CallRec} (collecting : x.state = .collecting) (refuge : x.refuge = true) (digits : x.digits = []) :
    timerLimit x = 1250 := by
  simp [timerLimit, collecting, digits, refuge]

/-- Settles O34: what is due completes, and the rest stands. -/
theorem numbersCompleteByTime : Obligations.NumbersCompleteByTime := by
  intro r s powered
  refine ⟨fun collecting digits due away => ?_, fun undue => ?_, fun collecting refuge digits due away => ?_, fun undue => ?_⟩
  · have expires : expired .collecting (s.call r) = true ∧ (s.call r).digits = [0] :=
      ⟨expired_iff.mpr ⟨collecting, by rw [timerLimit_surface collecting digits]; exact due⟩, digits⟩
    have run : exec (.surfaceCompletionTimeout r) s = .next (completeCall r .surface none s) :=
      (whenPowered_powered _ powered).trans (congrArg _ (if_pos expires))
    exact ⟨_, run, (alone_completeCall collecting _ _).callAlone, call_completeCall_away collecting (by simp [away]) (by simp)⟩
  · have stands : ¬ (expired .collecting (s.call r) = true ∧ (s.call r).digits = [0]) := fun ⟨expires, digits⟩ => by
      obtain ⟨collecting, due⟩ := expired_iff.mp expires
      rw [timerLimit_surface collecting digits] at due
      obtain other | other | early := undue
      · exact other collecting
      · exact other digits
      · omega
    exact (whenPowered_powered _ powered).trans (congrArg _ (if_neg stands))
  · have expires : expired .collecting (s.call r) = true ∧ (s.call r).refuge = true ∧ (s.call r).digits = [] :=
      ⟨expired_iff.mpr ⟨collecting, by rw [timerLimit_refuge collecting refuge digits]; exact due⟩, refuge, digits⟩
    have run : exec (.refugeEmergencyCompletion r) s = .next (completeCall r .emergency (some 0) s) :=
      (whenPowered_powered _ powered).trans (congrArg _ (if_pos expires))
    exact ⟨_, run, (alone_completeCall collecting _ _).callAlone, call_completeCall_emergency (by simp [away])⟩
  · have stands : ¬ (expired .collecting (s.call r) = true ∧ (s.call r).refuge = true ∧ (s.call r).digits = []) :=
      fun ⟨expires, refuge, digits⟩ => by
        obtain ⟨collecting, due⟩ := expired_iff.mp expires
        rw [timerLimit_refuge collecting refuge digits] at due
        obtain other | other | other | early := undue
        · exact other collecting
        · simp [other] at refuge
        · exact other digits
        · omega
    exact (whenPowered_powered _ powered).trans (congrArg _ (if_neg stands))

/-! ## The limits of a record's states (R73, R86, R89, R101) -/

/-- A record is cleared TIMEOUT at its limit in a state, and not before it. -/
theorem timeoutCall_due {st : CallState} {limit : Nat} {r : RecId} {s : State} (inUse : ∀ x : CallRec, x.state = st → x.inUse = true)
    (limited : (s.call r).state = st → timerLimit (s.call r) = limit) :
    ((s.call r).state = st → limit ≤ (s.call r).timer.getD 0 → CallCleared r .timeout s (timeoutCall st r s)) ∧
    ((s.call r).state ≠ st ∨ (s.call r).timer.getD 0 < limit → timeoutCall st r s = s) := by
  refine ⟨fun at_ due => ?_, fun undue => if_neg fun expires => ?_⟩
  · rw [timeoutCall, if_pos (expired_iff.mpr ⟨at_, (limited at_).trans_le due⟩)]
    exact clearCall_cleared .timeout (inUse _ at_)
  · obtain ⟨at_, due⟩ := expired_iff.mp expires
    rw [limited at_] at due
    obtain other | early := undue
    · exact other at_
    · omega
/-- So does the command that names it. -/
theorem timeout_exec {st : CallState} {limit : Nat} {r : RecId} {s : State} {c : Instr} (powered : s.powered = true)
    (run : exec c s = whenPowered (timeoutCall st r) s) (inUse : ∀ x : CallRec, x.state = st → x.inUse = true)
    (limited : (s.call r).state = st → timerLimit (s.call r) = limit) :
    ((s.call r).state = st → limit ≤ (s.call r).timer.getD 0 → ∃ t, exec c s = .next t ∧ CallCleared r .timeout s t) ∧
    ((s.call r).state ≠ st ∨ (s.call r).timer.getD 0 < limit → exec c s = .next s) := by
  rw [run, whenPowered_powered _ powered]
  obtain ⟨cleared, stands⟩ := timeoutCall_due inUse limited
  exact ⟨fun at_ due => ⟨_, rfl, cleared at_ due⟩, fun undue => congrArg _ (stands undue)⟩

/-- Settles O35: each limit by `timeoutCall_due`, and a voice path that is lost by clearing its drop owner. -/
theorem timeoutsClearTheRecord : Obligations.TimeoutsClearTheRecord := by
  intro r s powered
  refine ⟨fun notSurface notRefuge => ?_, ?_, ?_, ?_, ?_, fun e owner => ⟨fun connected lost => ?_, fun stays => ?_⟩⟩
  · have limited : (s.call r).state = .collecting → timerLimit (s.call r) = 2500 := fun collecting => by
      obtain plain | digits := notRefuge
      · simp [timerLimit, collecting, notSurface, plain]
      · simp [timerLimit, collecting, notSurface, digits]
    obtain ⟨cleared, stands⟩ := timeoutCall_due (fun x at_ => inUse_of_collecting at_) limited
    refine ⟨fun at_ due => ⟨_, ?_, cleared at_ due⟩, fun undue => ?_⟩
    · exact (whenPowered_powered _ powered).trans (congrArg _ (if_pos (limited at_)))
    · refine (whenPowered_powered _ powered).trans (congrArg _ ?_)
      split
      · exact stands undue
      · rfl
  · exact timeout_exec powered rfl (fun x at_ => by simp [CallRec.inUse, at_]) fun at_ => by simp [timerLimit, at_]
  · exact timeout_exec powered rfl (fun x at_ => by simp [CallRec.inUse, at_]) fun at_ => by simp [timerLimit, at_]
  · exact timeout_exec powered rfl (fun x at_ => by simp [CallRec.inUse, at_]) fun at_ => by simp [timerLimit, at_]
  · exact timeout_exec powered rfl (fun x at_ => by simp [CallRec.inUse, at_]) fun at_ => by simp [timerLimit, at_]
  · rw [exec_continuityLoss, whenPowered_powered _ powered]
    refine ⟨_, rfl, ?_⟩
    simp only [owner, lost, connected, and_self, if_true]
    exact clearCall_cleared .lost (by simp [CallRec.inUse, connected])
  · rw [exec_continuityLoss, whenPowered_powered _ powered]
    have undue : ¬ ((s.slots.map.get e).continuity = 125 ∧ (s.call r).state = .connected) := fun both =>
      stays.elim (fun other => other both.2) fun early => early both.1
    simp only [owner, undue, if_false]

end Sys2Proof.Safety
end

section
/-! PROOFS. The family of the calls: the surface's orders about calls (O36, O37, O38). -/

namespace Sys2Proof.Safety
open Sys2Proof.Machine

/-! ## Orders without access (R176, R177, R180) -/

section
variable {h : OrderHdr} {s : State} {o : Order}

theorem refreshAccess_open (open_ : kindNeedsAccess o.code = false) :
    refreshAccess o (s.setMgmt { s.mgmt with prepare := false }) = taken o.code s := by
  have unguarded (a : Bool) : (kindNeedsAccess o.code && a) = false := by rw [open_, Bool.false_and]
  rw [taken, unguarded, refreshAccess, unguarded]
  rfl
theorem judgeOrder_open (prep : Bool) (atOnce : doneAtOnce o = true) (open_ : kindNeedsAccess o.code = false) :
    judgeOrder prep h o s = reply h o.code (runOrder prep h o (refreshAccess o s)) := by
  have unlocked : ¬ (kindNeedsAccess o.code && !s.access) = true := by simp [open_]
  unfold judgeOrder
  split
  · cases atOnce
  · cases atOnce
  · cases atOnce
  · exact if_neg unlocked
/-- R176: an order that needs no access and is done at once is replied to as its owner answers. -/
theorem orderArrives_open {r : Result} {fields : List Octet} {t : State} (takes : Takes h s) (atOnce : doneAtOnce o = true)
    (open_ : kindNeedsAccess o.code = false)
    (answers : runOrder s.mgmt.prepare h o (taken o.code s) = { state := t, result := r, fields := fields })
    (idle : NoNotices t) : orderArrives h o s = .next (replied h o.code r fields t) := by
  have room : ¬ (s.mgmt.restart.isSome || (!h.bcast && s.repliesFull)) = true := by
    cases cast : h.bcast <;> simp [takes.restart, takes.room, cast]
  have judged : takeOrder h o s = replied h o.code r fields t := by
    refine (if_neg room).trans ((judgeOrder_open _ atOnce open_).trans ?_)
    rw [refreshAccess_open open_, answers]
    rfl
  rw [orderArrives, settled_powered _ takes.powered, if_pos takes.reach, judged,
    settle_of_noNotices (noNotices_replied h o.code r fields idle)]
end

section
variable (h : OrderHdr) (code : Nat) (res : Result) (fields : List Octet) (s t : State)

@[simp] theorem calls_replied : (replied h code res fields s).calls = s.calls := by unfold replied; split <;> rfl
@[simp] theorem slots_replied : (replied h code res fields s).slots = s.slots := by unfold replied; split <;> rfl
@[simp] theorem spurs_replied : (replied h code res fields s).spurs = s.spurs := by unfold replied; split <;> rfl
@[simp] theorem call_replied (r : RecId) : (replied h code res fields s).call r = s.call r :=
  congrArg (fun k : Calls => k.recs.get r) (calls_replied h code res fields s)
@[simp] theorem held_replied (x : Source) : (replied h code res fields s).held x = s.held x := by unfold replied; split <;> rfl
variable {s t}
/-- A reply is made beside what the work on calls reaches. -/
theorem CallsFrame.replied (frame : CallsFrame s t) : CallsFrame (replied h code res fields s) (replied h code res fields t) := by
  rw [CallsFrame, frame]
  unfold Safety.replied
  split <;> rfl
/-- A reply to an order that leaves the bridge as it was. -/
theorem CallsFrame.replied_sameBridge {u : State} (frame : CallsFrame s t) (bridge : t.slots.bridge = s.slots.bridge)
    (collisions : t.slots.collisions = s.slots.collisions) (made : Safety.replied h code res fields t = u) :
    u = { Safety.replied h code res fields s with
      calls := u.calls, slots := { s.slots with map := u.slots.map }, spurs := u.spurs
      mgmt := { (Safety.replied h code res fields s).mgmt with holding := u.mgmt.holding } } := by
  have answered : CallsFrame (Safety.replied h code res fields s) u := made ▸ frame.replied h code res fields
  have same : u.slots = t.slots := made ▸ slots_replied h code res fields t
  have slots : u.slots = { s.slots with map := u.slots.map } := calc
    u.slots = { map := u.slots.map, bridge := t.slots.bridge, collisions := t.slots.collisions } := by rw [same]
    _ = { s.slots with map := u.slots.map } := by rw [bridge, collisions]
  exact Eq.trans answered (congrArg (fun x : SlotSwitch => { Safety.replied h code res fields s with
    calls := u.calls, slots := x, spurs := u.spurs
    mgmt := { (Safety.replied h code res fields s).mgmt with holding := u.mgmt.holding } }) slots)
theorem offer_setMgmt (p : SpurId) (m : OutMsg) (g : Mgmt) : offer p m (s.setMgmt g) = (offer p m s).setMgmt g := by
  rw [offer_eq, offer_eq]; rfl
theorem clearingSends_setMgmt (x : CallRec) (c : ClearCause) (p : SpurId) (g : Mgmt) :
    clearingSends x c p (s.setMgmt g) = (clearingSends x c p s).setMgmt g := by
  have offered (b : Prop) [Decidable b] (m : OutMsg) (s : State) :
      (if b then offer p m (s.setMgmt g) else s.setMgmt g) = (if b then offer p m s else s).setMgmt g := by
    split
    · exact offer_setMgmt p m g
    · rfl
  rw [clearingSends, offered, State.setMgmt_calls, offered]
  rfl
/-- A cleared record is cleared under a reply. -/
theorem callCleared_replied {r : RecId} {c : ClearCause} (cleared : CallCleared r c s t) :
    CallCleared r c (replied h code res fields s) (replied h code res fields t) := by
  unfold replied
  split
  · exact cleared
  · obtain ⟨record, others, order, marked, pair, bridge, spurs, rest, counts⟩ := cleared
    refine ⟨record, others, order, ?_, pair, bridge, fun p => ?_, ?_, counts⟩
    · rw [marked]; rfl
    · rw [clearingSends_setMgmt]; exact spurs p
    · exact congrArg (State.setMgmt · _) rest
end

/-! ## CALL ASSIGN, origin form (R92) -/

section
variable {s : State} {index callNo slot far : Nat} {r : RecId} {sl : Slot} {f : Side}

theorem exec_callAssignOrigin (h : OrderHdr) : exec (.callAssignOrigin h index callNo slot far) s =
    orderArrives h (.callAssignOrigin index callNo slot far) s := rfl
theorem outsideCalls_assignCall : outsideCalls (assignCall r sl f s) = outsideCalls s := by
  rw [assignCall, outsideCalls_installPair, outsideCalls_enterCall]
theorem call_assignCall : (assignCall r sl f s).call r =
    { s.call r with state := .alerting, slot := some sl, far := some f, entry := some s.line.cycle, timer := some 0 } := by
  rw [assignCall, call_installPair, call_enterCall]
theorem call_assignCall_ne {q : RecId} (ne : q ≠ r) : (assignCall r sl f s).call q = s.call q := by
  rw [assignCall, call_installPair, call_enterCall_ne _ _ _ _ _ ne]
theorem slots_assignCall : (assignCall r sl f s).slots = (installPair r f sl s).slots := rfl
theorem bridge_assignCall : (assignCall r sl f s).slots.bridge = s.slots.bridge := by
  rw [slots_assignCall, bridge_installPair]
theorem spurs_assignCall : (assignCall r sl f s).spurs = s.spurs := by
  rw [assignCall, spurs_installPair, spurs_enterCall]
theorem held_enterCall (st : CallState) (g : CallRec → CallRec) :
    (enterCall r st g s).held (.call r) = markHeld (s.held (.call r)) := by
  rw [State.held, mgmt_enterCall, Tab.get_put_same]
theorem held_assignCall : (assignCall r sl f s).held (.call r) = markHeld (s.held (.call r)) := by
  rw [assignCall, State.held, mgmt_installPair]; exact held_enterCall _ _

section
variable (matched : s.matchCall index callNo = some r) (slotted : slotOf slot = some sl) (sided : farOfCode far = some f)
include matched slotted sided
theorem orderAssignOrigin_done (requested : (s.call r).state = .requested) (free : s.pairFree f sl = true) :
    orderAssignOrigin index callNo slot far s = answer .done (toneOpt (s.call r).origin .ringback (assignCall r sl f s)) := by
  have origin : ((assignCall r sl f s).call r).origin = (s.call r).origin := by rw [call_assignCall]
  rw [← origin]
  simp only [orderAssignOrigin, matched, slotted, sided]
  rw [if_neg (not_not.mpr requested), if_neg (by simp [free])]
  rfl
theorem orderAssignOrigin_conflict (requested : (s.call r).state = .requested) (used : s.pairFree f sl = false) :
    orderAssignOrigin index callNo slot far s = answer .conflict s := by
  simp only [orderAssignOrigin, matched, slotted, sided]
  rw [if_neg (not_not.mpr requested), if_pos (by simp [used])]
theorem orderAssignOrigin_other (other : (s.call r).state ≠ .requested) :
    orderAssignOrigin index callNo slot far s = answer .invalid s := by
  simp only [orderAssignOrigin, matched, slotted, sided]
  exact if_pos other
end
theorem orderAssignOrigin_invalid (out : s.matchCall index callNo = none ∨ slotOf slot = none ∨ farOfCode far = none) :
    orderAssignOrigin index callNo slot far s = answer .invalid s := by
  unfold orderAssignOrigin
  split
  · next matched slotted sided => simp [matched, slotted, sided] at out
  · rfl
end

/-- Settles O36: by the branches of the owner's answer. -/
theorem assignOriginAlerts : Obligations.AssignOriginAlerts := by
  intro h index callNo slot far s takes
  have answered {r : Result} {t : State} (answers : orderAssignOrigin index callNo slot far (taken 10 s) = answer r t)
      (idle : NoNotices t) : exec (.callAssignOrigin h index callNo slot far) s = .next (replied h 10 r [] t) :=
    (exec_callAssignOrigin h).trans (orderArrives_open takes rfl rfl answers idle)
  refine ⟨fun r sl f matched slotted sided => ⟨fun requested free => ?_, fun requested used => ?_, fun other => ?_⟩, fun out => ?_⟩
  · have done := orderAssignOrigin_done (s := taken 10 s) matched slotted sided requested free
    have outside : outsideCalls (assignCall r sl f (taken 10 s)) = outsideCalls (taken 10 s) := outsideCalls_assignCall
    have toned : outsideCalls (toneOpt (s.call r).origin .ringback (assignCall r sl f (taken 10 s))) = outsideCalls (taken 10 s) :=
      (outsideCalls_toneOpt _ _ _).trans outside
    have framed := (frame_of_outsideCalls toned).replied_sameBridge h 10 .done []
      (by rw [slots_toneOpt]; exact bridge_assignCall) (collisions_of_outsideCalls toned) rfl
    refine ⟨_, answered done (noNotices_of_outsideCalls toned takes.settled), ?_, fun q ne => ?_, ?_, ?_, ?_, fun e add drop => ?_,
      ?_, ?_, framed⟩
    · rw [call_replied, call_toneOpt]; exact call_assignCall
    · rw [call_replied, call_toneOpt]; exact call_assignCall_ne ne
    · rw [slots_replied, slots_toneOpt, slots_assignCall]; exact add_installPair _ r f sl
    · rw [slots_replied, slots_toneOpt, slots_assignCall]; exact drop_installPair _ r f sl
    · rw [slots_replied, slots_toneOpt, slots_assignCall]; exact continuity_installPair _ r f sl
    · rw [slots_replied, slots_toneOpt, slots_assignCall]; exact get_installPair_ne _ r f sl e add drop
    · rw [spurs_replied]
      exact spurs_toneOpt_congr s _ _ spurs_assignCall (working_of_outsideCalls (s := taken 10 s) outside)
    · rw [held_replied, State.held, mgmt_toneOpt]; exact held_assignCall
  · exact answered (orderAssignOrigin_conflict (s := taken 10 s) matched slotted sided requested used) takes.settled
  · exact answered (orderAssignOrigin_other (s := taken 10 s) matched slotted sided other) takes.settled
  · exact answered (orderAssignOrigin_invalid (s := taken 10 s) out) takes.settled

/-! ## CALL ASSIGN, destination form (R93) -/

section
variable {s : State} {spur priority slot far : Nat} {p : SpurId} {r : RecId} {sl : Slot} {f : Side}

theorem exec_callAssignDestination (h : OrderHdr) : exec (.callAssignDestination h spur priority slot far) s =
    orderArrives h (.callAssignDestination spur priority slot far) s := rfl

/-- R93: the fields of a record taken for a destination. -/
def destined (p : SpurId) (priority : Nat) (sl : Slot) (f : Side) (x : CallRec) : CallRec :=
  { x with role := some .destination, origin := some p, priority := some priority, slot := some sl, far := some f }
theorem ringDestination_eq : ringDestination r p priority sl f s =
    offer p (.ring true) (installPair r f sl (enterCall r .ringing (destined p priority sl f) (numbered r s))) := rfl
theorem callsFrame_ringDestination : CallsFrame s (ringDestination r p priority sl f s) := by
  rw [ringDestination_eq]
  refine (callsFrame_numbered s r).trans (frame_of_outsideCalls ?_)
  rw [outsideCalls_offer, outsideCalls_installPair, outsideCalls_enterCall]
theorem call_ringDestination : (ringDestination r p priority sl f s).call r =
    { destined p priority sl f ((numbered r s).call r) with state := .ringing, entry := some s.line.cycle, timer := some 0 } := by
  rw [ringDestination_eq, call_offer, call_installPair, call_enterCall, line_numbered]
theorem callNo_ringDestination : ((ringDestination r p priority sl f s).call r).callNo = some s.calls.counter := by
  rw [call_ringDestination]; exact callNo_numbered s r
theorem call_ringDestination_ne {q : RecId} (ne : q ≠ r) : (ringDestination r p priority sl f s).call q = s.call q := by
  rw [ringDestination_eq, call_offer, call_installPair, call_enterCall_ne _ _ _ _ _ ne, call_numbered_ne s r q ne]
theorem slots_ringDestination : (ringDestination r p priority sl f s).slots =
    (installPair r f sl (enterCall r .ringing (destined p priority sl f) (numbered r s))).slots := by rw [ringDestination_eq, slots_offer]
theorem bridge_ringDestination : (ringDestination r p priority sl f s).slots.bridge = s.slots.bridge := by
  rw [slots_ringDestination, bridge_installPair, slots_enterCall, slots_numbered]
theorem collisions_ringDestination : (ringDestination r p priority sl f s).slots.collisions = s.slots.collisions := by
  rw [slots_ringDestination, collisions_of_outsideCalls (outsideCalls_installPair _ r f sl), slots_enterCall, slots_numbered]
theorem counter_ringDestination : (ringDestination r p priority sl f s).calls.counter =
    if s.calls.counter = 255 then 1 else s.calls.counter + 1 := by
  rw [ringDestination_eq, calls_offer, calls_installPair, counter_enterCall, counter_numbered]
theorem spurs_ringDestination : (ringDestination r p priority sl f s).spurs = (offer p (.ring true) s).spurs := by
  rw [ringDestination_eq]
  refine spurs_offer_congr s p _ ?_ ?_
  · rw [spurs_installPair, spurs_enterCall, spurs_numbered]
  · rw [working_installPair, working_enterCall, working_numbered]
theorem held_ringDestination : ((ringDestination r p priority sl f s).held (.call r)).isSome = true := by
  have marked (o : Option Nat) : (markHeld o).isSome = true := by cases o <;> rfl
  rw [ringDestination_eq, State.held, mgmt_offer, mgmt_installPair, mgmt_enterCall, Tab.get_put_same]
  exact marked _

section
variable (spurred : identIx 8 spur = some p) (slotted : slotOf slot = some sl) (sided : farOfCode far = some f)
include spurred slotted sided
theorem orderAssignDestination_unfit (unfit : 15 < priority ∨ (s.working.spurs.get p).type ≠ .voice) :
    orderAssignDestination spur priority slot far s = answer .invalid s := by
  simp only [orderAssignDestination, spurred, slotted, sided]
  exact if_pos unfit
variable (fits : priority ≤ 15 ∧ (s.working.spurs.get p).type = .voice)
include fits
theorem orderAssignDestination_notReady (unready : s.spurUp p = false ∨ s.level.mask < priority) :
    orderAssignDestination spur priority slot far s = answer .notReady s := by
  simp only [orderAssignDestination, spurred, slotted, sided]
  rw [if_neg (by simp [fits]), if_pos (by simpa using unready)]
variable (ready : s.spurUp p = true ∧ priority ≤ s.level.mask)
include ready
theorem orderAssignDestination_busy (busy : s.handsetBusy p = true) :
    orderAssignDestination spur priority slot far s = answer .busy s := by
  simp only [orderAssignDestination, spurred, slotted, sided]
  rw [if_neg (by simp [fits]), if_neg (by simp [ready]), if_pos busy]
variable (free : s.handsetBusy p = false)
include free
theorem orderAssignDestination_full (full : s.recToTake = none) :
    orderAssignDestination spur priority slot far s = answer .full (countRefused s) := by
  simp only [orderAssignDestination, spurred, slotted, sided, full]
  rw [if_neg (by simp [fits]), if_neg (by simp [ready]), if_neg (by simp [free])]
variable (found : s.recToTake = some r)
include found
theorem orderAssignDestination_conflict (used : s.pairFree f sl = false) :
    orderAssignDestination spur priority slot far s = answer .conflict s := by
  simp only [orderAssignDestination, spurred, slotted, sided, found]
  rw [if_neg (by simp [fits]), if_neg (by simp [ready]), if_neg (by simp [free]), if_pos (by simp [used])]
theorem orderAssignDestination_done (pair : s.pairFree f sl = true) : orderAssignDestination spur priority slot far s =
    { state := ringDestination r p priority sl f s, result := .done, fields := [octet (r.val + 1), octet s.calls.counter] } := by
  simp only [orderAssignDestination, spurred, slotted, sided, found]
  rw [if_neg (by simp [fits]), if_neg (by simp [ready]), if_neg (by simp [free]), if_neg (by simp [pair]), callNo_ringDestination]
  rfl
end
theorem orderAssignDestination_invalid (out : identIx 8 spur = none ∨ slotOf slot = none ∨ farOfCode far = none) :
    orderAssignDestination spur priority slot far s = answer .invalid s := by
  unfold orderAssignDestination
  split
  · next spurred slotted sided => simp [spurred, slotted, sided] at out
  · rfl
end

/-- Settles O37: by the tests of the owner's answer, in their order. -/
theorem assignDestinationRings : Obligations.AssignDestinationRings := by
  intro h spur priority slot far s takes
  have answered {r : Result} {fields : List Octet} {t : State}
      (answers : orderAssignDestination spur priority slot far (taken 11 s) = { state := t, result := r, fields := fields })
      (idle : NoNotices t) : exec (.callAssignDestination h spur priority slot far) s = .next (replied h 11 r fields t) :=
    (exec_callAssignDestination h).trans (orderArrives_open takes rfl rfl answers idle)
  refine ⟨fun p sl f spurred slotted sided => ⟨fun unfit => ?_, fun low voice => ⟨fun unready => ?_, fun up within => ⟨fun busy => ?_,
    fun free => ⟨fun full => ?_, fun r found => ⟨fun used => ?_, fun pair => ?_⟩⟩⟩⟩⟩, fun out => ?_⟩
  · exact answered (orderAssignDestination_unfit (s := taken 11 s) spurred slotted sided unfit) takes.settled
  · exact answered (orderAssignDestination_notReady (s := taken 11 s) spurred slotted sided ⟨low, voice⟩ unready) takes.settled
  · exact answered (orderAssignDestination_busy (s := taken 11 s) spurred slotted sided ⟨low, voice⟩ ⟨up, within⟩ busy) takes.settled
  · exact answered (orderAssignDestination_full (s := taken 11 s) spurred slotted sided ⟨low, voice⟩ ⟨up, within⟩ free full) takes.settled
  · exact answered (orderAssignDestination_conflict (s := taken 11 s) spurred slotted sided ⟨low, voice⟩ ⟨up, within⟩ free found used)
      takes.settled
  · have done := orderAssignDestination_done (s := taken 11 s) spurred slotted sided ⟨low, voice⟩ ⟨up, within⟩ free found pair
    have frame : CallsFrame (taken 11 s) (ringDestination r p priority sl f (taken 11 s)) := callsFrame_ringDestination
    have framed := frame.replied_sameBridge h 11 .done [octet (r.val + 1), octet s.calls.counter] bridge_ringDestination
      collisions_ringDestination rfl
    have own := (call_replied h 11 .done [octet (r.val + 1), octet s.calls.counter] _ r).trans
      (call_ringDestination (s := taken 11 s) (r := r) (p := p) (priority := priority) (sl := sl) (f := f))
    refine ⟨_, answered done (frame.noNotices takes.settled), congrArg CallRec.state own, congrArg CallRec.role own,
      congrArg CallRec.origin own, congrArg CallRec.priority own, congrArg CallRec.slot own, congrArg CallRec.far own, ?_,
      congrArg CallRec.timer own, congrArg CallRec.entry own, fun q ne => ?_, ?_, ?_, ?_, ?_, ?_, framed⟩
    · rw [call_replied]; exact callNo_ringDestination
    · rw [call_replied]; exact call_ringDestination_ne ne
    · rw [slots_replied, slots_ringDestination]; exact add_installPair _ r f sl
    · rw [slots_replied, slots_ringDestination]; exact drop_installPair _ r f sl
    · rw [calls_replied]; exact counter_ringDestination
    · rw [spurs_replied, spurs_ringDestination]; exact spurs_offer_congr s p _ rfl rfl
    · rw [held_replied]; exact held_ringDestination
  · exact answered (orderAssignDestination_invalid (s := taken 11 s) out) takes.settled

/-! ## CALL CONNECT, CALL RELEASE and CALL REFUSE (R94 to R97) -/

section
variable {s : State} {index callNo reason : Nat} {r : RecId}

theorem connectCall_eq : connectCall r s =
    toneOpt (s.call r).origin .silent (startOwn (s.call r) (enterCall r .connected id s)) := by
  have record : (enterCall r .connected id s).call r = entered .connected s.line.cycle (s.call r) := call_enterCall s r _ _
  have started : connectCall r s = toneOpt ((enterCall r .connected id s).call r).origin .silent
      (startOwn ((enterCall r .connected id s).call r) (enterCall r .connected id s)) := rfl
  rw [started, record]
  rfl
theorem outsideCalls_connectCall : outsideCalls (connectCall r s) = outsideCalls s := by
  rw [connectCall_eq, outsideCalls_toneOpt, outsideCalls_startOwn, outsideCalls_enterCall]
theorem call_connectCall : (connectCall r s).call r =
    { s.call r with state := .connected, entry := some s.line.cycle, timer := some 0 } := by
  rw [connectCall_eq, call_toneOpt, call_startOwn, call_enterCall]
  rfl
theorem call_connectCall_ne {q : RecId} (ne : q ≠ r) : (connectCall r s).call q = s.call q := by
  rw [connectCall_eq, call_toneOpt, call_startOwn, call_enterCall_ne _ _ _ _ _ ne]
theorem bridge_connectCall : (connectCall r s).slots.bridge = s.slots.bridge := by
  rw [connectCall_eq, slots_toneOpt, bridge_startOwn, slots_enterCall]
theorem continuity_connectCall {far : Side} {sl : Slot} (hfar : (s.call r).far = some far) (hslot : (s.call r).slot = some sl) :
    ((connectCall r s).slots.map.get (dropIx far sl)).continuity = 0 := by
  rw [connectCall_eq, slots_toneOpt]; exact continuity_startOwn _ _ hfar hslot
theorem spurs_connectCall : (connectCall r s).spurs = (toneOpt (s.call r).origin .silent s).spurs := by
  rw [connectCall_eq]
  refine spurs_toneOpt_congr s _ _ ?_ ?_
  · rw [spurs_startOwn, spurs_enterCall]
  · rw [working_startOwn, working_enterCall]
theorem held_connectCall : (connectCall r s).held (.call r) = markHeld (s.held (.call r)) := by
  rw [connectCall_eq, State.held, mgmt_toneOpt, mgmt_startOwn]; exact held_enterCall _ _

section
variable (unmatched : s.matchCall index callNo = none)
include unmatched
theorem orderConnect_unmatched : orderConnect index callNo s = answer .invalid s := by simp only [orderConnect, unmatched]
theorem orderRelease_unmatched : orderRelease index callNo s = answer .invalid s := by simp only [orderRelease, unmatched]
theorem orderRefuse_unmatched : orderRefuse index callNo reason s = answer .invalid s := by simp only [orderRefuse, unmatched]
end

section
variable (matched : s.matchCall index callNo = some r)
include matched
theorem orderConnect_alerting (alerting : (s.call r).state = .alerting ∧ (s.call r).role = some .origin) :
    orderConnect index callNo s = answer .done (connectCall r s) := by
  simp only [orderConnect, matched]
  exact if_pos alerting
theorem orderConnect_connected (connected : (s.call r).state = .connected) : orderConnect index callNo s = answer .done s := by
  simp [orderConnect, matched, connected]
theorem orderConnect_other (other : (s.call r).state ≠ .connected)
    (quiet : ¬ ((s.call r).state = .alerting ∧ (s.call r).role = some .origin)) : orderConnect index callNo s = answer .invalid s := by
  simp only [orderConnect, matched]
  rw [if_neg quiet, if_neg other]
theorem orderRelease_matched : orderRelease index callNo s = answer .done (clearCall r .normal s) := by
  simp only [orderRelease, matched]
theorem orderRefuse_refused
    (waiting : (s.call r).role = some .origin ∧
      ((s.call r).state = .requested ∨ (s.call r).state = .held ∨ (s.call r).state = .alerting)) :
    orderRefuse index callNo reason s = answer .done (clearCall r (refuseCause reason) s) := by
  simp only [orderRefuse, matched]
  exact if_pos waiting
theorem orderRefuse_cleared (cleared : (s.call r).state = .cleared) : orderRefuse index callNo reason s = answer .done s := by
  simp [orderRefuse, matched, cleared]
theorem orderRefuse_other (other : (s.call r).state ≠ .cleared) (quiet : ¬ ((s.call r).role = some .origin ∧
    ((s.call r).state = .requested ∨ (s.call r).state = .held ∨ (s.call r).state = .alerting))) :
    orderRefuse index callNo reason s = answer .invalid s := by
  simp only [orderRefuse, matched]
  rw [if_neg quiet, if_neg other]
end
end

/-- Settles O38: by the state in which each order finds the record. -/
theorem connectReleaseRefuse : Obligations.ConnectReleaseRefuse := by
  intro h index callNo reason s takes
  have connects {res : Result} {t : State} (answers : orderConnect index callNo (taken 12 s) = answer res t) (idle : NoNotices t) :
      exec (.callConnect h index callNo) s = .next (replied h 12 res [] t) :=
    Eq.trans rfl (orderArrives_open (o := .callConnect index callNo) takes rfl rfl answers idle)
  have releases {res : Result} {t : State} (answers : orderRelease index callNo (taken 13 s) = answer res t) (idle : NoNotices t) :
      exec (.callRelease h index callNo) s = .next (replied h 13 res [] t) :=
    Eq.trans rfl (orderArrives_open (o := .callRelease index callNo) takes rfl rfl answers idle)
  have refuses {res : Result} {t : State} (answers : orderRefuse index callNo reason (taken 14 s) = answer res t) (idle : NoNotices t) :
      exec (.callRefuse h index callNo reason) s = .next (replied h 14 res [] t) :=
    Eq.trans rfl (orderArrives_open (o := .callRefuse index callNo reason) takes rfl rfl answers idle)
  refine ⟨fun unmatched => ⟨connects (orderConnect_unmatched (s := taken 12 s) unmatched) takes.settled,
    releases (orderRelease_unmatched (s := taken 13 s) unmatched) takes.settled,
    refuses (orderRefuse_unmatched (s := taken 14 s) unmatched) takes.settled⟩, fun r matched => ?_⟩
  have cleared (code : Nat) (c : ClearCause) (used : (s.call r).inUse = true) :
      CallCleared r c (replied h code .done [] (taken code s)) (replied h code .done [] (clearCall r c (taken code s))) :=
    callCleared_replied h code .done [] (clearCall_cleared (s := taken code s) c used)
  have idle (code : Nat) (c : ClearCause) : NoNotices (clearCall r c (taken code s)) :=
    noNotices_of_outsideCalls (outsideCalls_clearCall (taken code s) r c) takes.settled
  refine ⟨fun alerting origin => ?_, fun connected => ?_, fun other quiet => ?_, fun used => ?_, fun gone => ⟨?_, ?_⟩,
    fun origin waiting => ?_, fun other quiet => ?_⟩
  · have outside : outsideCalls (connectCall r (taken 12 s)) = outsideCalls (taken 12 s) := outsideCalls_connectCall
    have framed := (frame_of_outsideCalls outside).replied_sameBridge h 12 .done [] bridge_connectCall
      (collisions_of_outsideCalls outside) rfl
    refine ⟨_, connects (orderConnect_alerting (s := taken 12 s) matched ⟨alerting, origin⟩)
      (noNotices_of_outsideCalls outside takes.settled), ?_, fun q ne => ?_, fun f sl hfar hslot => ?_, ?_, ?_, framed⟩
    · rw [call_replied]; exact call_connectCall
    · rw [call_replied]; exact call_connectCall_ne ne
    · rw [slots_replied]; exact continuity_connectCall hfar hslot
    · rw [spurs_replied, spurs_connectCall]; exact spurs_toneOpt_congr s _ _ rfl rfl
    · rw [held_replied]; exact held_connectCall
  · exact connects (orderConnect_connected (s := taken 12 s) matched connected) takes.settled
  · exact connects (orderConnect_other (s := taken 12 s) matched other quiet) takes.settled
  · exact ⟨_, releases (orderRelease_matched (s := taken 13 s) matched) (idle 13 .normal), cleared 13 .normal used⟩
  · have rest : ((taken 13 s).call r).inUse = false := by
      have state : ((taken 13 s).call r).state = .cleared := gone
      simp [CallRec.inUse, state]
    have released := orderRelease_matched (s := taken 13 s) matched
    rw [clearCall_not_inUse _ _ _ rest] at released
    exact releases released takes.settled
  · exact refuses (orderRefuse_cleared (s := taken 14 s) matched gone) takes.settled
  · have used : (s.call r).inUse = true := by
      obtain at_ | at_ | at_ := waiting
      · simp [CallRec.inUse, at_]
      · simp [CallRec.inUse, at_]
      · simp [CallRec.inUse, at_]
    exact ⟨_, refuses (orderRefuse_refused (s := taken 14 s) matched ⟨origin, waiting⟩) (idle 14 _),
      cleared 14 (refuseCause reason) used⟩
  · exact refuses (orderRefuse_other (s := taken 14 s) matched other quiet) takes.settled

end Sys2Proof.Safety
end

section
/-! PROOFS. The family of the heading blocks: what each operation of the Block Controller does to one master, and that it keeps the
lists and waits of the master in form (R105, R106, R108 to R113, R117, R120, R122, R123). -/

namespace Sys2Proof.Safety
open Sys2Proof.Machine

/-! ## One master's tags (R105, R108) -/

/-- Every place of a master that holds a truck's tag. -/
def masterTags (m : Master) : List Nat := listTags m.list ++ listTags m.faults ++ m.mWait.toList ++ m.fWait.toList

section
variable {convoy cycle t : Nat} {atTrip : Bool} {e : BlockEnd} {m n : Master}

theorem knows_iff : m.knows t = true ↔ t ∈ masterTags m := by
  simp [Master.knows, masterTags, or_assoc]
theorem listTags_filter (l : List Truck) : listTags (l.filter (·.tag ≠ t)) = (listTags l).filter (· ≠ t) := by
  simp only [listTags, List.filter_map]
  rfl
theorem listTags_append (l k : List Truck) : listTags (l ++ k) = listTags l ++ listTags k := List.map_append
/-- R108: a tag that is granted joins the list, and one that waits at the end has left its wait. -/
theorem masterTags_grant : (masterTags (masterGrant e t cycle m)).Perm
    (if m.waitAt e = some t then masterTags m else t :: masterTags m) := by
  rw [List.perm_iff_count]
  intro a
  split
  · next waits =>
    cases e <;> simp only [Master.waitAt] at waits <;>
      simp [masterTags, masterGrant, Master.waitAt, Master.setWait, waits, listTags, List.count_cons] <;> omega
  · next free =>
    cases e <;> simp only [Master.waitAt] at free <;>
      simp [masterTags, masterGrant, Master.waitAt, free, listTags, List.count_cons] <;> omega
theorem masterTags_setWait : (masterTags (m.setWait e (some t))).Perm (t :: masterTags (m.setWait e none)) := by
  rw [List.perm_iff_count]
  intro a
  cases e <;> simp [masterTags, Master.setWait, List.count_cons] <;> omega
theorem masterTags_clearWait : (masterTags (m.setWait e none)).Sublist (masterTags m) := by
  cases e with
  | master => exact ((List.Sublist.refl _).append (List.nil_sublist _)).append (List.Sublist.refl _)
  | far => exact (List.Sublist.refl _).append (List.nil_sublist _)

/-! ## The form of one master (R105, R106) -/

/-- The room, the state and the fault list of a master, its tags left aside. -/
structure Placed (convoy : Nat) (m : Master) : Prop where
  room    : m.list.length ≤ max 1 convoy ∧ m.faults.length ≤ max 1 convoy
  engaged : m.state.engaged = !m.list.isEmpty
  faults  : m.state = .fault ∨ m.faults = []

theorem masterFormed_iff : MasterFormed convoy m ↔ (masterTags m).Nodup ∧ Placed convoy m :=
  ⟨fun h => ⟨h.once, h.room, h.engaged, h.faults⟩, fun h => ⟨h.2.room, h.1, h.2.engaged, h.2.faults⟩⟩
theorem MasterFormed.placed (h : MasterFormed convoy m) : Placed convoy m := (masterFormed_iff.mp h).2
/-- What of a master its form reads. -/
def formPart (m : Master) : BlockState × List Nat × List Nat × Option Nat × Option Nat :=
  (m.state, listTags m.list, listTags m.faults, m.mWait, m.fWait)
theorem MasterFormed.same (h : MasterFormed convoy m) (e : formPart n = formPart m) : MasterFormed convoy n := by
  simp only [formPart, Prod.mk.injEq] at e
  obtain ⟨state, list, faults, mWait, fWait⟩ := e
  have lengths {l k : List Truck} (tags : listTags l = listTags k) : l.length = k.length := by
    simpa [listTags] using congrArg List.length tags
  refine ⟨?_, ?_, ?_, ?_⟩
  · rw [lengths list, lengths faults]; exact h.room
  · rw [list, faults, mWait, fWait]; exact h.once
  · have empty : n.list.isEmpty = m.list.isEmpty := by simpa [listTags] using congrArg List.isEmpty list
    rw [state, empty]; exact h.engaged
  · rw [state, ← List.length_eq_zero_iff, lengths faults, List.length_eq_zero_iff]; exact h.faults
theorem Placed.stands (h : Placed convoy m) (list : n.list = m.list) (faults : n.faults = m.faults)
    (engaged : n.state.engaged = m.state.engaged) (fault : m.state = .fault → n.state = .fault) : Placed convoy n where
  room := by rw [list, faults]; exact h.room
  engaged := by rw [engaged, list]; exact h.engaged
  faults := by rw [faults]; exact h.faults.imp_left fault
theorem Placed.list_nil (h : Placed convoy m) (idle : m.state.engaged = false) : m.list = [] := by
  simpa using h.engaged.symm.trans idle
theorem Placed.faults_nil (h : Placed convoy m) (sound : m.state ≠ .fault) : m.faults = [] := h.faults.resolve_left sound

/-! ## Claims and waits (R108 to R110) -/

@[simp] theorem list_masterGrant : (masterGrant e t cycle m).list = m.list ++ [{ tag := t, cycle := cycle, age := 0, overdue := false }] := by
  simp only [masterGrant]; split
  · cases e <;> rfl
  · rfl
@[simp] theorem faults_masterGrant : (masterGrant e t cycle m).faults = m.faults := by
  simp only [masterGrant]; split
  · cases e <;> rfl
  · rfl
theorem state_masterGrant (place : m.state = .free ∨ m.state = .held) : (masterGrant e t cycle m).state = .held := by
  simp only [masterGrant]
  obtain free | held := place
  · split
    · cases e <;> simp [Master.setWait, free]
    · simp
  · split
    · cases e <;> simp [Master.setWait, held]
    · simp [held]
theorem masterGrants_place (grants : masterGrants convoy atTrip e m = true) :
    m.state = .free ∨ m.state = .held ∧ m.list.length < convoy := by
  unfold masterGrants at grants
  split at grants
  · next free => exact .inl free
  · next held => simp only [Bool.and_eq_true, decide_eq_true_eq] at grants; exact .inr ⟨held, grants.1.2⟩
  · cases grants
theorem masterWait_eq : masterWait atTrip e t m = { m.setWait e (some t) with
    goTag := if e = .master then none else m.goTag
    state := if m.state = .held ∧ (m.setWait e (some t)).opposed atTrip = true then .draining else m.state } := by
  by_cases turns : m.state = .held ∧ (m.setWait e (some t)).opposed atTrip = true
  · rw [if_pos turns]
    cases e <;> exact if_pos turns
  · rw [if_neg turns]
    cases e <;> exact if_neg turns
/-- R109: a wait moves its own field, the GO and, where it opposes, the state. -/
theorem masterWait_cases : masterTags (masterWait atTrip e t m) = masterTags (m.setWait e (some t)) ∧
    (masterWait atTrip e t m).list = m.list ∧ (masterWait atTrip e t m).faults = m.faults ∧
    ((masterWait atTrip e t m).state = m.state ∨ m.state = .held ∧ (masterWait atTrip e t m).state = .draining) := by
  rw [masterWait_eq]
  refine ⟨by cases e <;> rfl, by cases e <;> rfl, by cases e <;> rfl, ?_⟩
  by_cases turns : m.state = .held ∧ (m.setWait e (some t)).opposed atTrip = true
  · exact .inr ⟨turns.1, if_pos turns⟩
  · exact .inl (if_neg turns)
/-- R109: a grant keeps the form where the block is FREE, or HELD with room, and the tag is new or waits at that end. -/
theorem MasterFormed.grant (h : MasterFormed convoy m) (place : m.state = .free ∨ m.state = .held ∧ m.list.length < convoy)
    (own : m.waitAt e = some t ∨ t ∉ masterTags m) : MasterFormed convoy (masterGrant e t cycle m) := by
  have state := state_masterGrant (cycle := cycle) (e := e) (t := t) (place.imp_right And.left)
  refine masterFormed_iff.mpr ⟨?_, ?_, ?_, .inr ?_⟩
  · rw [masterTags_grant.nodup_iff]
    split
    · exact h.once
    · next free => exact List.nodup_cons.mpr ⟨own.resolve_left free, h.once⟩
  · refine ⟨?_, by simpa using h.room.2⟩
    obtain free | ⟨held, room⟩ := place
    · simp [h.placed.list_nil (by rw [free]; rfl)]
    · simp only [list_masterGrant, List.length_append, List.length_singleton]; omega
  · simp [state, BlockState.engaged]
  · rw [faults_masterGrant]
    refine h.placed.faults_nil ?_
    obtain free | ⟨held, -⟩ := place
    · rw [free]; nofun
    · rw [held]; nofun
/-- R109: a wait keeps the form where the tag is new or waits at that end already. -/
theorem MasterFormed.wait (h : MasterFormed convoy m) (own : m.waitAt e = some t ∨ t ∉ masterTags m) :
    MasterFormed convoy (masterWait atTrip e t m) := by
  obtain ⟨tags, list, faults, state⟩ := masterWait_cases (atTrip := atTrip) (e := e) (t := t) (m := m)
  refine masterFormed_iff.mpr ⟨?_, h.placed.stands list faults ?_ fun fault => ?_⟩
  · rw [tags]
    obtain held | new := own
    · rw [setWait_same held]; exact h.once
    · rw [masterTags_setWait.nodup_iff, List.nodup_cons]
      exact ⟨fun mem => new (masterTags_clearWait.subset mem), h.once.sublist masterTags_clearWait⟩
  · obtain same | ⟨held, draining⟩ := state
    · rw [same]
    · rw [held, draining]; rfl
  · obtain same | ⟨held, -⟩ := state
    · rw [same, fault]
    · rw [held] at fault; cases fault
theorem MasterFormed.claim (h : MasterFormed convoy m) (own : m.waitAt e = some t ∨ t ∉ masterTags m) :
    MasterFormed convoy (masterClaim convoy cycle atTrip e t m) := by
  unfold masterClaim; split
  · next grants => exact h.grant (masterGrants_place grants) own
  · exact h.wait own
theorem MasterFormed.serveAt (h : MasterFormed convoy m) (e : BlockEnd) : MasterFormed convoy (masterServeAt convoy cycle atTrip m e) := by
  unfold masterServeAt; split
  · next waits => exact h.claim (.inl waits)
  · exact h
/-- R110: the waits served keep the form. -/
theorem MasterFormed.serve (h : MasterFormed convoy m) : MasterFormed convoy (masterServe convoy cycle atTrip m) := by
  unfold masterServe
  split
  · exact List.foldlRecOn _ _ h fun m h e _ => h.serveAt e
  · next held =>
    split
    · exact masterFormed_iff.mpr ⟨h.once, h.placed.stands rfl rfl (by simp [held, BlockState.engaged]) (by simp [held])⟩
    · split
      · split
        · next waits =>
          split
          · next room => exact h.grant (.inr ⟨held, by simp_all⟩) (.inl waits)
          · exact h
        · exact h
      · exact h
  · exact h

/-! ## Exits (R111, R112) -/

/-- R111: an exit out of order is an anomaly. -/
def masterOdd (t : Nat) (l : List Truck) (m : Master) : Master := if notOldest t l then addAnomaly (.order t) m else m
/-- R111: a truck leaves the truck list. -/
def masterLeft (t : Nat) (m : Master) : Master :=
  let l := m.list.filter (·.tag ≠ t)
  masterOdd t m.list { m with
    list := l, memory := remember t m.memory, goTag := if m.goTag = some t then none else m.goTag
    state := if l.isEmpty then (if m.state = .closing then .closed else .free) else m.state }
/-- R111: a truck leaves the fault list. -/
def masterLeftFaults (t : Nat) (m : Master) : Master :=
  masterOdd t m.faults { m with faults := m.faults.filter (·.tag ≠ t), memory := remember t m.memory }

@[simp] theorem formPart_addAnomaly (a : Anomaly) (m : Master) : formPart (addAnomaly a m) = formPart m := by
  unfold addAnomaly; split <;> rfl
@[simp] theorem formPart_masterOdd (l : List Truck) : formPart (masterOdd t l m) = formPart m := by
  unfold masterOdd; split
  · exact formPart_addAnomaly _ _
  · rfl
theorem MasterFormed.odd (h : MasterFormed convoy m) (l : List Truck) : MasterFormed convoy (masterOdd t l m) :=
  h.same (formPart_masterOdd l)
/-- A master from which trucks have gone holds no tag twice. -/
theorem once_of_subset (h : MasterFormed convoy m) (list : n.list.Sublist m.list) (faults : n.faults.Sublist m.faults)
    (mWait : n.mWait = m.mWait) (fWait : n.fWait = m.fWait) : (masterTags n).Nodup := by
  refine h.once.sublist ?_
  rw [masterTags, mWait, fWait]
  exact (((list.map _).append (faults.map _)).append (List.Sublist.refl _)).append (List.Sublist.refl _)
theorem MasterFormed.left (h : MasterFormed convoy m) (listed : t ∈ listTags m.list) : MasterFormed convoy (masterLeft t m) := by
  have engaged : m.state.engaged = true := by
    rw [h.engaged]
    cases list : m.list with
    | nil => simp [list, listTags] at listed
    | cons x l => rfl
  have sound : m.state ≠ .fault := fun fault => by rw [fault] at engaged; cases engaged
  unfold masterLeft
  apply MasterFormed.odd
  refine masterFormed_iff.mpr ⟨once_of_subset h List.filter_sublist (List.Sublist.refl _) rfl rfl, ⟨?_, h.room.2⟩, ?_,
    .inr (h.placed.faults_nil sound)⟩
  · exact (List.length_filter_le _ _).trans h.room.1
  · dsimp only
    cases empty : (m.list.filter (·.tag ≠ t)).isEmpty
    · rw [if_neg (by simp)]; exact engaged
    · rw [if_pos rfl]; split <;> rfl
theorem MasterFormed.leftFaults (h : MasterFormed convoy m) : MasterFormed convoy (masterLeftFaults t m) := by
  unfold masterLeftFaults
  apply MasterFormed.odd
  refine masterFormed_iff.mpr ⟨once_of_subset h (List.Sublist.refl _) List.filter_sublist rfl rfl, ⟨h.room.1, ?_⟩, h.engaged, ?_⟩
  · exact (List.length_filter_le _ _).trans h.room.2
  · exact h.faults.imp_right fun none => by simp [none]

/-! ## Faults, opening and closing (R117, R120, R122, R123) -/

/-- R120: a master enters FAULT; one in FAULT stands. -/
def masterFaulted (m : Master) : Master :=
  if m.state = .fault then m
  else { m with state := .fault, faults := m.list, faultDir := m.dir, list := [], dir := none, goTag := none }
/-- R117: the far ready flag of a master is written. -/
def masterReady (ready : Bool) (m : Master) : Master :=
  if m.farReady && !ready then masterFaulted { m with farReady := ready } else { m with farReady := ready }
/-- R122: the master of an opening block before its waits are served; none where an opening changes nothing. -/
def masterOpening (clear : Bool) (m : Master) : Option Master :=
  match m.state with
  | .closed => some { m with state := .free }
  | .fault =>
    some (if clear || m.faults.isEmpty then { m with state := .free, faults := [], faultDir := none }
      else { m with state := .held, list := m.faults, dir := m.faultDir, faults := [], faultDir := none })
  | .closing => some (if clear then { m with state := .free, list := [], goTag := none } else { m with state := .held })
  | _ => none
/-- R123: the state of a block that is closed. -/
def closedState : BlockState → BlockState
  | .held => .closing | .draining => .closing | .free => .closed | st => st

theorem MasterFormed.faulted (h : MasterFormed convoy m) : MasterFormed convoy (masterFaulted m) := by
  unfold masterFaulted; split
  · exact h
  · next sound =>
    have once := h.once
    rw [h.placed.faults_nil sound, show listTags [] = [] from rfl, List.append_nil] at once
    exact ⟨⟨Nat.zero_le _, h.room.1⟩, once, rfl, .inl rfl⟩
theorem MasterFormed.ready (h : MasterFormed convoy m) (ready : Bool) : MasterFormed convoy (masterReady ready m) := by
  unfold masterReady; split
  · exact (h.same (n := { m with farReady := ready }) rfl).faulted
  · exact h.same rfl
theorem MasterFormed.opening (h : MasterFormed convoy m) {clear : Bool} (opens : masterOpening clear m = some n) :
    MasterFormed convoy n := by
  unfold masterOpening at opens
  split at opens
  · next closed =>
    rw [← Option.some.inj opens]
    exact masterFormed_iff.mpr ⟨h.once, h.placed.stands rfl rfl (by rw [closed]; rfl) (by simp [closed])⟩
  · next fault =>
    have none : m.list = [] := h.placed.list_nil (by rw [fault]; rfl)
    rw [← Option.some.inj opens]
    split
    · exact masterFormed_iff.mpr ⟨once_of_subset h (List.Sublist.refl _) (List.nil_sublist _) rfl rfl, ⟨h.room.1, Nat.zero_le _⟩,
        by simp [none, BlockState.engaged], .inr rfl⟩
    · next kept =>
      have once := h.once
      rw [none] at once
      refine masterFormed_iff.mpr ⟨?_, ⟨h.room.2, Nat.zero_le _⟩, ?_, .inr rfl⟩
      · simpa [masterTags, listTags] using once
      · simp only [Bool.or_eq_true, not_or, Bool.not_eq_true] at kept
        rw [kept.2]; rfl
  · next closing =>
    have sound : m.faults = [] := h.placed.faults_nil (by simp [closing])
    rw [← Option.some.inj opens]
    split
    · exact masterFormed_iff.mpr ⟨once_of_subset h (List.nil_sublist _) (List.Sublist.refl _) rfl rfl, ⟨Nat.zero_le _, h.room.2⟩, rfl,
        .inr sound⟩
    · exact masterFormed_iff.mpr ⟨h.once, h.placed.stands rfl rfl (by rw [closing]; rfl) (by simp [closing])⟩
  · cases opens
theorem MasterFormed.closed (h : MasterFormed convoy m) : MasterFormed convoy { m with state := closedState m.state } := by
  refine masterFormed_iff.mpr ⟨h.once, h.placed.stands rfl rfl ?_ ?_⟩
  · cases m.state <;> rfl
  · intro fault; rw [fault]; rfl

/-! ## Overdue trucks and ages (R113) -/

/-- R113: a truck is marked overdue wherever it is listed. -/
def masterOverdue (t : Nat) (m : Master) : Master :=
  addAnomaly (.overdue t) { m with list := markOverdue t m.list, faults := markOverdue t m.faults }
theorem listTags_markOverdue (l : List Truck) : listTags (markOverdue t l) = listTags l := by
  simp only [listTags, markOverdue, List.map_map]
  refine List.map_congr_left fun x _ => ?_
  simp only [Function.comp_apply]; split <;> rfl
theorem MasterFormed.overdue (h : MasterFormed convoy m) : MasterFormed convoy (masterOverdue t m) :=
  h.same ((formPart_addAnomaly _ _).trans (by simp [formPart, listTags_markOverdue]))
theorem MasterFormed.aged (h : MasterFormed convoy m) (limit : Nat) : MasterFormed convoy (ageMaster limit m) := by
  have tags (l : List Truck) : listTags (l.map (ageTruck limit)) = listTags l := by simp [listTags, Function.comp_def, ageTruck]
  exact h.same (by simp [formPart, ageMaster, tags])
end

end Sys2Proof.Safety
end

section
/-! PROOFS. The family of the heading blocks: each operation of the Block Controller as what it does to its own master, and the form of
the masters under each (R105 to R124). -/

namespace Sys2Proof.Safety
open Sys2Proof.Machine

/-! ## The masters under the Block Controller's operations -/

/-- R111: an exit at a master. -/
def masterExit (convoy cycle : Nat) (atTrip : Bool) (e : BlockEnd) (t : Nat) (m : Master) : Master :=
  if (listTags m.list).contains t then masterServe convoy cycle atTrip (masterLeft t m)
  else if (listTags m.faults).contains t then masterLeftFaults t m
  else if m.memory.contains t then m
  else addAnomaly (.stray t e) m
/-- R122: an opening, with the waits then served. -/
def masterOpened (convoy cycle : Nat) (atTrip clear : Bool) (m : Master) : Master :=
  match masterOpening clear m with
  | some n => masterServe convoy cycle atTrip n
  | none => m

section
variable (s : State)

theorem blockPart_stands (i : BlockIx) : (blockPart s).set i (s.master i) = blockPart s := (blockPart s).set_self i
/-- The waits served after a write of the master. -/
theorem blockPart_serveWaits_set (i : BlockIx) (m : Master) {u : State} (written : blockPart u = (blockPart s).set i m) :
    blockPart (serveWaits i u) =
      (blockPart s).set i (masterServe (s.working.blocks.get i).convoy s.line.cycle s.atTrip m) := by
  rw [blockPart_serveWaits, written, BlockPart.set_set, BlockPart.serve, BlockPart.masters_set]
  rfl
theorem blockPart_takeClaim (i : BlockIx) (e : BlockEnd) (t : Nat) : blockPart (takeClaim i e t s) = (blockPart s).set i
    (if (s.master i).knows t then s.master i
      else masterClaim (s.working.blocks.get i).convoy s.line.cycle s.atTrip e t (s.master i)) := by
  unfold takeClaim; split
  · rw [blockPart_stands]
    unfold answerDuplicate
    cases e with
    | master => dsimp only; split <;> simp
    | far => dsimp only; split <;> simp
  · rw [blockPart_masterEvent, blockPart_decideClaim]
theorem blockPart_exitListed (i : BlockIx) (t : Nat) : blockPart (exitListed i t s) =
    (blockPart s).set i (masterServe (s.working.blocks.get i).convoy s.line.cycle s.atTrip (masterLeft t (s.master i))) := by
  refine blockPart_serveWaits_set s i _ ?_
  rw [blockPart_markIf, blockPart_mark, blockPart_setMaster]
  rfl
theorem blockPart_exitFaulted (i : BlockIx) (t : Nat) :
    blockPart (exitFaulted i t s) = (blockPart s).set i (masterLeftFaults t (s.master i)) := by
  simp only [exitFaulted, blockPart_markIf, blockPart_mark, blockPart_setMaster]
  rfl
theorem blockPart_takeExit (i : BlockIx) (e : BlockEnd) (t : Nat) : blockPart (takeExit i e t s) = (blockPart s).set i
    (masterExit (s.working.blocks.get i).convoy s.line.cycle s.atTrip e t (s.master i)) := by
  simp only [takeExit, masterExit]; repeat' split
  · rw [blockPart_masterEvent, blockPart_exitListed]
  · rw [blockPart_masterEvent, blockPart_exitFaulted]
  · exact (blockPart_stands s i).symm
  · rw [blockPart_mark, blockPart_setMaster]
theorem blockPart_masterFault (i : BlockIx) : blockPart (masterFault i s) = (blockPart s).set i (masterFaulted (s.master i)) := by
  simp only [masterFault, masterFaulted]; split
  · exact (blockPart_stands s i).symm
  · rw [blockPart_masterEvent, blockPart_mark, blockPart_setMaster]
theorem blockPart_setFarReady (i : BlockIx) (ready : Bool) :
    blockPart (setFarReady i ready s) = (blockPart s).set i (masterReady ready (s.master i)) := by
  simp only [setFarReady, masterReady]; split
  · rw [blockPart_masterFault, State.setMaster_master, blockPart_setMaster, BlockPart.set_set]
  · exact blockPart_setMaster s i _
/-- The event of an opening: its master, the mark and the waits served (R110, R122). -/
def openingEvent (i : BlockIx) (m : Master) (s : State) : State := serveWaits i ((s.setMaster i m).mark (.block i))
theorem openBlock_eq (i : BlockIx) (clear : Bool) : openBlock i clear s =
    match masterOpening clear (s.master i) with
    | some m => masterEvent i (openingEvent i m) s
    | none => s := by
  cases state : (s.master i).state with
  | fault => simp only [openBlock, masterOpening, state]; split <;> rfl
  | closing => simp only [openBlock, masterOpening, state]; split <;> rfl
  | closed => simp only [openBlock, masterOpening, state]; rfl
  | _ => simp only [openBlock, masterOpening, state]
theorem blockPart_openingEvent (i : BlockIx) (m : Master) : blockPart (openingEvent i m s) =
    (blockPart s).set i (masterServe (s.working.blocks.get i).convoy s.line.cycle s.atTrip m) := by
  unfold openingEvent
  apply blockPart_serveWaits_set
  rw [blockPart_mark, blockPart_setMaster]
theorem blockPart_openBlock (i : BlockIx) (clear : Bool) : blockPart (openBlock i clear s) = (blockPart s).set i
    (masterOpened (s.working.blocks.get i).convoy s.line.cycle s.atTrip clear (s.master i)) := by
  rw [openBlock_eq, masterOpened]
  cases masterOpening clear (s.master i) with
  | some m => exact (blockPart_masterEvent s i _).trans (blockPart_openingEvent s i m)
  | none => exact (blockPart_stands s i).symm
theorem blockPart_closeBlock (i : BlockIx) :
    blockPart (closeBlock i s) = (blockPart s).set i { s.master i with state := closedState (s.master i).state } := by
  have closed (st : BlockState) : blockPart (masterEvent i (fun u => (u.setMaster i { s.master i with state := st }).mark (.block i)) s) =
      (blockPart s).set i { s.master i with state := st } := by
    rw [blockPart_masterEvent]
    exact blockPart_setMaster s i _
  simp only [closeBlock]
  cases state : (s.master i).state with
  | held => exact closed _
  | draining => exact closed _
  | free => exact closed _
  | _ => simp only [closedState, ← state]; exact (blockPart_stands s i).symm
theorem blockPart_takeOverdue (i : BlockIx) (t : Nat) : blockPart (takeOverdue i t s) = blockPart s ∨
    blockPart (takeOverdue i t s) = (blockPart s).set i (masterOverdue t (s.master i)) := by
  simp only [takeOverdue]; split
  · exact .inr (blockPart_setMaster s i _)
  · exact .inl rfl

/-- R116, R130: an entry's records take their power-on values. -/
theorem blockPart_resetBlock (i : BlockIx) : blockPart (resetBlock i s) = (blockPart s).set i .start := by
  have masters : (resetBlock i s).master = Function.update s.master i .start := by
    funext j
    simp only [resetBlock, State.master, State.setBlocks_blocks, Tab.get_put, Function.update_apply]
    split <;> rfl
  simp only [blockPart, masters]
  rfl

/-! ### What the far ends leave alone -/

@[simp] theorem blockPart_setFar (i : BlockIx) (f : FarEnd) : blockPart (s.setFar i f) = blockPart s := by
  have masters : (s.setFar i f).master = s.master := by
    funext j
    simp only [State.master, State.setFar_blocks, Tab.get_put]
    split
    · next own => rw [own]
    · rfl
  simp only [blockPart, masters]
  rfl
theorem blockPart_farEvent (i : BlockIx) (f : State → State) : blockPart (farEvent i f s) = blockPart (f s) := by
  simp only [farEvent, blockPart_reformLights]
  split <;> simp
@[simp] theorem blockPart_setClaim (i : BlockIx) (c : Option (Nat × Standing)) : blockPart (setClaim i c s) = blockPart s := by
  unfold setClaim; split <;> simp
@[simp] theorem blockPart_setExits (i : BlockIx) (l : List Nat) : blockPart (setExits i l s) = blockPart s := by
  unfold setExits; split <;> simp
@[simp] theorem blockPart_farArriving (i : BlockIx) (t : Nat) : blockPart (farArriving i t s) = blockPart s := by
  rw [farArriving, blockPart_farEvent, blockPart_post]
  split <;> split <;> simp
@[simp] theorem blockPart_farLeaving (i : BlockIx) (t : Nat) : blockPart (farLeaving i t s) = blockPart s := by
  rw [farLeaving, blockPart_farEvent]; simp
@[simp] theorem blockPart_farAnswer (i : BlockIx) (t : Nat) (st : Standing) : blockPart (farAnswer i t st s) = blockPart s := by
  unfold farAnswer; repeat' split
  · rw [blockPart_farEvent, blockPart_setClaim]
  all_goals rfl
@[simp] theorem blockPart_farTakeState (i : BlockIx) (m : Mirror) : blockPart (farTakeState i m s) = blockPart s := by
  rw [farTakeState, blockPart_farEvent]; simp
@[simp] theorem blockPart_postReadiness (i : BlockIx) : blockPart (postReadiness i s) = blockPart s := by simp [postReadiness]
@[simp] theorem blockPart_recheckFar (s0 : State) : blockPart (recheckFar s0 s) = blockPart s :=
  blockPart_forEach s 4 _ fun i s => by
    have checked : blockPart (farEvent i (fun s =>
        if s.farFaultNow i = (s.farEnd i).localFault then s
        else (s.setFar i { s.farEnd i with localFault := s.farFaultNow i }).mark (.block i)) s) = blockPart s := by
      rw [blockPart_farEvent]; split <;> simp
    simp only; repeat' split
    · exact checked
    · rw [blockPart_postReadiness, checked]
    · rfl
@[simp] theorem blockPart_mirrorsLost : blockPart (mirrorsLost s) = blockPart s :=
  blockPart_forEach s 4 _ fun i s => by
    split
    · rw [blockPart_farEvent]; simp
    · rfl
@[simp] theorem blockPart_blocksSpurUp (p : SpurId) (s0 : State) : blockPart (blocksSpurUp p s0 s) = blockPart s := by
  simp [blocksSpurUp]
@[simp] theorem blockPart_blocksPortUp (d : Side) (s0 : State) : blockPart (blocksPortUp d s0 s) = blockPart s := by
  cases d
  · rfl
  · exact blockPart_recheckFar s s0
@[simp] theorem blockPart_blockTurn (i : BlockIx) : blockPart (blockTurn i s) = blockPart s := by
  have posted (l : List Nat) (s : State) : blockPart (l.foldl (fun s t => post .outbye (.exit (s.blockId i) t) s) s) = blockPart s :=
    foldl_keeps blockPart _ (fun s t => by simp) l s
  simp only [blockTurn, farTurn, postState]; repeat' split
  all_goals simp [posted]
end

/-! ## The form of the masters -/

/-- The masters, and the table that holds their convoy limits. -/
def trucksPart (s : State) : (BlockIx → Master) × Tab 4 BlockCfg := (s.master, s.working.blocks)

section
variable {s t : State}

theorem trucksPart_of_blockPart (h : blockPart t = blockPart s) : trucksPart t = trucksPart s :=
  congrArg (fun p : BlockPart => (p.masters, p.working.blocks)) h

namespace MastersFormed
theorem same (h : MastersFormed s) (e : trucksPart t = trucksPart s) : MastersFormed t := by
  intro i
  have master : t.master = s.master := congrArg Prod.fst e
  have blocks : t.working.blocks = s.working.blocks := congrArg Prod.snd e
  rw [master, blocks]
  exact h i
theorem stands (h : MastersFormed s) (e : blockPart t = blockPart s) : MastersFormed t := h.same (trucksPart_of_blockPart e)
/-- What leaves the masters alone keeps them in form. -/
theorem frame (e : blockPart t = blockPart s) (h : MastersFormed s) : MastersFormed t := h.stands e
/-- One master is written, in form. -/
theorem set {i : BlockIx} {m : Master} (h : MastersFormed s) (e : blockPart t = (blockPart s).set i m)
    (formed : MasterFormed (s.working.blocks.get i).convoy m) : MastersFormed t := by
  intro j
  have blocks : t.working.blocks = s.working.blocks := congrArg (fun p : BlockPart => p.working.blocks) e
  have master : t.master = Function.update s.master i m := congrArg BlockPart.masters e
  rw [blocks, master, Function.update_apply]
  split
  · next own => rw [own]; exact formed
  · exact h j

theorem takeClaim (i : BlockIx) (e : BlockEnd) (n : Nat) (h : MastersFormed s) : MastersFormed (takeClaim i e n s) := by
  refine h.set (blockPart_takeClaim s i e n) ?_
  split
  · exact h i
  · next new => exact (h i).claim (.inr fun known => new (knows_iff.mpr known))
theorem takeExit (i : BlockIx) (e : BlockEnd) (n : Nat) (h : MastersFormed s) : MastersFormed (takeExit i e n s) := by
  refine h.set (blockPart_takeExit s i e n) ?_
  unfold masterExit; repeat' split
  · next listed => exact ((h i).left (List.contains_iff_mem.mp listed)).serve
  · exact (h i).leftFaults
  · exact h i
  · exact (h i).same (formPart_addAnomaly _ _)
theorem masterFault (i : BlockIx) (h : MastersFormed s) : MastersFormed (masterFault i s) :=
  h.set (blockPart_masterFault s i) (h i).faulted
theorem setFarReady (i : BlockIx) (ready : Bool) (h : MastersFormed s) : MastersFormed (setFarReady i ready s) :=
  h.set (blockPart_setFarReady s i ready) ((h i).ready ready)
theorem openBlock (i : BlockIx) (clear : Bool) (h : MastersFormed s) : MastersFormed (openBlock i clear s) := by
  refine h.set (blockPart_openBlock s i clear) ?_
  unfold masterOpened; split
  · next opens => exact ((h i).opening opens).serve
  · exact h i
theorem closeBlock (i : BlockIx) (h : MastersFormed s) : MastersFormed (closeBlock i s) :=
  h.set (blockPart_closeBlock s i) (h i).closed
theorem takeOverdue (i : BlockIx) (n : Nat) (h : MastersFormed s) : MastersFormed (takeOverdue i n s) := by
  obtain same | marked := blockPart_takeOverdue s i n
  · exact h.stands same
  · exact h.set marked (h i).overdue
theorem blockTag (p : SpurId) (n sense : Nat) (h : MastersFormed s) : MastersFormed (blockTag p n sense s) := by
  unfold Machine.blockTag; repeat' split
  · exact h
  · exact h
  · exact h.takeClaim _ _ _
  · exact h.takeExit _ _ _
  · exact h.stands (blockPart_farArriving s _ n)
  · exact h.stands (blockPart_farLeaving s _ n)
theorem takeNeighbour (d : Side) (m : NMsg) (h : MastersFormed s) : MastersFormed (takeNeighbour d m s) := by
  unfold Machine.takeNeighbour
  repeat' split
  · unfold neighbourClaim; repeat' split
    · exact h
    · exact h.takeClaim _ _ _
    · exact h
  · unfold neighbourExit; repeat' split
    · exact h
    · exact h.takeExit _ _ _
    · exact h
  · unfold neighbourFarState; split
    · exact h.setFarReady _ _
    · exact h
  · unfold neighbourGrant; repeat' split
    · exact h
    · exact h.stands (blockPart_farAnswer s _ _ _)
    · exact h
  · unfold neighbourWait; repeat' split
    · exact h
    · exact h.stands (blockPart_farAnswer s _ _ _)
    · exact h
  · unfold neighbourState; split
    · exact h.stands (blockPart_farTakeState s _ _)
    · exact h
  · exact h
  · exact h
/-- R120: the masters that a spur's or a port's loss puts into FAULT. -/
theorem blocksSpurLost (p : SpurId) (s0 : State) (h : MastersFormed s) : MastersFormed (blocksSpurLost p s0 s) := by
  refine stands (forEach_invariant MastersFormed 4 _ (fun i s h => ?_) s h) (blockPart_recheckFar _ s0)
  split
  · exact h.masterFault i
  · exact h
theorem blocksPortLost (d : Side) (s0 : State) (h : MastersFormed s) : MastersFormed (blocksPortLost d s0 s) := by
  cases d with
  | inbye =>
    refine forEach_invariant MastersFormed 4 _ (fun i s h => ?_) s h
    split
    · refine (h.set (blockPart_setMaster s i _) ?_).masterFault i
      exact (h i).same rfl
    · exact h
  | outbye => rw [blocksPortLost_outbye]; exact h.stands (by simp)
/-- R110, R124: the level falls from TRIP. -/
theorem atLevel {l : Level} (h : MastersFormed s) (e : blockPart t = (blockPart s).atLevel l) : MastersFormed t := by
  intro i
  have blocks : t.working.blocks = s.working.blocks := by
    refine (congrArg (fun p : BlockPart => p.working.blocks) e).trans ?_
    simp only [BlockPart.atLevel]; split <;> rfl
  have master : t.master i = ((blockPart s).atLevel l).masters i := congrArg (fun p : BlockPart => p.masters i) e
  rw [blocks, master, BlockPart.atLevel]
  split
  · simp only [BlockPart.fallen]; split
    · exact (h i).serve
    · exact h i
  · exact h i
/-- R116, R130: an entry's records take their power-on values. -/
theorem resetBlock (i : BlockIx) (h : MastersFormed s) : MastersFormed (resetBlock i s) :=
  h.set (blockPart_resetBlock s i) (masterFormed_start _)
end MastersFormed
end

end Sys2Proof.Safety
end

section
/-! PROOFS. The family of the heading blocks: every command keeps the masters in form (O8). -/

namespace Sys2Proof.Safety
open Sys2Proof.Machine

/-! ## What leaves the masters and their convoy limits alone -/

section
variable (s : State)

@[simp] theorem blockPart_setHook (p : SpurId) (b : Bool) : blockPart (s.setHook p b) = blockPart s := rfl
@[simp] theorem blockPart_setChan (c : ChanId) (x : Channel) : blockPart (s.setChan c x) = blockPart s := rfl
@[simp] theorem blockPart_setMgmt (m : Mgmt) : blockPart (s.setMgmt m) = blockPart s := rfl
@[simp] theorem blockPart_withdraw (x : Source) : blockPart (s.withdraw x) = blockPart s := rfl

/-! ### Calls -/

@[simp] theorem blockPart_freeCall (r : RecId) : blockPart (freeCall r s) = blockPart s := rfl
@[simp] theorem blockPart_numberCall (r : RecId) : blockPart (numberCall r s) = blockPart s := rfl
@[simp] theorem blockPart_reclaim (r : RecId) : blockPart (reclaim r s) = blockPart s := by unfold reclaim; split <;> rfl
@[simp] theorem blockPart_installPair (r : RecId) (far : Side) (sl : Slot) : blockPart (installPair r far sl s) = blockPart s := rfl
@[simp] theorem blockPart_startContinuity (far : Side) (sl : Slot) : blockPart (startContinuity far sl s) = blockPart s := rfl
@[simp] theorem blockPart_countRefused : blockPart (countRefused s) = blockPart s := rfl
@[simp] theorem blockPart_restartCalls : blockPart (restartCalls s) = blockPart s := rfl
@[simp] theorem blockPart_resetRequested : blockPart (resetRequested s) = blockPart s :=
  blockPart_forEach s 16 _ fun r s => by split <;> rfl
@[simp] theorem blockPart_completeCall (r : RecId) (d : Dialled) (k : Option Nat) : blockPart (completeCall r d k s) = blockPart s := by
  have admitted (s : State) : blockPart (admitCall r s) = blockPart s := by
    simp only [admitCall]; split <;> simp
  exact admitted _
@[simp] theorem blockPart_completeStation (r : RecId) (n d : Nat) : blockPart (completeStation r n d s) = blockPart s := by
  simp only [completeStation]; repeat' split
  all_goals simp
@[simp] theorem blockPart_takeDigit (p : SpurId) (d : Nat) : blockPart (takeDigit p d s) = blockPart s := by
  simp only [takeDigit]; split
  · rfl
  · next r _ =>
    have toned : blockPart (if (s.call r).digits.isEmpty then tone p .silent s else s) = blockPart s := by split <;> simp
    generalize (if (s.call r).digits.isEmpty then tone p .silent s else s) = u at toned
    split <;> simpa using toned
@[simp] theorem blockPart_startCall (p : SpurId) : blockPart (startCall p s) = blockPart s := by
  simp only [startCall]; split <;> simp
@[simp] theorem blockPart_liftHandset (p : SpurId) : blockPart (liftHandset p s) = blockPart s := by
  have answered (r : RecId) : blockPart (answerDestination r p s) = blockPart s := by
    simp only [answerDestination, blockPart_tone, blockPart_offer]; split <;> simp
  have answeredHere (r : RecId) : blockPart (answerLocal r p s) = blockPart s := by
    simp only [answerLocal]; split <;> simp
  unfold liftHandset; repeat' split
  all_goals simp [answered, answeredHere]
@[simp] theorem blockPart_takeOffhook (p : SpurId) : blockPart (takeOffhook p s) = blockPart s := by
  unfold takeOffhook; split <;> simp
@[simp] theorem blockPart_takeOnhook (p : SpurId) : blockPart (takeOnhook p s) = blockPart s := by
  unfold takeOnhook; split <;> simp
@[simp] theorem blockPart_callsAutonomous : blockPart (callsAutonomous s) = blockPart s := by simp [callsAutonomous]
@[simp] theorem blockPart_timeoutCall (st : CallState) (r : RecId) : blockPart (timeoutCall st r s) = blockPart s := by
  unfold timeoutCall; split <;> simp
@[simp] theorem blockPart_assignCall (r : RecId) (sl : Slot) (f : Side) : blockPart (assignCall r sl f s) = blockPart s := by
  simp [assignCall]
@[simp] theorem blockPart_ringDestination (r : RecId) (p : SpurId) (k : Nat) (sl : Slot) (f : Side) :
    blockPart (ringDestination r p k sl f s) = blockPart s := by simp [ringDestination]
@[simp] theorem blockPart_connectCall (r : RecId) : blockPart (connectCall r s) = blockPart s := by
  simp only [connectCall, blockPart_toneOpt]; split <;> simp

/-! ### Levels, refuges and actions -/

@[simp] theorem blockPart_setDistress (r : PairIx) (b : Bool) : blockPart (setDistress r b s) = blockPart s := by
  simp only [setDistress]; split <;> simp
@[simp] theorem blockPart_panelStartUp (r : PairIx) : blockPart (panelStartUp r s) = blockPart s := by simp [panelStartUp]
@[simp] theorem blockPart_notifyOccupied (r : PairIx) (n : Nat) : blockPart (notifyOccupied r n s) = blockPart s := by
  simp only [notifyOccupied]; split <;> simp
@[simp] theorem blockPart_replaceRefuge (r : PairIx) (y : Refuge) : blockPart (replaceRefuge r y s) = blockPart s := by
  obtain ⟨m, replaced⟩ := replaceRefuge_frame r y s
  rw [replaced]; rfl
@[simp] theorem blockPart_reformOutput : blockPart (reformOutput s) = blockPart s := by unfold reformOutput; split <;> rfl
@[simp] theorem blockPart_setForce (o : PairIx) (f : Force) : blockPart (setForce o f s) = blockPart s := by
  unfold setForce reformDrive; split <;> rfl
@[simp] theorem blockPart_contactNone (i : PairIx) : blockPart (contactNone i s) = blockPart s := by
  simp only [contactNone]; split <;> rfl
@[simp] theorem blockPart_markChannel (c : ChanId) : blockPart (markChannel c s) = blockPart s := by simp [markChannel]
@[simp] theorem blockPart_soundHandsets : blockPart (soundHandsets s) = blockPart s :=
  blockPart_forEach s 8 _ fun p s => by split <;> simp
@[simp] theorem blockPart_setStopTrucks (n : Nat) : blockPart (setStopTrucks n s) = blockPart s := by simp [setStopTrucks]
@[simp] theorem blockPart_actionUncommissioned : blockPart (actionUncommissioned s) = blockPart s := by simp [actionUncommissioned]

/-! ### The line, the slots and the Management Engine -/

@[simp] theorem blockPart_validFrame (p : SpurId) : blockPart (validFrame p s) = blockPart s := by
  simp only [validFrame]; split <;> rfl
@[simp] theorem blockPart_keepVoice (p : SpurId) (v : List Octet) : blockPart (keepVoice p v s) = blockPart s := by
  unfold keepVoice; split <;> rfl
@[simp] theorem blockPart_dropPartial : blockPart (dropPartial s) = blockPart s := by unfold dropPartial; split <;> rfl
@[simp] theorem blockPart_setPosition (p : Option Nat) : blockPart (setPosition p s) = blockPart s := by
  unfold setPosition; split <;> rfl
@[simp] theorem blockPart_setInbyeNeighbour (p : Option Nat) (e : Option Bool) :
    blockPart (setInbyeNeighbour p e s) = blockPart s := by unfold setInbyeNeighbour; split <;> rfl
@[simp] theorem blockPart_setEndOfLine (b : Bool) : blockPart (setEndOfLine b s) = blockPart s := by
  unfold setEndOfLine; split <;> rfl
@[simp] theorem blockPart_setAutonomous (b : Bool) : blockPart (setAutonomous b s) = blockPart s := by
  simp only [setAutonomous]; repeat' split
  · rfl
  · rw [blockPart_callsAutonomous]; rfl
  · exact blockPart_resetRequested _
@[simp] theorem blockPart_windowEnd : blockPart (windowEnd s) = blockPart s := by
  unfold windowEnd; split
  · simp only [closeWindow, blockPart_markIf, blockPart_setPort]; rfl
  · rfl
@[simp] theorem blockPart_switchCell (e : SlotIx) (a : Arrival) : blockPart (switchCell e a s) = blockPart s := by
  rw [switchCell_eq]; rfl
@[simp] theorem blockPart_fillMissing : blockPart (fillMissing s) = blockPart s :=
  blockPart_forEach s 60 _ fun e s => by split <;> simp
@[simp] theorem blockPart_sendCycle : blockPart (sendCycle s) = blockPart s := rfl
@[simp] theorem blockPart_reply (h : OrderHdr) (code : Nat) (a : Answer) : blockPart (reply h code a) = blockPart a.state := by
  unfold reply; split <;> rfl
@[simp] theorem blockPart_refreshAccess (o : Order) : blockPart (refreshAccess o s) = blockPart s := by
  unfold refreshAccess; split <;> rfl
@[simp] theorem blockPart_earnCredit : blockPart (earnCredit s) = blockPart s := by unfold earnCredit; split <;> rfl
@[simp] theorem blockPart_fillCell (a : Nat × Nat) : blockPart (fillCell a s) = blockPart s := by unfold fillCell; split <;> rfl
@[simp] theorem blockPart_completeCommit : blockPart (completeCommit s) = blockPart s := by
  unfold completeCommit; repeat' split
  · exact blockPart_reply _ _ _
  all_goals rfl

/-! ### The Block Controller's entries afresh (R116, R130) -/

theorem blockPart_replaceBlock (i : BlockIx) : blockPart (replaceBlock i s) = (blockPart s).set i .start := by
  simp only [replaceBlock]; split
  · rw [postState, blockPart_post, blockPart_resetBlock]
  · exact blockPart_resetBlock s i
theorem blockPart_restartBlocks (was : BlockIx → Bool) :
    blockPart (restartBlocks was s) = { blockPart s with masters := fun _ => .start } :=
  blockPart_walk _ _ (fun _ _ => .start) (fun i s => by rw [blockPart_markIf, blockPart_replaceBlock]) fun _ _ _ _ _ => rfl
@[simp] theorem blockPart_notifyReplaced (i : BlockIx) (old : Nat) : blockPart (notifyReplaced i old s) = blockPart s := by
  simp only [notifyReplaced]; split <;> simp
@[simp] theorem blockPart_readinessLoaded (i : BlockIx) (was : Bool) : blockPart (readinessLoaded i was s) = blockPart s := by
  unfold readinessLoaded; split <;> simp

/-! ### Restarts -/

theorem blockPart_restartSpur (old : SpurType) (p : SpurId) : blockPart (restartSpur old p s) = blockPart s := by
  simp only [restartSpur]; split <;> rfl
theorem blockPart_restartAction : blockPart (restartAction s) = blockPart s := rfl
theorem blockPart_restartChan (became : Bool) (c : ChanId) : blockPart (restartChan became c s) = blockPart s := by
  simp only [restartChan]; split <;> simp
theorem blockPart_restartRefuge (same : Bool) (r : PairIx) : blockPart (restartRefuge same r s) = blockPart s := by
  simp [restartRefuge]
theorem blockPart_restartTrucks : blockPart (restartTrucks s) = blockPart s := blockPart_forEach s 8 _ fun p s => by split <;> simp
theorem blockPart_restartPanels : blockPart (restartPanels s) = blockPart s :=
  blockPart_forEach s 2 _ fun r s => by repeat' split
                                        all_goals simp
theorem blockPart_restartHandsets : blockPart (restartHandsets s) = blockPart s := by
  simp only [restartHandsets]
  rw [blockPart_forEach _ 8 _ fun p s => ?_, blockPart_forEach s 8 _ fun p s => ?_]
  all_goals split <;> simp
end

/-! ## Every command -/

namespace MastersFormed
variable {s t : State}

/-! ### Levels -/

theorem reformEffectiveBut (stay : PairIx → Bool) (h : MastersFormed s) : MastersFormed (reformEffectiveBut stay s) :=
  h.atLevel (blockPart_reformEffectiveBut s stay)
theorem reformLocalBut (stay : PairIx → Bool) (h : MastersFormed s) : MastersFormed (reformLocalBut stay s) := by
  simp only [Machine.reformLocalBut]; split
  · exact h
  · exact reformEffectiveBut stay (h.same rfl)
theorem reformLocal (h : MastersFormed s) : MastersFormed (reformLocal s) := h.reformLocalBut _
theorem reformAllBut (stay : PairIx → Bool) (h : MastersFormed s) : MastersFormed (reformAllBut stay s) := by
  simp only [Machine.reformAllBut]
  exact frame (blockPart_reformDrives _) (frame (blockPart_reformMask _)
    (frame (blockPart_reformOutput _) ((h.reformLocalBut stay).reformEffectiveBut stay)))
theorem takeCauseBut (stay : PairIx → Bool) (c : Cause) (h : MastersFormed s) : MastersFormed (takeCauseBut stay c s) := by
  simp only [Machine.takeCauseBut]
  generalize caused : State.mark _ .isolation = u
  have hu : MastersFormed u := by rw [← caused]; exact h.same rfl
  exact (hu.stands (blockPart_reformOutput u)).reformLocalBut stay
theorem takeCause (c : Cause) (h : MastersFormed s) : MastersFormed (takeCause c s) := h.takeCauseBut _ c
theorem contactChanged (i : PairIx) (b : Bool) (h : MastersFormed s) : MastersFormed (contactChanged i b s) := by
  simp only [Machine.contactChanged]; split
  · exact takeCause _ (h.same rfl)
  · exact reformLocal (h.same rfl)
theorem contactRolesBut (stay : PairIx → Bool) (old : PairIx → Role) (h : MastersFormed s) :
    MastersFormed (contactRolesBut stay old s) := by
  simp only [Machine.contactRolesBut]
  refine reformLocalBut stay (forEach_invariant MastersFormed 2 _ (fun i s h => ?_) _ ?_)
  · split
    · exact h.takeCauseBut stay _
    · exact h
  · exact h.stands (blockPart_forEach s 2 _ fun i s => by split <;> simp)
theorem takeOrdered (o : Tab 16 Level) (h : MastersFormed s) : MastersFormed (takeOrdered o s) :=
  frame (blockPart_reformOutput _) (reformEffectiveBut _ (h.same rfl))
theorem clearLatch (h : MastersFormed s) : MastersFormed (clearLatch s) := by
  unfold Machine.clearLatch; split
  · exact reformLocal (frame (blockPart_reformOutput _) (h.same rfl))
  · exact h

/-! ### Refuges, channels and trucks -/

theorem reformRefuge (r : PairIx) (h : MastersFormed s) : MastersFormed (reformRefuge r s) := by
  simp only [Machine.reformRefuge]; split
  · exact h
  · exact reformLocal (h.same rfl)
theorem changeRoll (r : PairIx) (y : Refuge) (h : MastersFormed s) : MastersFormed (changeRoll r y s) := by
  simp only [Machine.changeRoll]; split
  · exact h
  · exact reformRefuge r (frame (blockPart_notifyOccupied _ r _) (h.same rfl))
theorem refugeCheckout (r : PairIx) (n : Nat) (h : MastersFormed s) : MastersFormed (refugeCheckout r n s) := by
  simp only [Machine.refugeCheckout]
  generalize ((s.refuges.get r).occupancy != 0 && ((s.refuges.get r).checkout n).occupancy == 0) = emptied
  generalize (if emptied then _ else _ : Refuge) = y
  refine (h.changeRoll r y).stands ?_
  split <;> simp
theorem refugeDoor (r : PairIx) (v : Nat) (h : MastersFormed s) : MastersFormed (refugeDoor r v s) := by
  simp only [Machine.refugeDoor]; split
  · exact h
  · exact reformRefuge r (h.same rfl)
theorem refugeDistress (r : PairIx) (h : MastersFormed s) : MastersFormed (refugeDistress r s) := by
  simp only [Machine.refugeDistress]
  refine reformRefuge r (h.stands ?_)
  split <;> simp
theorem prepareAction (r : PairIx) (h : MastersFormed s) : MastersFormed (prepareAction r s) := reformRefuge r (h.stands (by simp))
theorem refugesAtChannel (c : ChanId) (h : MastersFormed s) : MastersFormed (refugesAtChannel c s) :=
  forEach_invariant MastersFormed 2 _ (fun r s h => by
    simp only; split
    · exact h.reformRefuge r
    · exact h) s h
theorem takeCauseOpt (c : Option Cause) (h : MastersFormed s) : MastersFormed (takeCauseOpt c s) := by
  cases c with
  | none => exact h
  | some c => exact h.takeCause c
theorem changeChan (c : ChanId) (x : Channel) (h : MastersFormed s) : MastersFormed (changeChan c x s) := by
  have set : MastersFormed (s.setChan c x) := h.same rfl
  simp only [Machine.changeChan, statusChanged]; split
  · exact set
  · exact reformLocal (refugesAtChannel c (takeCauseOpt _ (set.stands (by simp))))
theorem takeReading (p : SpurId) (sub raw q : Nat) (h : MastersFormed s) : MastersFormed (takeReading p sub raw q s) := by
  unfold Machine.takeReading; split
  · exact h
  · exact h.changeChan _ _
theorem chanFault (c : ChanId) (h : MastersFormed s) : MastersFormed (chanFault c s) := h.changeChan c _
theorem setTruckAlarm (a : Option Nat) (h : MastersFormed s) : MastersFormed (setTruckAlarm a s) := reformLocal (h.same rfl)
theorem takeTruckStatus (p : SpurId) (n st : Nat) (h : MastersFormed s) : MastersFormed (takeTruckStatus p n st s) := by
  simp only [Machine.takeTruckStatus]
  generalize (if n = 0 ∨ 4095 < n then none else truckReportOf st) = o
  cases o with
  | none => exact h
  | some r =>
    simp only; split
    · exact h.same rfl
    · exact setTruckAlarm _ (h.same rfl)
theorem clearTruckAlarm (h : MastersFormed s) : MastersFormed (clearTruckAlarm s) := by
  unfold Machine.clearTruckAlarm; split
  · exact h
  · exact stands (h.setTruckAlarm none) (blockPart_forEach _ 8 _ fun p s => by split <;> simp)

/-! ### The Action Unit -/

theorem runAction (a : Action) (h : MastersFormed s) : MastersFormed (runAction a s).1 := by
  cases a with
  | setOutput o f => simp only [Machine.runAction]; exact h.stands (blockPart_setForce s o f)
  | soundHandsets => simp only [Machine.runAction]; exact h.stands (blockPart_soundHandsets s)
  | closeBlock id =>
    simp only [Machine.runAction]; split
    · exact h.closeBlock _
    · exact h
  | raiseLevel l => exact reformLocal (h.same rfl)
  | setTrip => exact h.takeCause _
  | clearCallsAbove n => simp only [Machine.runAction]; exact h.stands (blockPart_clearWhere s _ _)
  | refugePrepare r =>
    simp only [Machine.runAction]; split
    · exact h.prepareAction r
    · exact h
  | stopTrucks => simp only [Machine.runAction]; exact h.stands (blockPart_setStopTrucks s _)
  | sendNote c => exact h.same rfl
theorem actions : KeptByActions MastersFormed where
  unit _ _ h := h.same rfl
  triggers _ _ h := h.same rfl
  note _ h := h.same rfl
  action a _ h := h.runAction a
theorem settle (h : MastersFormed s) : MastersFormed (settle s) := actions.settle h
theorem evalLists (h : MastersFormed s) : MastersFormed (evalLists s) := by
  unfold Machine.evalLists; split
  · exact settle (actions.evalList 1 (actions.evalList 0 h))
  · exact h
theorem armEntry (a : Action) (c : QueueCond) (h : MastersFormed s) : MastersFormed (armEntry a c s) := by
  have armed (u : ActionUnit) : MastersFormed (s.setAction u) := h.same rfl
  simp only [Machine.armEntry]; split
  · exact actions.examineHead 8 (armed _)
  · exact armed _

/-! ### Spurs -/

theorem ownerLost (ty : SpurType) (p : SpurId) (s0 : State) (h : MastersFormed s) : MastersFormed (ownerLost ty p s0 s) := by
  cases ty with
  | off => exact h
  | gas =>
    simp only [Machine.ownerLost]
    exact forEach_invariant MastersFormed 16 _ (fun c s h => by
      split
      · exact settle (h.chanFault c)
      · exact h) s h
  | voice => exact h.stands (by simp [Machine.ownerLost, callsSpurLost])
  | truck => exact h.blocksSpurLost p s0
  | refuge =>
    simp only [Machine.ownerLost, refugeSpurLost]; split
    · exact h.reformRefuge _
    · exact h
theorem ownerUp (ty : SpurType) (p : SpurId) (s0 : State) (h : MastersFormed s) : MastersFormed (ownerUp ty p s0 s) := by
  cases ty with
  | off => exact h
  | gas => exact h
  | voice => exact h
  | truck => exact h.stands (blockPart_blocksSpurUp s p s0)
  | refuge =>
    simp only [Machine.ownerUp, refugeSpurUp]; split
    · exact (h.reformRefuge _).stands (blockPart_panelStartUp _ _)
    · exact h
theorem leaveUp (ty : SpurType) (p : SpurId) (st : SpurState) (h : MastersFormed s) : MastersFormed (leaveUp ty p st s) :=
  ownerLost ty p s (h.same rfl)
theorem takeHello (p : SpurId) (ty : HeadType) (h : MastersFormed s) : MastersFormed (takeHello p ty s) := by
  simp only [Machine.takeHello]
  generalize judged : (if State.spurUp _ p then Machine.settle _ else _ : State) = u
  have hu : MastersFormed u := by
    rw [← judged]; split
    · exact settle (leaveUp _ p .starting (h.same rfl))
    · exact h.same rfl
  simp only [judgeHello]; repeat' split
  · exact ownerUp _ p u (hu.same rfl)
  · exact hu.same rfl
  · exact hu.same rfl
theorem deliver (p : SpurId) (m : HeadMsg) (h : MastersFormed s) : MastersFormed (deliver p m s) := by
  cases m with
  | hello ty => exact h.takeHello p _
  | reading sub raw q => exact h.takeReading p sub raw q
  | offhook => exact h.stands (blockPart_takeOffhook s p)
  | onhook => exact h.stands (blockPart_takeOnhook s p)
  | digit d => exact h.stands (blockPart_takeDigit s p d)
  | tag n sense =>
    have tagged : MastersFormed (Machine.blockTag p n sense s) := h.blockTag p n sense
    simp only [Machine.deliver, deliverTag]; split
    · exact tagged
    · exact tagged.same rfl
  | truckStatus n st => exact h.takeTruckStatus p n st
  | door v => exact deliverRefuge_of p (fun r h => refugeDoor r v h) h
  | checkin n => exact deliverRefuge_of p (fun r h => changeRoll r _ h) h
  | checkout n => exact deliverRefuge_of p (fun r h => refugeCheckout r n h) h
  | distress => exact deliverRefuge_of p (fun r h => refugeDistress r h) h
theorem takeMsg (p : SpurId) (m : HeadMsg) (h : MastersFormed s) : MastersFormed (takeMsg p m s) := by
  unfold Machine.takeMsg; split
  · exact h.deliver p m
  · exact h.same rfl
theorem headMessage (p : SpurId) (m : HeadMsg) (h : MastersFormed s) : MastersFormed (headMessage p m s) := by
  unfold Machine.headMessage; split
  · exact h
  · exact takeMsg p m (h.stands (blockPart_validFrame s p))
theorem takeFrame (p : SpurId) (f : List Octet) (h : MastersFormed s) : MastersFormed (takeFrame p f s) := by
  have framed : MastersFormed (Machine.keepVoice p (frameVoice f) (validFrame p s)) := h.stands (by simp)
  unfold Machine.takeFrame; split
  · exact h
  · split
    · simp only; split
      · exact framed.same rfl
      · exact framed
      · exact framed.takeMsg p _
    · exact h.same rfl
theorem silenceTimeout (p : SpurId) (h : MastersFormed s) : MastersFormed (silenceTimeout p s) := by
  simp only [Machine.silenceTimeout]; repeat' split
  · exact leaveUp _ p .down (h.same rfl)
  · exact h.same rfl
  · exact h
theorem retypeSpur (old ty : SpurType) (p : SpurId) (h : MastersFormed s) : MastersFormed (retypeSpur old ty p s) := by
  simp only [Machine.retypeSpur]; split
  · exact leaveUp old p _ (h.same rfl)
  · exact h.same rfl
theorem loadSpur (p : SpurId) (c : SpurCfg) (h : MastersFormed s) : MastersFormed (loadSpur p c s) := by
  simp only [Machine.loadSpur]; repeat' split
  · exact h.same rfl
  · exact frame (blockPart_reformLights _) (same (h.retypeSpur (s.working.spurs.get p).type c.type p) rfl)
  · exact h.same rfl

/-! ### The line ports -/

theorem takeMessage (d : Side) (m : Option NMsg) (h : MastersFormed s) : MastersFormed (takeMessage d m s) := by
  cases m with
  | none => exact h
  | some m => exact h.settle.takeNeighbour d m
theorem takeSegment (d : Side) (pl : List Octet) (h : MastersFormed s) : MastersFormed (takeSegment d pl s) := by
  rw [takeSegment_eq]
  refine takeMessage d _ ?_
  cases d with
  | inbye => exact frame (blockPart_setInbyeNeighbour _ _ _) (h.same rfl)
  | outbye =>
    simp only [cellFields]
    generalize lined : Machine.setAutonomous _ _ = u
    have hu : MastersFormed u := by
      rw [← lined]
      exact frame (blockPart_setAutonomous _ _) (frame (blockPart_setPosition _ _) (h.same rfl))
    split
    · exact hu.takeOrdered _
    · exact hu
theorem segmentHanded (d : Side) (a : Arrival) (h : MastersFormed s) : MastersFormed (segmentHanded d a s) := by
  have port (x : LinePort) : MastersFormed (s.setPort d x) := h.stands (blockPart_setPort s d x)
  unfold Machine.segmentHanded; split
  · simp only [goodSegment]; repeat' split
    · exact takeSegment d _ (port _)
    · exact h
    · exact port _
  · exact h
theorem portDown (d : Side) (h : MastersFormed s) : MastersFormed (portDown d s) := by
  refine blocksPortLost d s (same (s := s.setPort d (lostPort (s.port d))) ?_ rfl)
  exact h.stands (blockPart_setPort s d _)
theorem portLost (d : Side) (h : MastersFormed s) : MastersFormed (portLost d s) := by
  cases d with
  | inbye => rw [portLost_inbye]; exact (h.portDown .inbye).stands (by simp)
  | outbye => rw [portLost_outbye]; exact (h.portDown .outbye).stands (by simp)
theorem portUp (d : Side) (h : MastersFormed s) : MastersFormed (portUp d s) := by
  have risen : MastersFormed (portRisen d s) := settle (h.stands (by simp))
  cases d with
  | inbye => rw [portUp_inbye]; exact takeSegment _ _ (risen.stands (blockPart_setEndOfLine _ _))
  | outbye => rw [portUp_outbye]; exact risen.takeSegment _ _
theorem portLostDue (d : Side) (h : MastersFormed s) : MastersFormed (if (s.port d).lostDue then Machine.portLost d s else s) := by
  split
  · exact h.portLost d
  · exact h
theorem portUpDue (d : Side) (h : MastersFormed s) : MastersFormed (if (s.port d).upDue then Machine.portUp d s else s) := by
  split
  · exact h.portUp d
  · exact h
/-- R113: a cycle ages the trucks. -/
theorem tick (closed : PairIx → Bool) (h : MastersFormed s) : MastersFormed (tick closed s) := by
  intro i
  have entry : (Machine.tick closed s).master i = (s.tickBlock i (s.blocks.entries.get i)).master := by
    simp only [State.master, Machine.tick, State.tickBlocks, Tab.get_mapIx]
  change MasterFormed (s.working.blocks.get i).convoy _
  rw [entry, State.tickBlock]; split
  · exact (h i).aged _
  · exact h i
theorem changesDue (h : MastersFormed s) : MastersFormed (changesDue s) := by
  have port (d : Side) {s : State} (h : MastersFormed s) : MastersFormed (portChangeDue d s) := by
    unfold portChangeDue; repeat' split
    · exact (h.portLost d).settle
    · exact (h.portUp d).settle
    · exact h
  exact forEach_invariant MastersFormed 8 _ (fun p s h => by
    unfold spurChangeDue; split
    · exact (h.silenceTimeout p).settle
    · exact h) _ (port .inbye (port .outbye h))
theorem lineCycle (closed : PairIx → Bool) (h : MastersFormed s) : MastersFormed (lineCycle closed s) :=
  frame (blockPart_sendCycle _) (frame (blockPart_fillMissing _) (h.changesDue.tick closed))

/-! ### Loads and commissioning -/

theorem reloadChan (c : ChanId) (was : Bool) (old : ChanCfg) (h : MastersFormed s) : MastersFormed (reloadChan c was old s) := by
  simp only [Machine.reloadChan]; split
  · exact takeCauseOpt _ (h.same rfl)
  · exact h.changeChan _ _
  · exact h.changeChan _ _
  · exact h
theorem spursUncommissioned (tb : Tables) (h : MastersFormed s) : MastersFormed (spursUncommissioned tb s) := by
  have off : blockPart (forEach 8 (fun p s =>
      if (s.spurs.get p).state = .off then s else (s.setSpur p ((s.spurs.get p).reset .off)).mark (.spur p)) s) = blockPart s :=
    blockPart_forEach s 8 _ fun p s => by split <;> rfl
  exact forEach_invariant MastersFormed 8 _ (fun p t h => by
    split
    · exact h.ownerLost _ p s
    · exact h) _ (h.stands off)
theorem blockCommissioning (i : BlockIx) (h : MastersFormed s) : MastersFormed (blockCommissioning i s) := by
  unfold Machine.blockCommissioning; split
  · exact h
  · exact (h.resetBlock i).same rfl
theorem commissioningChanged (tb : Tables) (was : Bool) (h : MastersFormed s) : MastersFormed (commissioningChanged tb was s) := by
  simp only [Machine.commissioningChanged]
  generalize spurs : (if was then Machine.spursUncommissioned tb s else forEach 8 spurCommissioned s) = u
  have hu : MastersFormed u := by
    rw [← spurs]; split
    · exact h.spursUncommissioned tb
    · exact forEach_invariant MastersFormed 8 _ (fun p s h => by
        unfold spurCommissioned; split
        · exact h
        · exact h.retypeSpur _ _ p) s h
  have refuges : MastersFormed (forEach 2 refugeCommissioning u) :=
    hu.stands (blockPart_forEach u 2 _ fun r s => blockPart_replaceRefuge s r _)
  have blocks : MastersFormed (reformLights (forEach 4 Machine.blockCommissioning (forEach 2 refugeCommissioning u))) :=
    stands (forEach_invariant MastersFormed 4 _ (fun i s h => h.blockCommissioning i) _ refuges) (blockPart_reformLights _)
  exact forEach_invariant MastersFormed 16 _ (fun c s h => h.reloadChan c _ _) _ blocks
theorem applyCommission (c : Commission) (h : MastersFormed s) : MastersFormed (applyCommission c s) := by
  simp only [Machine.applyCommission]
  generalize spaced : (if c.spacing = s.working.commission.spacing then _ else _ : State) = u
  have hu : MastersFormed u := by rw [← spaced]; split <;> exact h.same rfl
  generalize (u.commissioned != s.commissioned) = changed
  generalize acted : (if changed then Machine.commissioningChanged s.working s.commissioned u else u) = v
  have hv : MastersFormed v := by
    rw [← acted]; split
    · exact hu.commissioningChanged _ _
    · exact hu
  have formed : MastersFormed ((reformAll (Machine.contactRolesBut (fun _ => false) s.roleInForce v)).markIf changed .level) :=
    stands ((hv.contactRolesBut _ _).reformAllBut _) (blockPart_markIf _ _ _)
  repeat' split
  · exact formed
  · exact formed.stands (blockPart_actionUncommissioned _)
  · exact formed.evalLists
theorem moveRefuge (r : PairIx) (n : RefugeCfg) (h : MastersFormed s) : MastersFormed (moveRefuge r n s) := by
  simp only [Machine.moveRefuge]
  generalize moved : Machine.reformLocal _ = v
  have hv : MastersFormed v := by
    rw [← moved]
    refine reformLocal (frame (blockPart_notifyOccupied _ r _) (frame (blockPart_replaceRefuge _ r _) ?_))
    refine same (s := if (s.refugeOn r && (s.refuges.get r).prepared && (s.refuges.get r).occupancy == 0) = true
      then refugeSpurOffer r .refugeStanddown s else s) ?_ rfl
    split
    · exact h.stands (blockPart_refugeSpurOffer s r _)
    · exact h
  repeat' split
  · exact stands (hv.settle.reformRefuge r) (blockPart_panelStartUp _ _)
  · exact hv
  · exact hv
theorem loadTrigger (x : PairIx) (n : TriggerCfg) (h : MastersFormed s) : MastersFormed (loadTrigger x n s) := by
  simp only [Machine.loadTrigger, triggerLoaded]
  generalize loaded : State.mark _ .action = u
  have hu : MastersFormed u := by rw [← loaded]; exact h.same rfl
  split
  · exact actions.evalList x hu
  · exact hu
/-- R106: a block's convoy limit changes with its record afresh. -/
theorem replaceConfigured (i : BlockIx) (n : BlockCfg) (h : MastersFormed s) :
    MastersFormed (replaceBlock i (s.setWorking { s.working with blocks := s.working.blocks.put i n })) := by
  have replaced := blockPart_replaceBlock (s.setWorking { s.working with blocks := s.working.blocks.put i n }) i
  generalize replaceBlock i _ = u at replaced ⊢
  intro j
  have master : u.master = Function.update s.master i .start := congrArg BlockPart.masters replaced
  have blocks : u.working.blocks = s.working.blocks.put i n := congrArg (fun p : BlockPart => p.working.blocks) replaced
  rw [master, Function.update_apply]; split
  · exact masterFormed_start _
  · next other => rw [blocks, Tab.get_put_ne _ _ other]; exact h j
theorem applyEntry (tb : Table) (k : Nat) (b : List Octet) (h : MastersFormed s) (e : applyEntry tb k b s = .ok t) :
    MastersFormed t := by
  cases tb with
  | commission => obtain ⟨c, e⟩ := withEntry_ok e; cases e; exact h.applyCommission c
  | levelMap =>
    simp only [Machine.applyEntry, loadLevelMap] at e
    repeat' split at e
    all_goals cases e
    exact frame (blockPart_reformMask _) (h.same rfl)
  | spurs => obtain ⟨p, e⟩ := withIx_ok e; obtain ⟨c, e⟩ := withEntry_ok e; cases e; exact h.loadSpur p c
  | channels =>
    obtain ⟨c, e⟩ := withIx_ok e; obtain ⟨n, e⟩ := withEntry_ok e
    simp only [loadChannel] at e
    repeat' split at e
    all_goals cases e
    exact reloadChan c _ _ (h.same rfl)
  | blocks =>
    obtain ⟨i, e⟩ := withIx_ok e; obtain ⟨n, e⟩ := withEntry_ok e
    unfold loadBlock at e
    repeat' split at e
    iterate 3 · cases e
    rw [← Except.ok.inj e]
    exact (h.replaceConfigured i n).stands (by simp)
  | refuges =>
    obtain ⟨r, e⟩ := withIx_ok e; obtain ⟨n, e⟩ := withEntry_ok e
    simp only [loadRefuge] at e
    repeat' split at e
    all_goals cases e
    · exact reformRefuge r (h.same rfl)
    · exact moveRefuge r n (h.same (t := s.mark (.refuge r)) rfl)
  | triggers => obtain ⟨x, e⟩ := withIx_ok e; obtain ⟨n, e⟩ := withEntry_ok e; cases e; exact h.loadTrigger x n
  | _ => cases e
theorem loadEntries (tb : Table) (size n k : Nat) (l : List Octet) (h : MastersFormed s) :
    MastersFormed (loadEntries tb size n k l s).1 := by
  induction n generalizing k l s with
  | zero => exact h
  | succ n ih =>
    unfold Machine.loadEntries
    split
    · exact h
    · next t e => exact ih _ _ (h.applyEntry tb k _ e).settle

/-! ### Orders -/

theorem orderTableLoad (tb first n : Nat) (l : List Octet) (h : MastersFormed s) :
    MastersFormed (orderTableLoad tb first n l s).state := by
  have loaded (tb : Table) (size : Nat) : MastersFormed (loadAnswer (Machine.loadEntries tb size n first l s)).state := by
    unfold loadAnswer
    split <;> exact h.loadEntries tb size n first l
  unfold Machine.orderTableLoad; repeat' split
  case h_2.isFalse.isFalse.isFalse => exact loaded _ _
  all_goals exact h
theorem runOrder (prep : Bool) (hdr : OrderHdr) (o : Order) (h : MastersFormed s) :
    MastersFormed (runOrder prep hdr o s).state := by
  cases o with
  | tableRead tb f n =>
    simp only [Machine.runOrder, orderTableRead]; repeat' split
    all_goals exact h
  | tableLoad tb f n l => exact h.orderTableLoad tb f n l
  | historyRead c i n =>
    simp only [Machine.runOrder, orderHistoryRead]; repeat' split
    all_goals exact h
  | restart =>
    simp only [Machine.runOrder, orderRestart]; split
    · exact h
    · exact h.same rfl
  | unlock c =>
    simp only [Machine.runOrder, orderUnlock]; repeat' split
    all_goals exact h.same rfl
  | callAssignOrigin r n sl f =>
    simp only [Machine.runOrder, orderAssignOrigin]; repeat' split
    case h_1.isFalse.isFalse => exact h.stands (by rw [answer, blockPart_toneOpt]; exact blockPart_assignCall s _ _ _)
    all_goals exact h
  | callAssignDestination p k sl f =>
    simp only [Machine.runOrder, orderAssignDestination]
    split
    · repeat' split
      case h_2.isFalse => exact h.stands (blockPart_ringDestination s _ _ _ _ _)
      all_goals exact h
    · exact h
  | callConnect r n =>
    simp only [Machine.runOrder, orderConnect]; repeat' split
    · exact h.stands (blockPart_connectCall s _)
    all_goals exact h
  | callRelease r n =>
    simp only [Machine.runOrder, orderRelease]; split
    · exact h.stands (blockPart_clearCall s _ _)
    · exact h
  | callRefuse r n k =>
    simp only [Machine.runOrder, orderRefuse]; repeat' split
    · exact h.stands (blockPart_clearCall s _ _)
    all_goals exact h
  | tripReset =>
    simp only [Machine.runOrder, orderTripReset]; split
    · exact h.clearLatch
    · exact h
  | blockOpen b c =>
    simp only [Machine.runOrder, orderBlockOpen]; repeat' split
    · exact h
    · exact h
    · exact h.openBlock _ _
  | blockClose b =>
    simp only [Machine.runOrder, orderBlockClose]; split
    · exact h
    · exact h.closeBlock _
  | arm a0 a1 a2 c0 c1 c2 c3 =>
    simp only [Machine.runOrder, orderArm]; repeat' split
    case h_1.isFalse => exact h.armEntry _ _
    all_goals exact h
  | levelClear => exact reformLocal (h.same rfl)
  | truckClear => exact h.clearTruckAlarm
  | outputSet o f =>
    simp only [Machine.runOrder, orderOutputSet]; split
    · exact h.stands (blockPart_setForce s _ _)
    · exact h
  | _ => exact h.same rfl
theorem takeOrder (hdr : OrderHdr) (o : Order) (h : MastersFormed s) : MastersFormed (takeOrder hdr o s) := by
  unfold Machine.takeOrder; split
  · exact h
  · generalize unprepared : s.setMgmt { s.mgmt with prepare := false } = u
    have hu : MastersFormed (refreshAccess o u) := by rw [← unprepared]; exact h.stands (blockPart_refreshAccess _ o)
    have refused (r : Result) : MastersFormed (reply hdr o.code (answer r (refreshAccess o u))) :=
      hu.stands (blockPart_reply _ _ _)
    simp only [judgeOrder]; repeat' split
    case h_4.isFalse => exact stands (hu.runOrder _ hdr o) (blockPart_reply _ _ _)
    case h_3.isFalse.isFalse => exact hu.same rfl
    all_goals exact refused _

/-! ### Cells and reports -/

theorem mgmtHanded (d : Side) (a : Arrival) (h : MastersFormed s) : MastersFormed (mgmtHanded d a s) := by
  have dropped {s : State} (h : MastersFormed s) : MastersFormed (dropPartial s) := h.stands (blockPart_dropPartial s)
  have assembled (hd : MgmtHeader) (body : List Octet) {s : State} (h : MastersFormed s) : MastersFormed (assembleCell hd body s) := by
    have appended (last : Bool) : MastersFormed (appendCell last hd body s) := by
      unfold appendCell; repeat' split
      · exact h
      · exact dropped h
      · exact takeOrder _ _ (dropped h)
      · exact takeOrder _ _ (h.same rfl)
      · exact h.same rfl
    unfold assembleCell; split
    · exact takeOrder _ _ (dropped h)
    · exact (dropped h).same rfl
    · exact appended _
    · exact appended _
  unfold Machine.mgmtHanded; split
  · simp only [inbyeMgmt]; split
    · exact h.same rfl
    · split
      · exact assembled _ _ (h.same rfl)
      · exact h.same rfl
  · exact h.same rfl
  · exact dropped (h.same rfl)
  · exact h
  · exact h.same rfl
theorem cellArrives (d : Side) (place : Nat) (c : List Octet) (h : MastersFormed s) : MastersFormed (cellArrives d place c s) := by
  have arrived : MastersFormed (s.setPort d ((s.port d).atCell.arrive place c)) := h.stands (blockPart_setPort s d _)
  simp only [Machine.cellArrives]; repeat' split
  · exact arrived.stands (blockPart_switchCell _ _ _)
  · exact arrived.mgmtHanded d _
  · exact arrived.segmentHanded d _
/-- R112: the report of a block empties its anomalies. -/
theorem reportSent (x : Source) (h : MastersFormed s) : MastersFormed (reportSent x s) := by
  cases x with
  | block i => exact h.set (blockPart_setMaster s i _) ((h i).same rfl)
  | call r =>
    simp only [Machine.reportSent]; split
    · exact h.stands (blockPart_freeCall s r)
    · exact h
  | _ => exact h.same rfl
theorem outbyeFill (h : MastersFormed s) : MastersFormed (outbyeFill s) := by
  have chosen {s : State} (h : MastersFormed s) : MastersFormed (chooseMessage s) := by
    unfold chooseMessage; repeat' split
    · exact h
    · exact h.same rfl
    · exact reportSent _ (h.same rfl)
    · exact h
  have earned : MastersFormed (earnCredit s) := h.stands (blockPart_earnCredit s)
  unfold Machine.outbyeFill fillOutbye; split
  · exact (chosen earned).stands (blockPart_fillCell _ _)
  · exact earned

/-! ### Power-on and restarts -/

/-- R116, R188: at power-on every master starts afresh. -/
theorem ofPowerOn (s : State) : MastersFormed (Machine.powerOn s) := by
  refine evalLists (frame (blockPart_reformStopAll _) (frame (blockPart_reformLights _) fun i => ?_))
  have master (store : Store) (l : List Instr) (n : Nat) : (formQuietly (State.poweredOn store l n)).master i = .start :=
    congrArg BlockRec.master (Tab.get_fill i (⟨.start, .start true⟩ : BlockRec))
  rw [master]
  exact masterFormed_start _
theorem setForces (f : Tab 2 Force) (h : MastersFormed s) : MastersFormed (s.setLevel { s.level with force := f }) := h.same rfl
theorem restartState (s : State) : MastersFormed (restartState s) := by
  simp only [Machine.restartState]
  generalize restartCalls _ = u
  have started : MastersFormed (restartBlocks s.blockOn
      (forEach 8 (fun p t => restartSpur (if s.commissioned then (s.working.spurs.get p).type else .off) p t) u)) := by
    generalize forEach 8 _ u = v
    intro i
    have master : (restartBlocks s.blockOn v).master i = .start := congrArg (fun p => p.masters i) (blockPart_restartBlocks v s.blockOn)
    rw [master]
    exact masterFormed_start _
  refine frame ((blockPart_mark _ _).trans (blockPart_markIf _ _ _))
    (frame (blockPart_reformStopAll _) (frame (blockPart_reformLights _) (reformAllBut _ (contactRolesBut _ _ ?_))))
  exact setForces _ (frame (blockPart_forEach _ 2 _ fun r s => blockPart_restartRefuge s _ r)
    (frame (blockPart_forEach _ 16 _ fun c s => blockPart_restartChan s _ c) (frame (blockPart_restartAction _) started)))
theorem restartNode (s : State) : MastersFormed (restartNode s) := by
  refine evalLists (stands (restartState s) ?_)
  rw [restartSends, blockPart_restartPanels, blockPart_restartTrucks, blockPart_restartHandsets]
  exact blockPart_forEach _ 8 _ fun p s => by simp

/-! ### Every command -/

theorem of_whenPowered {f : State → State} (work : MastersFormed s → MastersFormed (f s)) (h : MastersFormed s)
    (e : whenPowered f s = .next t) : MastersFormed t := by
  rw [whenPowered_next] at e
  cases e
  split
  · exact work h
  · exact h
theorem of_settled {f : State → State} (work : MastersFormed s → MastersFormed (f s)) (h : MastersFormed s)
    (e : settled f s = .next t) : MastersFormed t :=
  of_whenPowered (f := fun s => Machine.settle (f s)) (fun h => (work h).settle) h e
/-- A command whose work leaves the masters alone. -/
theorem of_settledSame {f : State → State} (work : blockPart (f s) = blockPart s) (h : MastersFormed s) (e : settled f s = .next t) :
    MastersFormed t := of_settled (fun h => h.stands work) h e
theorem of_message (p : SpurId) (m : HeadMsg) (h : MastersFormed s) (e : exec (m.command p) s = .next t) : MastersFormed t := by
  have run : exec (m.command p) s = settled (Machine.headMessage p m) s := by cases m <;> rfl
  exact of_settled (fun h => h.headMessage p m) h (run.symm.trans e)
theorem of_order (hdr : OrderHdr) (o : Order) (h : MastersFormed s) (e : orderArrives hdr o s = .next t) : MastersFormed t := by
  refine of_settled (fun h => ?_) h e
  split
  · exact h.takeOrder hdr o
  · exact h
theorem of_cell (d : Side) (place : Fin 32) (l : List Octet) (h : MastersFormed s) (e : exec (cellRow d place l) s = .next t) :
    MastersFormed t := by
  rw [exec_cellRow] at e
  exact of_settled (fun h => h.cellArrives d place.val l) h e
theorem of_neighbour (d : Side) (m : NMsg) (h : MastersFormed s) (e : settled (Machine.takeNeighbour d m) s = .next t) :
    MastersFormed t := of_settled (fun h => h.takeNeighbour d m) h e
theorem of_timeout (st : CallState) (r : RecId) (h : MastersFormed s) (e : whenPowered (Machine.timeoutCall st r) s = .next t) :
    MastersFormed t := of_whenPowered (fun h => h.stands (blockPart_timeoutCall s st r)) h e
/-- Every command keeps the masters in form. -/
theorem exec (c : Instr) (h : MastersFormed s) (e : exec c s = .next t) : MastersFormed t := by
  cases c with
  | powerOn =>
    have run : Machine.powerOn s = t := Host.Outcome.next.inj e
    rw [← run]
    exact ofPowerOn s
  | restartCarriedOut =>
    refine of_settled (fun h => ?_) h (exec_restartCarriedOut s ▸ e)
    split
    · exact restartNode s
    · exact h
  | lineCycle => exact of_settled (fun h => h.lineCycle _) h e
  | inbyeSegmentCell l => exact of_cell .outbye 1 l h e
  | outbyeSegmentCell l => exact of_cell .inbye 1 l h e
  | trafficCell d sl l => rw [trafficCell_eq_cellRow] at e; exact of_cell d _ l h e
  | managementCell d l => exact of_cell d 0 l h e
  | framingLost d => exact of_settledSame (blockPart_setPort s d _) h (exec_framingLost d s ▸ e)
  | erroredSegmentCell d => exact of_settledSame (blockPart_setPort s d _) h (exec_erroredSegmentCell d s ▸ e)
  | portLost d => exact of_settled (fun h => h.portLostDue d) h e
  | portUp d => exact of_settled (fun h => h.portUpDue d) h e
  | windowEnd => exact of_settledSame (blockPart_windowEnd s) h e
  | reading p sub raw q => exact of_message p (.reading sub raw q) h e
  | offhook p => exact of_message p .offhook h e
  | onhook p => exact of_message p .onhook h e
  | digit p d => exact of_message p (.digit d) h e
  | tag p n sense => exact of_message p (.tag n sense) h e
  | truckStatus p n st => exact of_message p (.truckStatus n st) h e
  | checkin p n => exact of_message p (.checkin n) h e
  | checkout p n => exact of_message p (.checkout n) h e
  | door p v => exact of_message p (.door v) h e
  | distress p => exact of_message p .distress h e
  | hello p ty => exact of_message p (.hello ty) h e
  | spurFrame p f => exact of_settled (fun h => h.takeFrame p f) h e
  | spurSilenceTimeout p => exact of_settled (fun h => h.silenceTimeout p) h e
  | staleExpiry c =>
    refine of_settled (fun h => ?_) h e
    unfold staleExpire; split
    · exact h.chanFault c
    · exact h
  | contactChange i =>
    refine of_settled (fun h => ?_) h (exec_contactChange i s ▸ e)
    split
    · exact h.contactChanged i _
    · exact h
  | surfaceCompletionTimeout r => exact of_whenPowered (fun h => h.stands (by split <;> simp)) h e
  | refugeEmergencyCompletion r => exact of_whenPowered (fun h => h.stands (by split <;> simp)) h e
  | collectingTimeout r => exact of_whenPowered (fun h => h.stands (by split <;> simp)) h e
  | requestedTimeout r => exact of_timeout _ r h e
  | heldTimeout r => exact of_timeout _ r h e
  | alertingTimeout r => exact of_timeout _ r h e
  | ringingTimeout r => exact of_timeout _ r h e
  | continuityLoss slot =>
    refine of_whenPowered (fun h => h.stands ?_) h (exec_continuityLoss slot s ▸ e)
    repeat' split
    all_goals simp
  | claim => exact of_neighbour _ _ h e
  | grant => exact of_neighbour _ _ h e
  | wait => exact of_neighbour _ _ h e
  | exit => exact of_neighbour _ _ h e
  | state => exact of_neighbour _ _ h e
  | farEndState => exact of_neighbour _ _ h e
  | blockTurn i => exact of_settledSame (by split <;> simp; rfl) h e
  | overdue i n => exact of_settled (fun h => h.takeOverdue i n) h e
  | stopTrucksEnd => exact of_settledSame (by split <;> simp) h e
  | headDelayExpiry =>
    refine of_settled (fun h => ?_) h e
    split
    · exact actions.examineHead 8 h
    · exact h
  | fillCreditEarned => exact of_settledSame (blockPart_earnCredit s) h e
  | outbyeCellFill => exact of_settled (fun h => h.outbyeFill) h e
  | accessExpiry => exact of_settledSame (by unfold expireAccess; split <;> rfl) h e
  | commitComplete => exact of_settledSame (blockPart_completeCommit s) h e
  | supplyLoss =>
    refine of_whenPowered (fun h => h.same ?_) h e
    simp only [loseSupply]; split <;> rfl
  | _ => exact of_order _ _ h e
end MastersFormed

/-- Settles O8: every command keeps each master in form, each operation of the Block Controller by what it does to its own master. -/
theorem blockListsStayFormed : Obligations.BlockListsStayFormed := by
  intro s t h e
  unfold Machine.step at e
  split at e
  next => cases e; exact h
  next c rest _ => exact MastersFormed.exec c (MastersFormed.same (t := { s with pending := rest }) h rfl) e

end Sys2Proof.Safety
end

section
/-! PROOFS. The family of the heading blocks: what an event of one entry leaves of the others, and how its messages reach it; then exits
(O40) and far readiness (O42). -/

namespace Sys2Proof.Safety
open Sys2Proof.Machine

/-! ## An event of one master -/

/-- Of the block entries, at most the master of one differs. -/
structure OnlyMaster (i : BlockIx) (s t : State) : Prop where
  others : ∀ j, j ≠ i → t.blocks.entries.get j = s.blocks.entries.get j
  far    : t.farEnd i = s.farEnd i

namespace OnlyMaster
variable {i : BlockIx} {s t u : State}

theorem trans (h : OnlyMaster i s t) (k : OnlyMaster i t u) : OnlyMaster i s u :=
  ⟨fun j ne => (k.others j ne).trans (h.others j ne), k.far.trans h.far⟩
theorem same (e : t.blocks.entries = s.blocks.entries) : OnlyMaster i s t :=
  ⟨fun j _ => by rw [e], by rw [State.farEnd, e]; rfl⟩
theorem written (m : Master) (e : t.blocks.entries = (s.setMaster i m).blocks.entries) : OnlyMaster i s t := by
  refine ⟨fun j ne => ?_, ?_⟩
  · rw [e]; exact Tab.get_put_ne _ _ ne
  · rw [State.farEnd, e]; simp [State.setMaster, State.farEnd]
/-- R116: an event leaves what its own work leaves. -/
theorem event {f : State → State} (h : OnlyMaster i s (f s)) : OnlyMaster i s (masterEvent i f s) :=
  h.trans (same (entries_masterEvent s i f))

variable (i s)
theorem marked (m : Master) : OnlyMaster i s ((s.setMaster i m).mark (.block i)) := written m rfl
theorem markedIf (m : Master) (b : Bool) : OnlyMaster i s (((s.setMaster i m).mark (.block i)).markIf b (.block i)) :=
  trans (marked i s m) (same (congrArg Blocks.entries (entries_markIf _ b _)))
theorem grantClaim (e : BlockEnd) (t : Nat) : OnlyMaster i s (grantClaim i e t s) := by
  refine written (masterGrant e t s.line.cycle (s.master i)) ?_
  simp only [Machine.grantClaim, State.mark_blocks]
  split
  · rw [entries_post]; rfl
  · rfl
theorem waitClaim (e : BlockEnd) (t : Nat) : OnlyMaster i s (waitClaim i e t s) := by
  refine written (masterWait s.atTrip e t (s.master i)) ?_
  simp only [Machine.waitClaim, State.mark_blocks]
  split
  · rw [entries_post]; rfl
  · rfl
theorem decideClaim (e : BlockEnd) (t : Nat) : OnlyMaster i s (decideClaim i e t s) := by
  have decides : Machine.decideClaim i e t s = if masterGrants (s.working.blocks.get i).convoy s.atTrip e (s.master i) = true
      then Machine.grantClaim i e t s else Machine.waitClaim i e t s := rfl
  rw [decides]; split
  · exact grantClaim i s e t
  · exact waitClaim i s e t
theorem serveEnds (l : List BlockEnd) : OnlyMaster i s (l.foldl (serveAt i) s) := by
  induction l generalizing s with
  | nil => exact same rfl
  | cons e l ih =>
    refine trans ?_ (ih _)
    unfold serveAt; split
    · exact decideClaim i s e _
    · exact same rfl
theorem serveWaits : OnlyMaster i s (serveWaits i s) := by
  cases state : (s.master i).state with
  | free => rw [serveWaits_free s state]; exact serveEnds i s _
  | held =>
    simp only [Machine.serveWaits, state]; repeat' split
    · exact marked i s _
    · exact grantClaim i s _ _
    all_goals exact same rfl
  | _ => simp only [Machine.serveWaits, state]; exact same rfl
theorem takeClaim (e : BlockEnd) (t : Nat) : OnlyMaster i s (takeClaim i e t s) := by
  unfold Machine.takeClaim; split
  · refine same ?_
    unfold answerDuplicate
    cases e with
    | master => dsimp only; split <;> simp
    | far => dsimp only; split <;> simp
  · exact event (decideClaim i s e t)
theorem takeExit (e : BlockEnd) (t : Nat) : OnlyMaster i s (takeExit i e t s) := by
  have faulted : OnlyMaster i s (exitFaulted i t s) := markedIf i s _ _
  have listed : OnlyMaster i s (exitListed i t s) := trans (markedIf i s _ _) (serveWaits i _)
  simp only [Machine.takeExit]; repeat' split
  · exact event listed
  · exact event faulted
  · exact same rfl
  · exact marked i s _
theorem masterFault : OnlyMaster i s (masterFault i s) := by
  simp only [Machine.masterFault]; split
  · exact same rfl
  · exact event (marked i s _)
theorem setFarReady (ready : Bool) : OnlyMaster i s (setFarReady i ready s) := by
  have set : OnlyMaster i s (s.setMaster i { s.master i with farReady := ready }) := written _ rfl
  simp only [Machine.setFarReady]; split
  · exact set.trans (masterFault i _)
  · exact set
theorem openBlock (clear : Bool) : OnlyMaster i s (openBlock i clear s) := by
  rw [openBlock_eq]; split
  · exact event (trans (marked i s _) (serveWaits i _))
  · exact same rfl
theorem closeBlock : OnlyMaster i s (closeBlock i s) := by
  simp only [Machine.closeBlock]; split
  case h_4 => exact same rfl
  all_goals exact event (marked i s _)
end OnlyMaster

/-! ## How an event of an entry is taken -/

/-- What an event of one master leaves of a quiet node once its changes have been taken. -/
theorem settle_onlyMaster {i : BlockIx} {s base w : State} {m : Master} (quiet : Quiet base) (level : outsideLevel w = outsideLevel base)
    (alone : OnlyMaster i s w) (part : blockPart w = (blockPart s).set i m) :
    outsideLevel (settle w) = outsideLevel base ∧ (∀ j, j ≠ i → (settle w).blocks.entries.get j = s.blocks.entries.get j) ∧
      (settle w).farEnd i = s.farEnd i ∧ (settle w).master i = m := by
  have quiet : Quiet w := quiet.of_outsideLevel level
  have blocks := blocks_settle_quiet quiet
  refine ⟨(outsideLevel_settle_quiet quiet).trans level, ?_, ?_, ?_⟩
  · rw [blocks]; exact alone.others
  · rw [State.farEnd, blocks]; exact alone.far
  · rw [State.master, blocks]
    exact (congrArg (fun p => p.masters i) part).trans (BlockPart.masters_set ..)

section
variable {s : State} {p : SpurId} {i : BlockIx} {t sense : Nat}

/-- A tag's hand-over to the Action Unit leaves nothing in a quiet node. -/
theorem settle_notify (quiet : Quiet s) (n : Notice) : settle (s.notify n) = settle s := by
  rw [settle_quiet quiet, settle_quiet (quiet.of_outsideLevel (outsideLevel_notify s n))]
  rfl
theorem quiet_heard (quiet : Quiet s) (p : SpurId) : Quiet (heard p s) := ⟨quiet.queue, quiet.lists⟩
theorem outsideLevel_blockTag (p : SpurId) (t sense : Nat) (s : State) : outsideLevel (blockTag p t sense s) = outsideLevel s := by
  have arriving (i : BlockIx) : outsideLevel (farArriving i t s) = outsideLevel s := by
    refine outsideLevel_farEvent s i _ ?_
    rw [outsideLevel_post]
    split <;> split <;> simp
  have leaving (i : BlockIx) : outsideLevel (farLeaving i t s) = outsideLevel s := outsideLevel_farEvent s i _ (by simp)
  unfold blockTag; repeat' split
  all_goals simp [arriving, leaving]
/-- R119, R168: a TAG on an UP TRUCK spur in a quiet node reaches the Block Controller. -/
theorem exec_tag (powered : s.powered = true) (quiet : Quiet s) (up : s.spurUpAs .truck p = true) (t sense : Nat) :
    exec (.tag p t sense) s = .next (settle (blockTag p t sense (heard p s))) := by
  have run : exec (.tag p t sense) s = settled (headMessage p (.tag t sense)) s := rfl
  have heardQuiet := (quiet_heard quiet p).of_outsideLevel (outsideLevel_blockTag p t sense (heard p s))
  rw [run, settled_powered _ powered, headMessage_up up rfl, deliver, deliverTag]
  split
  · rw [settle_notify heardQuiet]
  · rfl
theorem blockTag_bound (pos : t ≠ 0) (small : t ≤ 4095) (bound : s.blockOfSpur p = some i) :
    ((s.working.blocks.get i).role = .master →
      blockTag p t 0 s = takeClaim i .master t s ∧ blockTag p t 1 s = takeExit i .master t s) ∧
    ((s.working.blocks.get i).role = .far → blockTag p t 0 s = farArriving i t s ∧ blockTag p t 1 s = farLeaving i t s) := by
  have inRange (sense : Nat) (h : sense ≤ 1) : ¬ (t = 0 ∨ 4095 < t ∨ 1 < sense) := by omega
  refine ⟨fun role => ?_, fun role => ?_⟩ <;>
    exact ⟨by simp only [blockTag, if_neg (inRange 0 (by omega)), bound, role],
      by simp only [blockTag, if_neg (inRange 1 (by omega)), bound, role]⟩
end

/-- The command of a claim, and of an exit, at an end of a master. -/
def claimRow (e : BlockEnd) (p : SpurId) (b t : Nat) : Instr := match e with | .master => .tag p t 0 | .far => .claim b t
def exitRow (e : BlockEnd) (p : SpurId) (b t : Nat) : Instr := match e with | .master => .tag p t 1 | .far => .exit b t
/-- The state in which a claim or exit at an end reaches its master. -/
def atEnd (e : BlockEnd) (p : SpurId) (s : State) : State := match e with | .master => heard p s | .far => s
/-- R119: a claim or exit at an end of a master has its way in: an UP truck spur of the entry, or the UP inbye port. -/
structure ReachesMaster (i : BlockIx) (e : BlockEnd) (p : SpurId) (b t : Nat) (s : State) : Prop where
  powered : s.powered = true
  quiet   : Quiet s
  pos     : t ≠ 0
  small   : t ≤ 4095
  truck   : e = .master → s.spurUpAs .truck p = true ∧ s.blockOfSpur p = some i ∧ (s.working.blocks.get i).role = .master
  port    : e = .far → s.line.inPort.up = true ∧ s.masterOf b = some i

namespace ReachesMaster
variable {i : BlockIx} {e : BlockEnd} {p : SpurId} {b t : Nat} {s : State}

theorem claim (h : ReachesMaster i e p b t s) :
    exec (claimRow e p b t) s = .next (settle (takeClaim i e t (atEnd e p s))) := by
  cases e with
  | master =>
    obtain ⟨up, bound, role⟩ := h.truck rfl
    have reached := (blockTag_bound (s := heard p s) h.pos h.small bound).1 role
    exact (exec_tag h.powered h.quiet up t 0).trans (by rw [reached.1]; rfl)
  | far =>
    obtain ⟨up, named⟩ := h.port rfl
    have run : exec (.claim b t) s = .next (settle (takeNeighbour .inbye (.claim b t) s)) :=
      (exec_neighbour (.claim b t) s).trans (settled_powered _ h.powered)
    have taken : takeNeighbour .inbye (.claim b t) s = takeClaim i .far t s := by
      have portUp : (s.port .inbye).up = true := up
      simp [takeNeighbour, portUp, neighbourClaim, named, h.pos]
    exact run.trans (by rw [taken]; rfl)
theorem exit (h : ReachesMaster i e p b t s) :
    exec (exitRow e p b t) s = .next (settle (takeExit i e t (atEnd e p s))) := by
  cases e with
  | master =>
    obtain ⟨up, bound, role⟩ := h.truck rfl
    have reached := (blockTag_bound (s := heard p s) h.pos h.small bound).1 role
    exact (exec_tag h.powered h.quiet up t 1).trans (by rw [reached.2]; rfl)
  | far =>
    obtain ⟨up, named⟩ := h.port rfl
    have run : exec (.exit b t) s = .next (settle (takeNeighbour .inbye (.exit b t) s)) :=
      (exec_neighbour (.exit b t) s).trans (settled_powered _ h.powered)
    have taken : takeNeighbour .inbye (.exit b t) s = takeExit i .far t s := by
      have portUp : (s.port .inbye).up = true := up
      simp [takeNeighbour, portUp, neighbourExit, named, h.pos]
    exact run.trans (by rw [taken]; rfl)
theorem quiet_atEnd (h : ReachesMaster i e p b t s) : Quiet (atEnd e p s) := by
  cases e with
  | master => exact quiet_heard h.quiet p
  | far => exact h.quiet
end ReachesMaster

section
variable (e : BlockEnd) (p : SpurId) (s : State)
@[simp] theorem blockPart_atEnd : blockPart (atEnd e p s) = blockPart s := by cases e <;> rfl
@[simp] theorem blocks_atEnd : (atEnd e p s).blocks = s.blocks := by cases e <;> rfl
@[simp] theorem working_atEnd : (atEnd e p s).working = s.working := by cases e <;> rfl
@[simp] theorem line_atEnd : (atEnd e p s).line = s.line := by cases e <;> rfl
@[simp] theorem level_atEnd : (atEnd e p s).level = s.level := by cases e <;> rfl
@[simp] theorem master_atEnd (i : BlockIx) : (atEnd e p s).master i = s.master i := by rw [State.master, blocks_atEnd]; rfl
@[simp] theorem atTrip_atEnd : (atEnd e p s).atTrip = s.atTrip := by rw [State.atTrip, level_atEnd]; rfl
end

/-! ## Exits (O40) -/

section
variable {t : Nat} {m : Master}

@[simp] theorem mWait_addAnomaly (a : Anomaly) : (addAnomaly a m).mWait = m.mWait := by unfold addAnomaly; split <;> rfl
@[simp] theorem fWait_addAnomaly (a : Anomaly) : (addAnomaly a m).fWait = m.fWait := by unfold addAnomaly; split <;> rfl
/-- R111: a listed tag is out of order exactly where the oldest entry is another. -/
theorem masterOdd_listed {l : List Truck} (listed : t ∈ listTags l) (x : Master) :
    masterOdd t l x = if l.head?.map (·.tag) = some t then x else addAnomaly (.order t) x := by
  cases l with
  | nil => cases listed
  | cons y l => by_cases first : y.tag = t <;> simp [masterOdd, notOldest, first]
variable {convoy cycle : Nat} {atTrip : Bool} {e : BlockEnd}
theorem masterExit_listed (listed : t ∈ listTags m.list) :
    masterExit convoy cycle atTrip e t m = masterServe convoy cycle atTrip (masterLeft t m) :=
  if_pos (List.contains_iff_mem.mpr listed)
theorem masterExit_faulted (gone : t ∉ listTags m.list) (listed : t ∈ listTags m.faults) :
    masterExit convoy cycle atTrip e t m = masterLeftFaults t m := by
  simp [masterExit, gone, listed]
theorem masterExit_stray (gone : t ∉ listTags m.list) (cleared : t ∉ listTags m.faults) (new : t ∉ m.memory) :
    masterExit convoy cycle atTrip e t m = addAnomaly (.stray t e) m := by
  simp [masterExit, gone, cleared, new]
end
theorem takeExit_remembered {i : BlockIx} {e : BlockEnd} {t : Nat} {s : State} (gone : t ∉ listTags (s.master i).list)
    (cleared : t ∉ listTags (s.master i).faults) (known : t ∈ (s.master i).memory) : takeExit i e t s = s := by
  simp [takeExit, gone, cleared, known]

/-- Settles O40: by what an exit is to its own master; a removal from the list serves the waits of the master it leaves. -/
theorem exitsLeaveTheList : Obligations.ExitsLeaveTheList := by
  intro i e p b t s powered _ quiet pos small truck port
  have reaches : ReachesMaster i e p b t s := ⟨powered, quiet, pos, small, truck, port⟩
  have exits := blockPart_takeExit (atEnd e p s) i e t
  have alone := (OnlyMaster.same (congrArg Blocks.entries (blocks_atEnd e p s))).trans (OnlyMaster.takeExit i (atEnd e p s) e t)
  simp only [blockPart_atEnd, working_atEnd, line_atEnd, atTrip_atEnd, master_atEnd] at exits
  obtain ⟨level, others, far, master⟩ := settle_onlyMaster reaches.quiet_atEnd (outsideLevel_takeExit ..) alone exits
  refine ⟨_, reaches.exit, level, others, far, fun listed => ?_, fun gone listed => ?_, fun gone cleared known => ?_,
    fun gone cleared new => ?_⟩
  · have left : masterLeft t (s.master i) = _ := masterOdd_listed listed _
    simp only [List.isEmpty_iff] at left
    rw [masterExit_listed listed, left] at master
    rw [master]
    have served := waitsServed_masterServe (s.working.blocks.get i).convoy s.line.cycle s.atTrip
    exact ⟨fun mw fw => (served _).idle (by split <;> simpa using mw) (by split <;> simpa using fw), served _⟩
  · exact master.trans ((masterExit_faulted gone listed).trans (masterOdd_listed listed _))
  · rw [takeExit_remembered (by simpa using gone) (by simpa using cleared) (by simpa using known), settle_quiet reaches.quiet_atEnd]
    exact ⟨blocks_atEnd e p s, line_atEnd e p s⟩
  · exact master.trans (masterExit_stray gone cleared new)

/-! ## Far readiness (O42) -/

/-- Settles O42: the readiness octet is written to the master, which faults where it turns clear. -/
theorem farReadyTurningClearFaults : Obligations.FarReadyTurningClearFaults := by
  intro i b r s powered _ quiet up named
  have run : exec (.farEndState b r) s = .next (settle (takeNeighbour .inbye (.farState b r) s)) :=
    (exec_neighbour (.farState b r) s).trans (settled_powered _ powered)
  have taken : takeNeighbour .inbye (.farState b r) s = setFarReady i (r == 1) s := by
    have portUp : (s.port .inbye).up = true := up
    simp [takeNeighbour, portUp, neighbourFarState, named]
  rw [taken] at run
  obtain ⟨level, others, far, master⟩ := settle_onlyMaster quiet (outsideLevel_setFarReady ..) (OnlyMaster.setFarReady i s _)
    (blockPart_setFarReady s i (r == 1))
  refine ⟨_, run, level, others, far, master.trans ?_⟩
  by_cases ready : (s.master i).farReady = true
  · by_cases one : r = 1
    · simp [masterReady, one]
    · by_cases fault : (s.master i).state = .fault <;> simp [masterReady, masterFaulted, ready, one, fault]
  · simp [masterReady, ready]

end Sys2Proof.Safety
end

section
/-! PROOFS. The family of the heading blocks: the lights formed again (R125), and claims (O39). -/

namespace Sys2Proof.Safety
open Sys2Proof.Machine

/-! ## The lights formed again (R125) -/

/-- R125: the light that a spur shows. -/
def formedLight (s : State) (q : SpurId) : Light := if s.spurType q = .truck then s.lightOf q else .dark
/-- A state whose spurs and lights alone have moved. -/
def lit (x : Tab 8 Spur) (l : Tab 8 Light) (s : State) : State := { s with spurs := x, blocks := { s.blocks with lights := l } }
/-- R125: a spur and its light after the forming of its light. -/
def relit (ty : SpurType) (l : Light) (x : Spur × Light) : Spur × Light := if l = x.2 then x else (sent ty (.lights l) x.1, l)

section
variable (s : State)

theorem reformLight_eq (q : SpurId) : reformLight q s =
    if formedLight s q = s.blocks.lights.get q then s
    else lit (s.spurs.put q (sent (s.spurType q) (.lights (formedLight s q)) (s.spurs.get q)))
      (s.blocks.lights.put q (formedLight s q)) s := by
  have formed : reformLight q s = if formedLight s q = s.blocks.lights.get q then s
      else offer q (.lights (formedLight s q)) (s.setBlocks { s.blocks with lights := s.blocks.lights.put q (formedLight s q) }) := rfl
  rw [formed, offer_eq]
  rfl
/-- R125: each spur and its light, when the lights have been formed again. -/
theorem relit_reformLights (q : SpurId) :
    ((reformLights s).spurs.get q, (reformLights s).blocks.lights.get q) =
      relit (s.spurType q) (formedLight s q) (s.spurs.get q, s.blocks.lights.get q) := by
  unfold reformLights
  have walked := forEach_get (fun t : State => Tab.build 8 fun q => (t.spurs.get q, t.blocks.lights.get q))
    (fun t => ∃ x l, t = lit x l s) (fun q => relit (s.spurType q) (formedLight s q)) reformLight
    (fun i t ⟨x, l, e⟩ => ?_) (fun i t ⟨x, l, e⟩ => ?_) s ⟨s.spurs, s.blocks.lights, rfl⟩ q
  · simp only [Tab.get_build] at walked
    exact walked
  · subst e
    rw [reformLight_eq]; split
    · exact ⟨x, l, rfl⟩
    · exact ⟨_, _, rfl⟩
  · have type : t.spurType i = s.spurType i := by rw [e]; rfl
    have formed : formedLight t i = formedLight s i := by rw [e]; rfl
    rw [reformLight_eq, type, formed]
    refine Tab.ext fun j => ?_
    simp only [relit, Tab.get_build, Tab.get_put]
    by_cases own : j = i
    · subst own
      split <;> simp [lit, *]
    · split <;> simp [lit, own, Tab.get_put_ne]
theorem lights_reformLights (q : SpurId) : (reformLights s).blocks.lights.get q = formedLight s q := by
  have relit := congrArg Prod.snd (relit_reformLights s q)
  refine relit.trans ?_
  unfold Safety.relit; split
  · next same => exact same.symm
  · rfl
/-- R125: a changed light is sent to its UP spur. -/
theorem spurs_reformLights (q : SpurId) : (reformLights s).spurs.get q =
    if s.spurUp q = true ∧ (reformLights s).blocks.lights.get q ≠ s.blocks.lights.get q
      then offerTo (s.spurType q) (.lights ((reformLights s).blocks.lights.get q)) (s.spurs.get q)
      else s.spurs.get q := by
  have relit := congrArg Prod.fst (relit_reformLights s q)
  rw [lights_reformLights]
  refine relit.trans ?_
  by_cases same : formedLight s q = s.blocks.lights.get q
  · simp [Safety.relit, same]
  · by_cases up : (s.spurs.get q).state = .up <;> simp [Safety.relit, same, sent, State.spurUp, up]
theorem line_reformLights : (reformLights s).line = s.line :=
  forEach_keeps (fun s => s.line) 8 _ (fun q s => by rw [reformLight_eq]; split <;> rfl) s
end

/-! ## Claims (O39) -/

/-! ### The table -/

section
variable {convoy cycle : Nat} {atTrip : Bool} {m : Master} {e : BlockEnd} {t : Nat}

theorem masterGrants_iff : masterGrants convoy atTrip e m = true ↔ (e = .far ∨ atTrip = false) ∧
    (m.state = .free ∨ m.state = .held ∧ m.dir = some e.dir ∧ m.list.length < convoy ∧ m.opposed atTrip = false) := by
  unfold masterGrants; split
  · next free => simp [free]
  · next held => simp [held]; tauto
  · next notFree notHeld =>
    constructor
    · nofun
    · rintro ⟨-, free | ⟨held, -⟩⟩
      · exact absurd free notFree
      · exact absurd held notHeld
theorem masterGrant_new (new : m.knows t = false) : masterGrant e t cycle m = { m with
    list := m.list ++ [{ tag := t, cycle := cycle, age := 0, overdue := false }], dir := some e.dir
    state := if m.state = .free then .held else m.state, goTag := if e = .master then some t else m.goTag } := by
  have notWaiting : m.waitAt e ≠ some t := fun wait => by
    cases e <;> simp only [Master.waitAt] at wait <;> simp [Master.knows, wait] at new
  simp only [masterGrant, if_neg notWaiting]
/-- R116: a claim of a new tag changes what the STATE shows. -/
theorem shownFields_masterClaim (new : m.knows t = false) :
    (masterClaim convoy cycle atTrip e t m).shownFields ≠ m.shownFields := by
  intro same
  unfold masterClaim at same; split at same
  · have tags : listTags (masterGrant e t cycle m).list = listTags m.list := congrArg (fun x => x.2.2.1) same
    rw [list_masterGrant] at tags
    have longer := congrArg List.length tags
    simp [listTags] at longer
  · have mWait : (masterWait atTrip e t m).mWait = m.mWait := congrArg (fun x => x.2.2.2.2.1) same
    have fWait : (masterWait atTrip e t m).fWait = m.fWait := congrArg (fun x => x.2.2.2.2.2) same
    rw [masterWait_eq] at mWait fWait
    cases e with
    | master => simp [Master.knows, ← show some t = m.mWait from mWait] at new
    | far => simp [Master.knows, ← show some t = m.fWait from fWait] at new
end

/-! ### The answer and the STATE -/

section
variable {s : State} {m : NMsg}

theorem post_inbye (up : s.line.inPort.up = true) (room : s.line.inPort.queue.length < 8) :
    (post .inbye m s).line.inPort = { s.line.inPort with queue := s.line.inPort.queue ++ [m] } := by
  have takes : ((s.port .inbye).up && decide ((s.port .inbye).queue.length < 8)) = true := by simp [State.port, up, room]
  rw [post, if_pos takes]
  rfl
end

section
variable (i : BlockIx) (e : BlockEnd) (t : Nat) (s : State)

/-- R109: the answer of a decided claim. -/
def claimAnswer : NMsg :=
  if masterGrants (s.working.blocks.get i).convoy s.atTrip e (s.master i) then .grant (s.blockId i) t else .wait (s.blockId i) t
/-- R109: the master after a claim that is no duplicate. -/
def claimedMaster : Master := masterClaim (s.working.blocks.get i).convoy s.line.cycle s.atTrip e t (s.master i)
/-- R109: a claim of the far end is answered to it. -/
def answered (m : NMsg) : State := if e = .far then post .inbye m s else s
theorem decideClaim_eq : decideClaim i e t s =
    (answered e (s.setMaster i (claimedMaster i e t s)) (claimAnswer i e t s)).mark (.block i) := by
  have decides : decideClaim i e t s = if masterGrants (s.working.blocks.get i).convoy s.atTrip e (s.master i) = true
      then grantClaim i e t s else waitClaim i e t s := rfl
  unfold claimedMaster claimAnswer masterClaim
  rw [decides]
  split <;> rfl
/-- R116: the state of a decided claim that no light follows yet. -/
def claimTaken : State := postState i (decideClaim i e t s)
theorem takeClaim_new {i : BlockIx} {e : BlockEnd} {t : Nat} {s : State} (new : (s.master i).knows t = false) :
    ∃ notices, takeClaim i e t s =
      reformLights ((claimTaken i e t s).setAction { (claimTaken i e t s).action with notices := notices }) := by
  have master : (decideClaim i e t s).master i = claimedMaster i e t s :=
    (congrArg (fun p => p.masters i) (blockPart_decideClaim s i e t)).trans (BlockPart.masters_set ..)
  have changed : ((decideClaim i e t s).master i).shownFields ≠ (s.master i).shownFields :=
    master ▸ shownFields_masterClaim new
  have fresh : ¬ (s.master i).knows t = true := by simp [new]
  rw [takeClaim, if_neg fresh]
  simp only [masterEvent, if_neg changed]
  split
  · exact ⟨_, rfl⟩
  · exact ⟨_, rfl⟩
end

section
variable {i : BlockIx} {e : BlockEnd} {t : Nat} {s : State} {convoy cycle : Nat} {m : Master}

theorem post_frame (d : Side) (m : NMsg) (s : State) : ∃ l, post d m s = { s with line := l } := by
  unfold post; split
  · cases d <;> exact ⟨_, rfl⟩
  · exact ⟨_, rfl⟩
/-- A decided claim writes its master, the line and the marks. -/
theorem decideClaim_frame (i : BlockIx) (e : BlockEnd) (t : Nat) (s : State) :
    ∃ l g, decideClaim i e t s = { s.setMaster i (claimedMaster i e t s) with line := l, mgmt := g } := by
  rw [decideClaim_eq, answered]; split
  · obtain ⟨l, posted⟩ := post_frame .inbye (claimAnswer i e t s) (s.setMaster i (claimedMaster i e t s))
    rw [posted]; exact ⟨_, _, rfl⟩
  · exact ⟨_, _, rfl⟩
theorem claimTaken_frame (i : BlockIx) (e : BlockEnd) (t : Nat) (s : State) :
    ∃ l g, claimTaken i e t s = { s.setMaster i (claimedMaster i e t s) with line := l, mgmt := g } := by
  obtain ⟨l, g, decided⟩ := decideClaim_frame i e t s
  obtain ⟨l', posted⟩ := post_frame .inbye ((decideClaim i e t s).stateMsg i) (decideClaim i e t s)
  exact ⟨l', g, by rw [claimTaken, postState, posted, decided]⟩
/-- R109, R116: the answer, and then the STATE. -/
theorem inQueue_claimTaken (up : s.line.inPort.up = true) (room : s.line.inPort.queue.length ≤ 6) :
    (claimTaken i e t s).line.inPort.queue =
      s.line.inPort.queue ++ (if e = .far then [claimAnswer i e t s] else []) ++ [(decideClaim i e t s).stateMsg i] := by
  have decided : (decideClaim i e t s).line.inPort =
      { s.line.inPort with queue := s.line.inPort.queue ++ (if e = .far then [claimAnswer i e t s] else []) } := by
    rw [decideClaim_eq, State.mark_line, answered]; split
    · exact post_inbye up (Nat.lt_of_le_of_lt room (by omega))
    · simp
  have short : (decideClaim i e t s).line.inPort.queue.length < 8 := by
    rw [decided, List.length_append]
    split <;> simp <;> omega
  rw [claimTaken, postState, post_inbye (by rw [decided]; exact up) short, decided]
theorem stateMsg_congr {u : State} (master : u.master i = s.master i) (working : u.working = s.working) :
    u.stateMsg i = s.stateMsg i := by
  simp only [State.stateMsg, State.blockId, master, working]
theorem master_claimTaken (i : BlockIx) (e : BlockEnd) (t : Nat) (s : State) : (claimTaken i e t s).master i = claimedMaster i e t s := by
  obtain ⟨l, g, taken⟩ := claimTaken_frame i e t s
  rw [taken]
  exact State.setMaster_master s i _
theorem master_decideClaim (i : BlockIx) (e : BlockEnd) (t : Nat) (s : State) : (decideClaim i e t s).master i = claimedMaster i e t s := by
  obtain ⟨l, g, decided⟩ := decideClaim_frame i e t s
  rw [decided]
  exact State.setMaster_master s i _

/-! ### What a claim leaves -/

/-- R125: the light of a configured master's spur. -/
theorem lightOf_bound {u : State} {p : SpurId} (bound : u.blockOfSpur p = some i) : u.lightOf p = u.entryLight i := by
  rw [State.lightOf, show u.working.blocks.firstIx (fun i c => u.blockOn i && c.spur == some p) = some i from bound]
/-- R125: the light of a master end shows GO for the truck that the master end's last grant named. -/
theorem entryLight_claimed {u : State} (on : u.blockOn i = true) (role : (u.working.blocks.get i).role = .master)
    (master : u.master i = masterClaim convoy cycle u.atTrip .master t m) (new : m.knows t = false) :
    u.entryLight i = if masterGrants convoy u.atTrip .master m = true then .go else .stop := by
  unfold masterClaim at master
  split at master
  · next grants =>
    obtain ⟨below, place⟩ := masterGrants_iff.mp grants
    have notTrip : u.atTrip = false := below.resolve_left nofun
    have engaged : (masterGrant .master t cycle m).state = .held := state_masterGrant (place.imp_right And.left)
    rw [masterGrant_new new] at engaged master
    have engaged : (if m.state = .free then BlockState.held else m.state) = .held := engaged
    rw [if_pos grants]
    simp [State.entryLight, on, role, master, engaged, notTrip, listTags, BlockEnd.dir, BlockState.engaged]
  · next waits =>
    rw [masterWait_eq] at master
    simp [State.entryLight, on, role, master, waits]
theorem spur_of_blockOfSpur {p : SpurId} (bound : s.blockOfSpur p = some i) : (s.working.blocks.get i).spur = some p :=
  beq_iff_eq.mp (Bool.and_eq_true_iff.mp (Tab.firstIx_some bound)).2
/-- R108: a duplicate at the master end is shown its light again. -/
theorem takeClaim_duplicate_master {p : SpurId} (known : (s.master i).knows t = true) (spur : (s.working.blocks.get i).spur = some p) :
    takeClaim i .master t s = offer p (.lights (s.entryLight i)) s := by
  simp [takeClaim, known, answerDuplicate, spur]
theorem spurs_takeClaim_duplicate {p : SpurId} (known : (s.master i).knows t = true) (up : s.spurUpAs .truck p = true)
    (bound : s.blockOfSpur p = some i) (q : SpurId) : (takeClaim i .master t s).spurs.get q =
      if q = p then offerTo .truck (.lights (s.entryLight i)) (s.spurs.get q) else s.spurs.get q := by
  rw [takeClaim_duplicate_master known (spur_of_blockOfSpur bound), spurs_offer_up s p _ up, Tab.get_put]
  split
  · next own => rw [own]
  · rfl
theorem takeClaim_duplicate_far (known : (s.master i).knows t = true) : ∃ l, takeClaim i .far t s = { s with line := l } := by
  rw [takeClaim, if_pos known]
  simp only [answerDuplicate]; split
  · exact post_frame ..
  · exact post_frame ..
/-- R125: what a claim of a new tag sends to the spurs. -/
theorem spurs_takeClaim_new (new : (s.master i).knows t = false) (q : SpurId) : (takeClaim i e t s).spurs.get q =
    if s.spurUp q = true ∧ (takeClaim i e t s).blocks.lights.get q ≠ s.blocks.lights.get q
      then offerTo (s.spurType q) (.lights ((takeClaim i e t s).blocks.lights.get q)) (s.spurs.get q)
      else s.spurs.get q := by
  obtain ⟨n, taken⟩ := takeClaim_new (e := e) new
  obtain ⟨l, g, frame⟩ := claimTaken_frame i e t s
  rw [taken, spurs_reformLights, frame]
  rfl
/-- R125: what a claim sends to the spurs. -/
theorem spurs_takeClaim {p : SpurId} (truck : e = .master → s.spurUpAs .truck p = true ∧ s.blockOfSpur p = some i) (q : SpurId) :
    (takeClaim i e t s).spurs.get q =
      if e = .master ∧ (s.master i).knows t = true ∧ q = p then offerTo .truck (.lights (s.entryLight i)) (s.spurs.get q)
      else if s.spurUp q = true ∧ (takeClaim i e t s).blocks.lights.get q ≠ s.blocks.lights.get q
        then offerTo (s.spurType q) (.lights ((takeClaim i e t s).blocks.lights.get q)) (s.spurs.get q)
        else s.spurs.get q := by
  cases known : (s.master i).knows t with
  | false => rw [if_neg (by simp)]; exact spurs_takeClaim_new known q
  | true =>
    cases e with
    | master =>
      obtain ⟨up, bound⟩ := truck rfl
      have same : (takeClaim i .master t s).blocks = s.blocks := by
        rw [takeClaim_duplicate_master known (spur_of_blockOfSpur bound), entries_offer]
      simp [same, spurs_takeClaim_duplicate known up bound]
    | far =>
      obtain ⟨l, same⟩ := takeClaim_duplicate_far (i := i) (t := t) (s := s) known
      simp [same]
theorem light_takeClaim_new {p : SpurId} (new : (s.master i).knows t = false) (up : s.spurUpAs .truck p = true)
    (bound : s.blockOfSpur p = some i) (role : (s.working.blocks.get i).role = .master) :
    (takeClaim i .master t s).blocks.lights.get p =
      if masterGrants (s.working.blocks.get i).convoy s.atTrip .master (s.master i) = true then .go else .stop := by
  obtain ⟨n, taken⟩ := takeClaim_new (e := .master) new
  have master := master_claimTaken i .master t s
  obtain ⟨l, g, frame⟩ := claimTaken_frame i .master t s
  rw [frame] at master
  obtain ⟨-, truck⟩ := Bool.and_eq_true_iff.mp up
  have shown (u : State) (working : u.working = s.working) : formedLight u p = u.entryLight i := by
    have type : u.spurType p = .truck := (spurType_congr s p working).trans (beq_iff_eq.mp truck)
    have same : u.blockOfSpur p = s.blockOfSpur p := by
      simp only [State.blockOfSpur, State.blockOn, State.commissioned, working]
    rw [formedLight, if_pos type, lightOf_bound (same.trans bound)]
  have on := (Bool.and_eq_true_iff.mp (Tab.firstIx_some bound)).1
  rw [taken, lights_reformLights, frame]
  refine (shown _ ?_).trans (entryLight_claimed on role master new)
  rfl
theorem inQueue_takeClaim_new (new : (s.master i).knows t = false) (up : s.line.inPort.up = true)
    (room : s.line.inPort.queue.length ≤ 6) : (takeClaim i e t s).line.inPort.queue =
      s.line.inPort.queue ++ (if e = .far then [claimAnswer i e t s] else []) ++ [(takeClaim i e t s).stateMsg i] := by
  obtain ⟨n, taken⟩ := takeClaim_new (e := e) new
  have queue := inQueue_claimTaken (i := i) (e := e) (t := t) up room
  have master : (takeClaim i e t s).master i = claimedMaster i e t s := by
    refine (congrArg (fun p => p.masters i) (blockPart_takeClaim s i e t)).trans ?_
    rw [BlockPart.masters_set, if_neg (by simp [new])]; rfl
  have working : (takeClaim i e t s).working = s.working := congrArg BlockPart.working (blockPart_takeClaim s i e t)
  have decided : (decideClaim i e t s).working = s.working := congrArg BlockPart.working (blockPart_decideClaim s i e t)
  rw [stateMsg_congr (master.trans (master_decideClaim i e t s).symm) (working.trans decided.symm), ← queue, taken, line_reformLights]
  rfl
end

theorem claimAnswer_atEnd (i : BlockIx) (e e' : BlockEnd) (p : SpurId) (t : Nat) (s : State) :
    claimAnswer i e t (atEnd e' p s) = claimAnswer i e t s := by cases e' <;> rfl
theorem spurUp_atEnd (e : BlockEnd) (p q : SpurId) (s : State) : (atEnd e p s).spurUp q = s.spurUp q := by
  cases e with
  | far => rfl
  | master =>
    simp only [State.spurUp, atEnd, heard, State.setSpur_spurs, Tab.get_put]
    split
    · next own => rw [own]
    · rfl
theorem atTrip_eq_false (s : State) : s.atTrip = false ↔ s.level.effective.val < 3 := by simp [State.atTrip]

/-- Settles O39: the table gives the master, a new tag changes what the STATE shows, and the lights are formed again from the master. -/
theorem claimsAreDecidedByTheTable : Obligations.ClaimsAreDecidedByTheTable := by
  intro i e p b t s powered _ quiet pos small truck port
  have reaches : ReachesMaster i e p b t s := ⟨powered, quiet, pos, small, truck, port⟩
  have claims := blockPart_takeClaim (atEnd e p s) i e t
  have alone := (OnlyMaster.same (congrArg Blocks.entries (blocks_atEnd e p s))).trans (OnlyMaster.takeClaim i (atEnd e p s) e t)
  simp only [blockPart_atEnd, working_atEnd, line_atEnd, atTrip_atEnd, master_atEnd] at claims
  obtain ⟨level, others, far, master⟩ := settle_onlyMaster reaches.quiet_atEnd (outsideLevel_takeClaim ..) alone claims
  have settled := settle_quiet (reaches.quiet_atEnd.of_outsideLevel (outsideLevel_takeClaim (atEnd e p s) i e t))
  have spurs : (settle (takeClaim i e t (atEnd e p s))).spurs = (takeClaim i e t (atEnd e p s)).spurs := by rw [settled]; rfl
  have blocks : (settle (takeClaim i e t (atEnd e p s))).blocks = (takeClaim i e t (atEnd e p s)).blocks := by rw [settled]; rfl
  have line : (settle (takeClaim i e t (atEnd e p s))).line = (takeClaim i e t (atEnd e p s)).line := by rw [settled]; rfl
  have grants : masterGrants (s.working.blocks.get i).convoy s.atTrip e (s.master i) = true ↔ _ :=
    masterGrants_iff.trans (and_congr_left' (or_congr_right (atTrip_eq_false s)))
  have knows : ((atEnd e p s).master i).knows t = (s.master i).knows t := by rw [master_atEnd]
  refine ⟨_, reaches.claim, level, others, far, fun known => ?_, fun new granted => ?_, fun new waits => ?_,
    fun new up room => ?_, fun end_ new => ?_, fun q => ?_⟩
  · rw [master, if_pos known]
  · rw [master, if_neg (by simp [new]), masterClaim, if_pos (grants.mpr granted), masterGrant_new new]
  · rw [master, if_neg (by simp [new]), masterClaim, if_neg (fun granted => waits (grants.mp granted)), masterWait_eq]
  · refine ⟨claimAnswer i e t s, fun granted => if_pos (grants.mpr granted), fun waits => if_neg fun granted => waits (grants.mp granted), ?_⟩
    have queue := inQueue_takeClaim_new (i := i) (e := e) (t := t) (s := atEnd e p s) (knows.trans new) (by rw [line_atEnd]; exact up)
      (by rw [line_atEnd]; exact room)
    have shown : (settle (takeClaim i e t (atEnd e p s))).stateMsg i = (takeClaim i e t (atEnd e p s)).stateMsg i := by rw [settled]; rfl
    rw [line, queue, shown, line_atEnd, claimAnswer_atEnd]
  · subst end_
    obtain ⟨up, bound, role⟩ := truck rfl
    have light := light_takeClaim_new (s := heard p s) (i := i) (t := t) new ((heard_spurUpAs .truck p p s).trans up) bound role
    rw [blocks, show atEnd .master p s = heard p s from rfl, light]
    exact ⟨fun granted => if_pos (grants.mpr granted), fun waits => if_neg fun granted => waits (grants.mp granted)⟩
  · rw [spurs, blocks, spurs_takeClaim (p := p) (s := atEnd e p s) (fun end_ => ⟨?_, ?_⟩) q, knows, spurUp_atEnd, blocks_atEnd,
      spurType_congr s q (working_atEnd e p s)]
    · cases e <;> rfl
    · subst end_; exact (heard_spurUpAs .truck p p s).trans (truck rfl).1
    · subst end_; exact (truck rfl).2.1

end Sys2Proof.Safety
end

section
/-! PROOFS. The family of the heading blocks: the far ends (O41). -/

namespace Sys2Proof.Safety
open Sys2Proof.Machine

/-! ## An event of one far end -/

/-- Of the block entries, at most the far end of one differs. -/
structure OnlyFar (i : BlockIx) (s t : State) : Prop where
  others : ∀ j, j ≠ i → t.blocks.entries.get j = s.blocks.entries.get j
  master : t.master i = s.master i

namespace OnlyFar
variable {i : BlockIx} {s t u : State}

theorem trans (h : OnlyFar i s t) (k : OnlyFar i t u) : OnlyFar i s u :=
  ⟨fun j ne => (k.others j ne).trans (h.others j ne), k.master.trans h.master⟩
theorem same (e : t.blocks.entries = s.blocks.entries) : OnlyFar i s t :=
  ⟨fun j _ => by rw [e], by rw [State.master, e]; rfl⟩
theorem setFar (i : BlockIx) (s : State) (f : FarEnd) : OnlyFar i s (s.setFar i f) :=
  ⟨fun _ ne => Tab.get_put_ne _ _ ne, State.setFar_master s i i f⟩
/-- R107: an event leaves what its own work leaves. -/
theorem event {f : State → State} (h : OnlyFar i s (f s)) : OnlyFar i s (farEvent i f s) :=
  h.trans (same (entries_farEvent s i f))
end OnlyFar

section
variable (i : BlockIx) (s : State)

theorem farEnd_of_entries {t : State} (e : t.blocks.entries = s.blocks.entries) : t.farEnd i = s.farEnd i := by
  rw [State.farEnd, e]; rfl
@[simp] theorem farEnd_post (d : Side) (m : NMsg) : (post d m s).farEnd i = s.farEnd i := by rw [State.farEnd, entries_post]; rfl
@[simp] theorem farEnd_markIf (b : Bool) (x : Source) : (s.markIf b x).farEnd i = s.farEnd i := by cases b <;> rfl
theorem farEnd_farEvent (f : State → State) : (farEvent i f s).farEnd i = (f s).farEnd i :=
  farEnd_of_entries i _ (entries_farEvent s i f)

/-- R114: the far end's claim in hand. -/
@[simp] theorem farEnd_setClaim (c : Option (Nat × Standing)) : (setClaim i c s).farEnd i = { s.farEnd i with claim := c } := by
  unfold setClaim; split
  · next same => rw [← same]
  · exact State.setFar_farEnd s i _
theorem onlyFar_setClaim (c : Option (Nat × Standing)) : OnlyFar i s (setClaim i c s) := by
  unfold setClaim; split
  · exact .same rfl
  · exact (OnlyFar.setFar i s _).trans (.same rfl)
@[simp] theorem line_setClaim (c : Option (Nat × Standing)) : (setClaim i c s).line = s.line := by
  unfold setClaim; split <;> rfl
/-- R115: its pending exits. -/
@[simp] theorem farEnd_setExits (l : List Nat) : (setExits i l s).farEnd i = { s.farEnd i with exits := l } := by
  unfold setExits; split
  · next same => rw [← same]
  · exact State.setFar_farEnd s i _
theorem onlyFar_setExits (l : List Nat) : OnlyFar i s (setExits i l s) := by
  unfold setExits; split
  · exact .same rfl
  · exact (OnlyFar.setFar i s _).trans (.same rfl)
@[simp] theorem line_setExits (l : List Nat) : (setExits i l s).line = s.line := by
  unfold setExits; split <;> rfl
theorem line_farEvent (f : State → State) : (farEvent i f s).line = (f s).line := by
  simp only [farEvent, line_reformLights]; split <;> rfl
theorem onlyFar_post (d : Side) (m : NMsg) : OnlyFar i s (post d m s) := .same (by rw [entries_post])
theorem post_outbye {s : State} {m : NMsg} (up : s.line.outPort.up = true) (room : s.line.outPort.queue.length < 8) :
    (post .outbye m s).line.outPort.queue = s.line.outPort.queue ++ [m] := by
  have takes : ((s.port .outbye).up && decide ((s.port .outbye).queue.length < 8)) = true := by simp [State.port, up, room]
  rw [post, if_pos takes]
  rfl
end

/-! ## What each event makes of the far end -/

section
variable (i : BlockIx) (t : Nat) (s : State)

/-- R114: the far end with the tag as its claim in hand, ASKED unless it is that already. -/
def farAsked (f : FarEnd) : FarEnd := if f.claim.map (·.1) = some t then f else { f with claim := some (t, .asked) }
/-- R114: the claim in hand becomes the tag's, before CLAIM is posted. -/
def claimAsked : State :=
  if (match (s.farEnd i).claim with | some (t', _) => t' == t | none => false) then s else setClaim i (some (t, .asked)) s
theorem farArriving_eq : farArriving i t s =
    farEvent i (fun s => post .outbye (.claim ((claimAsked i t s).blockId i) t) (claimAsked i t s)) s := rfl
theorem claimAsked_eq : claimAsked i t s = s ∧ (s.farEnd i).claim.map (·.1) = some t ∨
    claimAsked i t s = setClaim i (some (t, .asked)) s ∧ (s.farEnd i).claim.map (·.1) ≠ some t := by
  unfold claimAsked
  rcases (s.farEnd i).claim with _ | ⟨t', g⟩
  · exact .inr ⟨rfl, nofun⟩
  · by_cases own : t' = t
    · exact .inl ⟨by simp [own], by simp [own]⟩
    · exact .inr ⟨by simp [own], by simp [own]⟩
theorem farEnd_farArriving : (farArriving i t s).farEnd i = farAsked t (s.farEnd i) := by
  rw [farArriving_eq, farEnd_farEvent, farEnd_post, farAsked]
  obtain ⟨asked, own⟩ | ⟨asked, other⟩ := claimAsked_eq i t s
  · rw [asked, if_pos own]
  · rw [asked, if_neg other, farEnd_setClaim]
theorem onlyFar_farArriving : OnlyFar i s (farArriving i t s) := by
  refine OnlyFar.event (OnlyFar.trans (t := claimAsked i t s) ?_ (onlyFar_post i _ _ _))
  obtain ⟨asked, -⟩ | ⟨asked, -⟩ := claimAsked_eq i t s
  · rw [asked]; exact .same rfl
  · rw [asked]; exact onlyFar_setClaim i s _
@[simp] theorem blockId_setClaim (c : Option (Nat × Standing)) : (setClaim i c s).blockId i = s.blockId i := by
  unfold setClaim; split <;> rfl
theorem outQueue_farArriving (up : s.line.outPort.up = true) (room : s.line.outPort.queue.length < 8) :
    (farArriving i t s).line.outPort.queue = s.line.outPort.queue ++ [.claim (s.blockId i) t] := by
  rw [farArriving_eq, line_farEvent]
  obtain ⟨asked, -⟩ | ⟨asked, -⟩ := claimAsked_eq i t s
  · rw [asked, post_outbye up room]
  · rw [asked, post_outbye (by simpa using up) (by simpa using room), line_setClaim, blockId_setClaim]
/-- R115: a tag leaving joins the pending exits, and EXIT is posted. -/
theorem farEnd_farLeaving : (farLeaving i t s).farEnd i = { s.farEnd i with exits := joinExits t (s.farEnd i).exits } := by
  rw [farLeaving, farEnd_farEvent, farEnd_setExits, farEnd_post]
theorem onlyFar_farLeaving : OnlyFar i s (farLeaving i t s) :=
  OnlyFar.event ((onlyFar_post i s _ _).trans (onlyFar_setExits i _ _))
theorem outQueue_farLeaving (up : s.line.outPort.up = true) (room : s.line.outPort.queue.length < 8) :
    (farLeaving i t s).line.outPort.queue = s.line.outPort.queue ++ [.exit (s.blockId i) t] := by
  rw [farLeaving, line_farEvent, line_setExits, post_outbye up room]
/-- R114: an answer that names the claim in hand sets its standing. -/
theorem farAnswer_own {g st : Standing} (own : (s.farEnd i).claim = some (t, g)) :
    farAnswer i t st s = farEvent i (setClaim i (some (t, st))) s := by
  simp only [farAnswer, own, if_pos]
theorem farAnswer_other {st : Standing} (other : (s.farEnd i).claim.map (·.1) ≠ some t) : farAnswer i t st s = s := by
  unfold farAnswer; split
  · next t' g claim =>
    refine if_neg fun own => other ?_
    rw [claim, own]; rfl
  · rfl
/-- R116: the far end after a STATE in range. -/
def farMirrored (m : Mirror) (f : FarEnd) : FarEnd :=
  { f with mirror := m, claim := claimAfter m f.claim, exits := f.exits.filter fun t => m.tags.contains t }
theorem farEnd_farTakeState (m : Mirror) : (farTakeState i m s).farEnd i = farMirrored m (s.farEnd i) := by
  rw [farTakeState, farEnd_farEvent, farEnd_setExits, farEnd_setClaim, farEnd_markIf, State.setFar_farEnd]
  rfl
theorem onlyFar_farTakeState (m : Mirror) : OnlyFar i s (farTakeState i m s) :=
  OnlyFar.event ((((OnlyFar.setFar i s _).trans (.same (congrArg Blocks.entries (entries_markIf _ _ _)))).trans (onlyFar_setClaim i _ _)).trans
    (onlyFar_setExits i _ _))
end

/-- What an event of one far end leaves of a quiet node once its changes have been taken. -/
theorem settle_onlyFar {i : BlockIx} {s base w : State} {f : FarEnd} (quiet : Quiet base) (level : outsideLevel w = outsideLevel base)
    (alone : OnlyFar i s w) (far : w.farEnd i = f) :
    (outsideLevel (settle w) = outsideLevel base ∧ (∀ j, j ≠ i → (settle w).blocks.entries.get j = s.blocks.entries.get j) ∧
      (settle w).master i = s.master i) ∧ (settle w).farEnd i = f := by
  have quiet : Quiet w := quiet.of_outsideLevel level
  have blocks := blocks_settle_quiet quiet
  refine ⟨⟨(outsideLevel_settle_quiet quiet).trans level, ?_, ?_⟩, ?_⟩
  · rw [blocks]; exact alone.others
  · rw [State.master, blocks]; exact alone.master
  · rw [State.farEnd, blocks]; exact far

/-! ## How it is taken -/

section
variable {i : BlockIx} {p : SpurId} {b t : Nat} {s : State}

theorem take_eq_map_range {n : Nat} {tags : List Nat} (four : tags.length = 4) (few : n ≤ 4) :
    ((List.range n).map fun k => tags[k]?.getD 0) = tags.take n := by
  refine List.ext_getElem (by simp [four, few]) fun k hk _ => ?_
  have short : k < tags.length := by simp at hk; omega
  simp [short]
theorem mirrorOf_inRange {st d n mw fw : Nat} {tags : List Nat} {bs : BlockState} {dir : Option Side} (four : tags.length = 4)
    (state : blockStateOf st = some bs) (side : sideOf d = some dir) (few : n ≤ 4) (named : 0 ∉ tags.take n) :
    mirrorOf st d n tags mw fw =
      some { state := bs, dir := dir, count := n, tags := tags.take n, mWait := tagOpt mw, fWait := tagOpt fw } := by
  have taken := take_eq_map_range four few
  simp only [mirrorOf, state, side, taken]
  exact if_pos ⟨few, by simpa using named⟩
theorem blockStateOf_le {st : Nat} {bs : BlockState} (state : blockStateOf st = some bs) : st ≤ 5 := by
  unfold blockStateOf at state; split at state
  case h_7 => cases state
  all_goals omega
theorem sideOf_le {d : Nat} {dir : Option Side} (side : sideOf d = some dir) : d ≤ 2 := by
  unfold sideOf at side; split at side
  case h_4 => cases side
  all_goals omega
theorem mirrorOf_outOfRange {st d n mw fw : Nat} {tags : List Nat} (four : tags.length = 4)
    (out : 5 < st ∨ 2 < d ∨ 4 < n ∨ 0 ∈ tags.take n) : mirrorOf st d n tags mw fw = none := by
  unfold mirrorOf; split
  · next bs dir state side =>
    have known := blockStateOf_le state
    have sided := sideOf_le side
    refine if_neg fun ⟨few, named⟩ => ?_
    rw [take_eq_map_range four few] at named
    obtain above | above | above | zero := out
    · omega
    · omega
    · omega
    · exact named (List.contains_iff_mem.mpr zero)
  · rfl
theorem line_settle_quiet (quiet : Quiet s) : (settle s).line = s.line := by rw [settle_quiet quiet]; rfl
/-- R119: an answer or a STATE at the UP outbye port. -/
theorem exec_outbye (powered : s.powered = true) (m : NMsg) (port : m.port = .outbye) :
    exec m.command s = .next (settle (takeNeighbour .outbye m s)) := by
  rw [exec_neighbour, port, settled_powered _ powered]
theorem takeNeighbour_farAnswer (up : s.line.outPort.up = true) (named : s.farOf b = some i) (pos : t ≠ 0) :
    takeNeighbour .outbye (.grant b t) s = farAnswer i t .granted s ∧ takeNeighbour .outbye (.wait b t) s = farAnswer i t .waiting s := by
  have portUp : (s.port .outbye).up = true := up
  constructor
  · simp [takeNeighbour, portUp, neighbourGrant, named, pos]
  · simp [takeNeighbour, portUp, neighbourWait, named, pos]
theorem takeNeighbour_state (up : s.line.outPort.up = true) (st d n : Nat) (tags : List Nat) (mw fw : Nat) :
    takeNeighbour .outbye (.masterState b st d n tags mw fw) s = neighbourState b st d n tags mw fw s := by
  have portUp : (s.port .outbye).up = true := up
  simp only [takeNeighbour, portUp, if_true]
theorem neighbourState_taken {st d n mw fw : Nat} {tags : List Nat} {m : Mirror} (named : s.farOf b = some i)
    (mirror : mirrorOf st d n tags mw fw = some m) : neighbourState b st d n tags mw fw s = farTakeState i m s := by
  simp only [neighbourState, named, mirror]
theorem neighbourState_discarded {st d n mw fw : Nat} {tags : List Nat} (out : s.farOf b = none ∨ mirrorOf st d n tags mw fw = none) :
    neighbourState b st d n tags mw fw s = s := by
  unfold neighbourState; split
  · next i m named mirror => rw [named, mirror] at out; cases out <;> contradiction
  · rfl
end

/-- Settles O41: each event of a far end by what it makes of its record. -/
theorem farEndsAskAndMirror : Obligations.FarEndsAskAndMirror := by
  refine ⟨fun i p b t s powered idle quiet pos small => ⟨fun up bound role => ?_, fun up named => ⟨fun st own => ?_, fun other => ?_⟩⟩,
    fun b st d n tags mw fw s powered idle quiet up four => ⟨fun i bs dir named state side few zero => ?_, fun out => ?_⟩⟩
  · have heardQuiet := quiet_heard quiet p
    obtain ⟨arriving, leaving⟩ := (blockTag_bound (s := heard p s) pos small bound).2 role
    constructor
    · have frame : outsideLevel (farArriving i t (heard p s)) = outsideLevel (heard p s) := by rw [← arriving, outsideLevel_blockTag]
      obtain ⟨alone, far⟩ := settle_onlyFar heardQuiet frame (onlyFar_farArriving i t (heard p s)) (farEnd_farArriving i t _)
      refine ⟨_, (exec_tag powered quiet up t 0).trans (by rw [arriving]), alone, far, fun up room => ?_⟩
      rw [line_settle_quiet (heardQuiet.of_outsideLevel frame)]
      exact outQueue_farArriving i t (heard p s) up room
    · have frame : outsideLevel (farLeaving i t (heard p s)) = outsideLevel (heard p s) := by rw [← leaving, outsideLevel_blockTag]
      obtain ⟨alone, far⟩ := settle_onlyFar heardQuiet frame (onlyFar_farLeaving i t (heard p s)) (farEnd_farLeaving i t _)
      refine ⟨_, (exec_tag powered quiet up t 1).trans (by rw [leaving]), alone, far.trans ?_, fun up room => ?_⟩
      · simp only [joinExits, List.contains_iff_mem]; rfl
      · rw [line_settle_quiet (heardQuiet.of_outsideLevel frame)]
        exact outQueue_farLeaving i t (heard p s) up room
  · obtain ⟨grant, wait⟩ := takeNeighbour_farAnswer up named pos
    have answered (g : Standing) : _ ∧ _ := settle_onlyFar (w := farAnswer i t g s) (f := { s.farEnd i with claim := some (t, g) }) quiet
      (outsideLevel_farAnswer s i t g)
      (by rw [farAnswer_own i t s own]; exact OnlyFar.event (onlyFar_setClaim i s _))
      (by rw [farAnswer_own i t s own, farEnd_farEvent, farEnd_setClaim])
    exact ⟨⟨_, (exec_outbye powered (.grant b t) rfl).trans (by rw [grant]), answered .granted⟩,
      ⟨_, (exec_outbye powered (.wait b t) rfl).trans (by rw [wait]), answered .waiting⟩⟩
  · obtain ⟨grant, wait⟩ := takeNeighbour_farAnswer up named pos
    exact ⟨(exec_outbye powered (.grant b t) rfl).trans (by rw [grant, farAnswer_other i t s other, settle_of_noNotices idle]),
      (exec_outbye powered (.wait b t) rfl).trans (by rw [wait, farAnswer_other i t s other, settle_of_noNotices idle])⟩
  · have taken := neighbourState_taken named (mirrorOf_inRange (mw := mw) (fw := fw) four state side few zero)
    rw [← takeNeighbour_state up] at taken
    obtain ⟨⟨level, others, master⟩, far⟩ := settle_onlyFar quiet (outsideLevel_farTakeState s i _)
      (onlyFar_farTakeState i s _) (farEnd_farTakeState i s
        { state := bs, dir := dir, count := n, tags := tags.take n, mWait := tagOpt mw, fWait := tagOpt fw })
    refine ⟨_, (exec_outbye powered (.masterState b st d n tags mw fw) rfl).trans (by rw [taken]), level, others, master, ?_⟩
    rw [far]
    refine ⟨rfl, by simp [farMirrored], rfl, fun none => ?_, fun t g claim listed => ?_, fun t g claim gone waits => ?_,
      fun t g claim gone free => ?_⟩
    · simp only [farMirrored, none]; rfl
    · simp [farMirrored, claim, claimAfter, listed]
    · simp [farMirrored, claim, claimAfter, gone, waits]
    · simp [farMirrored, claim, claimAfter, gone, free]
  · have stays : takeNeighbour .outbye (.masterState b st d n tags mw fw) s = s :=
      (takeNeighbour_state up st d n tags mw fw).trans (neighbourState_discarded (out.imp_right (mirrorOf_outOfRange four)))
    exact (exec_outbye powered (.masterState b st d n tags mw fw) rfl).trans (by rw [stays, settle_of_noNotices idle])

end Sys2Proof.Safety
end

section
/-! PROOFS. The family of the heading blocks: the turns of the entries and the overdue trucks (O43). -/

namespace Sys2Proof.Safety
open Sys2Proof.Machine

/-! ## Messages posted one after the other -/

/-- Messages posted at the outbye port, the first one first. -/
def posts (l : List NMsg) (s : State) : State := l.foldl (fun u m => post .outbye m u) s

section
variable {s t : State}

/-- R62: what a post makes of the line rests on the line alone. -/
theorem line_post_congr (d : Side) (m : NMsg) (line : t.line = s.line) : (post d m t).line = (post d m s).line := by
  unfold post
  rw [port_of_line line d, line]; split
  · cases d <;> simp [State.setPort, line]
  · rfl
theorem line_posts_congr (l : List NMsg) (line : t.line = s.line) : (posts l t).line = (posts l s).line := by
  induction l generalizing s t with
  | nil => exact line
  | cons m l ih => exact ih (line_post_congr .outbye m line)
theorem posts_eq (l : List NMsg) (s : State) : posts l s = s.setLine (posts l s).line := by
  induction l generalizing s with
  | nil => rfl
  | cons m l ih =>
    obtain ⟨x, posted⟩ := post_frame .outbye m s
    refine (ih (post .outbye m s)).trans ?_
    rw [show posts (m :: l) s = posts l (post .outbye m s) from rfl, posted]
    rfl
theorem posts_append (l k : List NMsg) (s : State) : posts (l ++ k) s = posts k (posts l s) := List.foldl_append
/-- Messages posted before a write that leaves the line alone are as messages posted after it. -/
theorem posts_setLine (l : List NMsg) (line : t.line = s.line) : t.setLine (posts l s).line = posts l t := by
  rw [posts_eq l t, line_posts_congr l line]
end

/-! ## The turn of a far entry (R117, R118) -/

section
variable (i : BlockIx) (s : State)

/-- R118: CLAIM for a claim in hand that is not GRANTED, not listed and not the far-end wait. -/
def claimAgain : List NMsg :=
  match (s.farEnd i).claim with
  | some (t, g) => if g ≠ .granted ∧ t ∉ (s.farEnd i).mirror.tags ∧ (s.farEnd i).mirror.fWait ≠ some t then [.claim (s.blockId i) t] else []
  | none => []
/-- R118: the pending exits that the mirror lists. -/
def exitsKept : List Nat := (s.farEnd i).exits.filter fun t => t ∈ (s.farEnd i).mirror.tags
/-- R118: the messages of a far entry's turn. -/
def turnMessages : List NMsg :=
  .farState (s.blockId i) (if s.farReadyNow i then 1 else 0) :: (claimAgain i s ++ (exitsKept i s).map (.exit (s.blockId i)))
/-- R117: the readiness is recorded as sent. -/
def readinessSent : State := s.setFar i { s.farEnd i with readySent := s.farReadyNow i }
/-- R117, R118: the far entry that a turn leaves. -/
def turnLeft : State :=
  (s.setFar i { s.farEnd i with readySent := s.farReadyNow i, exits := exitsKept i s }).markIf ((s.farEnd i).exits != exitsKept i s) (.block i)

theorem blockId_post (d : Side) (m : NMsg) : (post d m s).blockId i = s.blockId i := by
  obtain ⟨l, posted⟩ := post_frame d m s
  rw [posted]; rfl
theorem action_post (d : Side) (m : NMsg) : (post d m s).action = s.action := by
  obtain ⟨l, posted⟩ := post_frame d m s
  rw [posted]
theorem posts_exits (l : List Nat) :
    l.foldl (fun s t => post .outbye (.exit (s.blockId i) t) s) s = posts (l.map (.exit (s.blockId i))) s := by
  induction l generalizing s with
  | nil => rfl
  | cons t l ih => rw [List.foldl_cons, ih, blockId_post]; rfl
theorem setExits_setLine (l : List Nat) (x : Line) : setExits i l (s.setLine x) = (setExits i l s).setLine x := by
  have far : (s.setLine x).farEnd i = s.farEnd i := rfl
  unfold setExits
  rw [far]; split <;> rfl
theorem setExits_readinessSent : setExits i (exitsKept i s) (readinessSent i s) = turnLeft i s := by
  unfold setExits turnLeft readinessSent
  rw [State.setFar_farEnd]; split
  · next same =>
    have same : (s.farEnd i).exits = exitsKept i s := same
    rw [← same]
    simp
  · next moved =>
    have moved : ((s.farEnd i).exits != exitsKept i s) = true := bne_iff_ne.mpr moved
    rw [moved, State.markIf_true]
    simp only [State.setFar, Tab.put_put, Tab.get_put_same]
theorem line_turnLeft : (turnLeft i s).line = s.line := State.markIf_line ..
/-- R118: the claim in hand is posted again where the master does not show it. -/
def claimTurn : State :=
  match (s.farEnd i).claim with
  | some (t, st) =>
    if st ≠ .granted ∧ ¬ (s.farEnd i).mirror.tags.contains t ∧ (s.farEnd i).mirror.fWait ≠ some t
      then post .outbye (.claim (s.blockId i) t) s else s
  | none => s
theorem claimTurn_eq : claimTurn i s = posts (claimAgain i s) s := by
  unfold claimTurn claimAgain
  rcases (s.farEnd i).claim with _ | ⟨t, g⟩
  · rfl
  · simp only [List.contains_iff_mem]; split <;> rfl
/-- R118: a far entry's turn. -/
theorem farTurn_eq : farTurn i s = posts (turnMessages i s) (turnLeft i s) := by
  have far : (postReadiness i s).farEnd i = { s.farEnd i with readySent := s.farReadyNow i } :=
    (farEnd_post i _ _ _).trans (State.setFar_farEnd s i _)
  have id : (postReadiness i s).blockId i = s.blockId i := blockId_post ..
  have kept : ((postReadiness i s).farEnd i).exits.filter (fun t => ((postReadiness i s).farEnd i).mirror.tags.contains t) =
      exitsKept i s := by
    rw [far]; simp [exitsKept]
  have claimed : claimTurn i (postReadiness i s) = posts (claimAgain i s) (postReadiness i s) := by
    rw [claimTurn_eq, claimAgain, far, id]; rfl
  have readiness : postReadiness i s = posts [.farState (s.blockId i) (if s.farReadyNow i then 1 else 0)] (readinessSent i s) := rfl
  have left : setExits i (exitsKept i s) (posts (claimAgain i s) (postReadiness i s)) =
      posts (.farState (s.blockId i) (if s.farReadyNow i then 1 else 0) :: claimAgain i s) (turnLeft i s) := by
    rw [readiness, ← posts_append, posts_eq _ (readinessSent i s), setExits_setLine, setExits_readinessSent]
    exact posts_setLine _ (line_turnLeft i s)
  have leftId : (posts (.farState (s.blockId i) (if s.farReadyNow i then 1 else 0) :: claimAgain i s) (turnLeft i s)).blockId i =
      s.blockId i := by
    rw [posts_eq, turnLeft]
    simp [State.blockId]
  refine (congrArg (fun l => l.foldl (fun s t => post .outbye (.exit (s.blockId i) t) s)
    (setExits i l (claimTurn i (postReadiness i s)))) kept).trans ?_
  rw [claimed, left, posts_exits, leftId, ← posts_append]
  rfl
end

/-! ## Overdue trucks (R113) -/

theorem overdueNow_iff {limit t : Nat} {l : List Truck} :
    overdueNow limit t l = true ↔ ∃ x ∈ l, x.tag = t ∧ limit ≤ x.age ∧ x.overdue = false := by
  simp [overdueNow, and_assoc]
theorem takeOverdue_due {i : BlockIx} {t : Nat} {s : State} :
    takeOverdue i t s = if s.isMaster i = true ∧ ∃ x ∈ (s.master i).list ++ (s.master i).faults,
        x.tag = t ∧ (s.working.blocks.get i).transit * 250 ≤ x.age ∧ x.overdue = false
      then (s.setMaster i (masterOverdue t (s.master i))).mark (.block i) else s := by
  refine if_congr ?_ rfl rfl
  simp only [Bool.and_eq_true, Bool.or_eq_true, overdueNow_iff, List.mem_append]
  exact and_congr_right fun _ => ⟨fun h => h.elim (fun ⟨x, m, d⟩ => ⟨x, .inl m, d⟩) fun ⟨x, m, d⟩ => ⟨x, .inr m, d⟩,
    fun ⟨x, m, d⟩ => m.imp (fun m => ⟨x, m, d⟩) fun m => ⟨x, m, d⟩⟩

/-! ## The turns -/

section
variable {i : BlockIx} {s : State}

/-- R118: a turn that is due, in a state with no change handed over. -/
theorem exec_blockTurn (powered : s.powered = true) (idle : NoNotices s) {w : State}
    (turn : blockTurn i (s.setBlocks { s.blocks with turnOpen := false }) = w) (action : w.action = s.action)
    (open_ : s.blocks.turnOpen = true) (at_ : s.blocks.period = i.val * 50) : exec (.blockTurn i) s = .next w := by
  have due : s.turnDue i = true := by simp [State.turnDue, open_, at_]
  have run : exec (.blockTurn i) s = settled (fun s => if s.turnDue i then
    blockTurn i (s.setBlocks { s.blocks with turnOpen := false }) else s) s := rfl
  rw [run, settled_powered _ powered, if_pos due, turn, settle_of_sameAction idle action]
end

/-- Settles O43: a master's turn is one post; a far entry's turn is its record written and its messages posted in order. -/
theorem turnsAndOverdueTrucks : Obligations.TurnsAndOverdueTrucks := by
  intro i t s powered idle
  have overdue : exec (.overdue i t) s = .next (settle (takeOverdue i t s)) := settled_powered (takeOverdue i t) powered
  refine ⟨fun open_ at_ => ⟨fun master => ?_, fun far => ?_, fun off => ?_⟩, fun notDue => ?_, fun due => ?_, fun notDue => ?_⟩
  · refine exec_blockTurn powered idle (if_pos master) ?_ open_ at_
    exact action_post ..
  · have notMaster : ¬ s.isMaster i = true := by
      simp only [State.isFar, Bool.and_eq_true, beq_iff_eq] at far
      simp [State.isMaster, far.2]
    refine exec_blockTurn powered idle ?_ ?_ open_ at_
    · exact (if_neg notMaster).trans ((if_pos far).trans (farTurn_eq i _))
    · exact (congrArg State.action (posts_eq _ _)).trans (State.markIf_action ..)
  · have notMaster : ¬ s.isMaster i = true := by simp [State.isMaster, off]
    have notFar : ¬ s.isFar i = true := by simp [State.isFar, off]
    exact exec_blockTurn powered idle ((if_neg notMaster).trans (if_neg notFar)) rfl open_ at_
  · have off : ¬ s.turnDue i = true := by
      simp only [State.turnDue, Bool.and_eq_true, beq_iff_eq]
      rintro ⟨open_, at_⟩
      obtain closed | elsewhere := notDue
      · rw [closed] at open_; cases open_
      · exact elsewhere at_
    have run : exec (.blockTurn i) s = settled (fun s => if s.turnDue i then
      blockTurn i (s.setBlocks { s.blocks with turnOpen := false }) else s) s := rfl
    rw [run, settled_powered _ powered, if_neg off, settle_of_noNotices idle]
  · rw [overdue, takeOverdue_due, if_pos due]
    exact congrArg _ (settle_of_sameAction idle rfl)
  · rw [overdue, takeOverdue_due, if_neg notDue, settle_of_noNotices idle]

end Sys2Proof.Safety
end

section
/-! PROOFS. The family of the heading blocks: truck status and the truck alarm record (O44). -/

namespace Sys2Proof.Safety
open Sys2Proof.Machine

/-! ## A status taken (R127) -/

/-- A mark of a truck source. -/
theorem latchPart_held_truck (s : State) (q : SpurId) : (latchPart s).held (.truck q) = s.held (.truck q) := rfl
/-- Marks of the truck sources in a quiet node once its changes have been taken. -/
theorem held_truck_settle {s : State} (quiet : Quiet s) (q : SpurId) : (settle s).held (.truck q) = s.held (.truck q) :=
  congrArg (fun l => l.held (.truck q)) (latchPart_settle_quiet quiet)
theorem held_truck_mark (s : State) (p q : SpurId) :
    (s.mark (.truck p)).held (.truck q) = if q = p then markHeld (s.held (.truck q)) else s.held (.truck q) := by
  by_cases own : q = p
  · rw [own, held_mark_same, if_pos rfl]
  · rw [held_mark_ne s fun e => own (Source.truck.inj e), if_neg own]

section
variable (p : SpurId) (t : Nat) (r : TruckReport) (s : State)

/-- R127: the status recorded as the spur's last. -/
def statusKept : State := s.setBlocks { s.blocks with truckLast := s.blocks.truckLast.put p (some (t, r, s.line.cycle)) }
/-- R127: a status in range is taken. -/
def statusTaken : State :=
  if alarmAfter t r s.blocks.truckAlarm = s.blocks.truckAlarm then (statusKept p t r s).mark (.truck p)
  else (setTruckAlarm (alarmAfter t r s.blocks.truckAlarm) ((statusKept p t r s).mark (.truck p))).mark (.truck p)
theorem takeTruckStatus_inRange {st : Nat} (pos : t ≠ 0) (small : t ≤ 4095) (report : truckReportOf st = some r) :
    takeTruckStatus p t st s = statusTaken p t r s := by
  have inRange : ¬ (t = 0 ∨ 4095 < t) := by omega
  simp only [takeTruckStatus, if_neg inRange, report]
  rfl
theorem takeTruckStatus_outOfRange {st : Nat} (out : t = 0 ∨ 4095 < t ∨ 3 < st) : takeTruckStatus p t st s = s := by
  have none : (if t = 0 ∨ 4095 < t then none else truckReportOf st) = none := by
    split
    · rfl
    · unfold truckReportOf; split
      case h_5 => rfl
      all_goals omega
  simp only [takeTruckStatus, none]
theorem outsideLevel_setTruckAlarm (a : Option Nat) :
    outsideLevel (setTruckAlarm a s) = outsideLevel (s.setBlocks { s.blocks with truckAlarm := a }) := outsideLevel_reformLocal _
theorem outsideLevel_statusTaken : outsideLevel (statusTaken p t r s) = outsideLevel (s.setBlocks { s.blocks with
    truckLast := s.blocks.truckLast.put p (some (t, r, s.line.cycle)), truckAlarm := alarmAfter t r s.blocks.truckAlarm }) := by
  unfold statusTaken; split
  · next same => rw [outsideLevel_mark, same]; rfl
  · rw [outsideLevel_mark, outsideLevel_setTruckAlarm]
    exact outsideLevel_mark ((statusKept p t r s).setBlocks _) (.truck p)
theorem held_statusTaken (q : SpurId) : (statusTaken p t r s).held (.truck q) =
    if q = p then marked (1 + count (alarmAfter t r s.blocks.truckAlarm ≠ s.blocks.truckAlarm)) (s.held (.truck q))
    else s.held (.truck q) := by
  have kept : (statusKept p t r s).held (.truck q) = s.held (.truck q) := rfl
  have alarmed (u : State) (a : Option Nat) : (setTruckAlarm a u).held (.truck q) = u.held (.truck q) :=
    congrArg (fun l => l.held (.truck q)) ((latchPart_reformLocal _).trans (latchPart_setBlocks u _))
  unfold statusTaken; split
  · next same => rw [held_truck_mark, kept, count, if_neg (not_not.mpr same)]; rfl
  · next changed =>
    rw [held_truck_mark, alarmed, held_truck_mark, kept, count, if_pos changed]
    split <;> rfl
end

/-! ## The record cleared (R128) -/

section
variable (s : State)

/-- R128: the mark of one spur's source. -/
def markNamed (t : Nat) (p : SpurId) (s : State) : State :=
  match s.blocks.truckLast.get p with
  | some (t', _, _) => s.markIf (s.spurType p == .truck && t' == t) (.truck p)
  | none => s
theorem truckClear_of_none (none : s.blocks.truckAlarm = none) : clearTruckAlarm s = s := by simp only [clearTruckAlarm, none]
theorem truckClear_of_some {t : Nat} (held : s.blocks.truckAlarm = some t) :
    clearTruckAlarm s = forEach 8 (markNamed t) (setTruckAlarm none s) := by
  simp only [clearTruckAlarm, held]
  rfl
theorem outsideLevel_markNamed (t : Nat) (p : SpurId) : outsideLevel (markNamed t p s) = outsideLevel s := by
  unfold markNamed; split <;> simp
theorem outsideLevel_clearTruckAlarm :
    outsideLevel (clearTruckAlarm s) = outsideLevel (s.setBlocks { s.blocks with truckAlarm := none }) := by
  cases alarm : s.blocks.truckAlarm with
  | none => rw [truckClear_of_none s alarm, ← alarm]; rfl
  | some t =>
    rw [truckClear_of_some s alarm, ← outsideLevel_setTruckAlarm]
    exact forEach_keeps outsideLevel 8 _ (fun p s => outsideLevel_markNamed s t p) _
theorem markNamed_frame (t : Nat) (p : SpurId) : ∃ g, markNamed t p s = s.setMgmt g := by
  unfold markNamed; split
  · cases s.spurType p == .truck && _ <;> exact ⟨_, rfl⟩
  · exact ⟨_, rfl⟩
theorem held_markNamed_ne (t : Nat) {p q : SpurId} (other : q ≠ p) : (markNamed t p s).held (.truck q) = s.held (.truck q) := by
  unfold markNamed; split
  · cases s.spurType p == .truck && _
    · rfl
    · exact (held_truck_mark s p q).trans (if_neg other)
  · rfl
theorem held_markNamed_same (t : Nat) (p : SpurId) : (markNamed t p s).held (.truck p) =
    marked (count (s.spurType p = .truck ∧ (s.blocks.truckLast.get p).map (·.1) = some t)) (s.held (.truck p)) := by
  unfold markNamed
  rcases s.blocks.truckLast.get p with _ | ⟨t', r, c⟩
  · exact (marked_of_not _ (by simp)).symm
  · by_cases names : s.spurType p = .truck ∧ t' = t
    · refine Eq.trans ?_ (marked_of _ (by simpa using names)).symm
      simp [names]
    · refine Eq.trans ?_ (marked_of_not _ (by simpa using names)).symm
      have still : (s.spurType p == .truck && t' == t) = false := by simpa using names
      simp [still]
/-- R128: the marks of a walk over the spurs. -/
theorem held_markNamed_all (t : Nat) (q : SpurId) : (forEach 8 (markNamed t) s).held (.truck q) =
    marked (count (s.spurType q = .truck ∧ (s.blocks.truckLast.get q).map (·.1) = some t)) (s.held (.truck q)) := by
  have walked := forEach_get (fun u : State => Tab.build 8 fun q => u.held (.truck q)) (fun u => ∃ g, u = s.setMgmt g)
    (fun q => marked (count (s.spurType q = .truck ∧ (s.blocks.truckLast.get q).map (·.1) = some t))) (markNamed t)
    (fun p u ⟨g, e⟩ => ?_) (fun p u ⟨g, e⟩ => ?_) s ⟨s.mgmt, rfl⟩ q
  · simp only [Tab.get_build] at walked
    exact walked
  · obtain ⟨g', moved⟩ := markNamed_frame u t p
    exact ⟨g', by rw [moved, e]; rfl⟩
  · refine Tab.ext fun j => ?_
    rw [Tab.get_build, Tab.get_put]; split
    · next own =>
      rw [own, held_markNamed_same, Tab.get_build, e]
      rfl
    · next other => rw [held_markNamed_ne u t other, Tab.get_build]
theorem held_clearTruckAlarm (q : SpurId) : (clearTruckAlarm s).held (.truck q) =
    marked (count (s.spurType q = .truck ∧ s.blocks.truckAlarm ≠ none ∧ (s.blocks.truckLast.get q).map (·.1) = s.blocks.truckAlarm))
      (s.held (.truck q)) := by
  cases alarm : s.blocks.truckAlarm with
  | none =>
    rw [truckClear_of_none s alarm]
    exact (marked_of_not _ (by simp)).symm
  | some t =>
    have set := outsideLevel_setTruckAlarm s none
    have working : (setTruckAlarm none s).working = s.working := (congrArg State.working set :)
    have last : (setTruckAlarm none s).blocks.truckLast = s.blocks.truckLast := (congrArg (fun u => u.blocks.truckLast) set :)
    have held : (setTruckAlarm none s).held (.truck q) = s.held (.truck q) :=
      congrArg (fun l => l.held (.truck q)) ((latchPart_reformLocal _).trans (latchPart_setBlocks s _))
    rw [truckClear_of_some s alarm, held_markNamed_all, held, last, spurType_congr s q working]
    exact congrArg (fun n => marked n _) (count_congr (by simp))
end

/-- Settles O44: a status is its record and marks, with the alarm record handed to the Level Unit; TRUCK CLEAR marks the spurs that name
the tag it held. -/
theorem truckStatusSetsTheAlarm : Obligations.TruckStatusSetsTheAlarm := by
  refine ⟨fun p t st s powered idle up => ⟨fun r pos small report => ?_, fun out => ?_⟩, fun h s takes access => ?_⟩
  · have run : exec (.truckStatus p t st) s = .next (settle (statusTaken p t r (heard p s))) := by
      refine (settled_powered (headMessage p (.truckStatus t st)) powered).trans ?_
      rw [headMessage_up up rfl, deliver, takeTruckStatus_inRange p t r _ pos small report]
    have frame := (outsideActions_settle _).trans (outsideActions_of_outsideLevel (outsideLevel_statusTaken p t r (heard p s)))
    have alarm : (settle (statusTaken p t r (heard p s))).blocks.truckAlarm = alarmAfter t r s.blocks.truckAlarm :=
      (congrArg (fun u => u.blocks.truckAlarm) frame :)
    have last : (settle (statusTaken p t r (heard p s))).blocks.truckLast = s.blocks.truckLast.put p (some (t, r, s.line.cycle)) :=
      (congrArg (fun u => u.blocks.truckLast) frame :)
    refine ⟨_, run, alarm, last, fun quiet q => ?_, by rw [last]; exact frame⟩
    have tookQuiet : Quiet (statusTaken p t r (heard p s)) :=
      Quiet.of_outsideLevel (s := (heard p s).setBlocks _) ⟨quiet.queue, quiet.lists⟩ (outsideLevel_statusTaken p t r (heard p s))
    rw [held_truck_settle tookQuiet, held_statusTaken]
    rfl
  · refine settled_headMessage powered up rfl (takeTruckStatus_outOfRange p t (heard p s) out) ?_
    exact idle
  · have run : exec (.truckClear h) s = .next (settle (replied h 21 .done [] (clearTruckAlarm (taken 21 s)))) :=
      orderArrives_owned takes access rfl rfl
    have cleared : outsideLevel (replied h 21 .done [] (clearTruckAlarm (taken 21 s))) =
        outsideLevel ((replied h 21 .done [] (taken 21 s)).setBlocks { s.blocks with truckAlarm := none }) := by
      rw [outsideLevel_replied, outsideLevel_clearTruckAlarm, ← outsideLevel_replied]
      unfold replied; split <;> rfl
    have frame := (outsideActions_settle _).trans (outsideActions_of_outsideLevel cleared)
    refine ⟨_, run, (congrArg (fun u => u.blocks.truckAlarm) frame :), fun quiet q => ?_, frame⟩
    have quiet : Quiet (replied h 21 .done [] (clearTruckAlarm (taken 21 s))) := by
      refine quiet_replied h 21 .done [] (Quiet.of_outsideLevel (s := (taken 21 s).setBlocks _) ?_ (outsideLevel_clearTruckAlarm _))
      exact ⟨quiet.queue, quiet.lists⟩
    have held : (replied h 21 .done [] (clearTruckAlarm (taken 21 s))).held (.truck q) = (clearTruckAlarm (taken 21 s)).held (.truck q) := by
      unfold replied; split <;> rfl
    rw [held_truck_settle quiet, held, held_clearTruckAlarm]
    rfl

end Sys2Proof.Safety
end

section
/-! PROOFS. The family of the heading blocks: the orders that open and close a block (O45). -/

namespace Sys2Proof.Safety
open Sys2Proof.Machine

/-! ## An order that needs no access -/

/-- R176: an order that needs no access and is done at once is replied to as its owner answers, and the changes are then taken. -/
theorem orderArrives_openSettled {h : OrderHdr} {o : Order} {s : State} (takes : Takes h s) (atOnce : doneAtOnce o = true)
    (open_ : kindNeedsAccess o.code = false) :
    orderArrives h o s = .next (settle (reply h o.code (runOrder s.mgmt.prepare h o (taken o.code s)))) := by
  have room : ¬ (s.mgmt.restart.isSome || (!h.bcast && s.repliesFull)) = true := by
    cases cast : h.bcast <;> simp [takes.restart, takes.room, cast]
  have judged : takeOrder h o s = reply h o.code (runOrder s.mgmt.prepare h o (taken o.code s)) := by
    refine (if_neg room).trans ((judgeOrder_open _ atOnce open_).trans ?_)
    rw [refreshAccess_open open_]
  rw [orderArrives, settled_powered _ takes.powered, if_pos takes.reach, judged]

/-! ## An opening and a closing (R122, R123) -/

section
variable (i : BlockIx) (s : State)

theorem outsideLevel_openBlock (clear : Bool) : outsideLevel (openBlock i clear s) = outsideLevel s := by
  rw [openBlock_eq]; split
  · exact outsideLevel_masterEvent i _ s (by simp [openingEvent])
  · rfl
/-- What an order that moves one master leaves of a quiet node, its reply made and its changes taken. -/
theorem settle_replied_onlyMaster {h : OrderHdr} {code : Nat} {r : Result} {fields : List Octet} {w : State} {m : Master} (quiet : Quiet s)
    (level : outsideLevel w = outsideLevel (taken code s)) (alone : OnlyMaster i (taken code s) w)
    (part : blockPart w = (blockPart s).set i m) :
    outsideLevel (settle (replied h code r fields w)) = outsideLevel (replied h code r fields (taken code s)) ∧
      (∀ j, j ≠ i → (settle (replied h code r fields w)).blocks.entries.get j = s.blocks.entries.get j) ∧
      (settle (replied h code r fields w)).master i = m := by
  have blocks : (replied h code r fields w).blocks = w.blocks := by unfold replied; split <;> rfl
  have start : OnlyMaster i s (taken code s) := .same rfl
  obtain ⟨outside, others, -, master⟩ := settle_onlyMaster (i := i) (s := s) (base := replied h code r fields (taken code s))
    (w := replied h code r fields w) (m := m) (quiet_replied h code r fields ⟨quiet.queue, quiet.lists⟩)
    (by rw [outsideLevel_replied, level, ← outsideLevel_replied])
    ((start.trans alone).trans (.same (congrArg Blocks.entries blocks))) ((blockPart_replied w h code r fields).trans part)
  exact ⟨outside, others, master⟩
/-- R122: what the opening of a block asks for. -/
def Opens (clear : Nat) : Prop :=
  (∃ p, (s.working.blocks.get i).spur = some p ∧ s.spurUpAs .truck p = true) ∧ s.line.inPort.up = true ∧ (s.master i).farReady = true ∧
    ¬ ((s.master i).state = .fault ∧ (s.master i).faultDir = some .inbye ∧ (s.master i).faults ≠ [] ∧ clear = 0 ∧
      3 ≤ s.level.effective.val)
theorem openNotReady_iff {clear : Nat} (form : clear ≤ 1) : s.openNotReady i (clear == 1) = false ↔ Opens i s clear := by
  have kept : clear = 0 ↔ ¬ clear = 1 := by omega
  unfold Opens State.openNotReady
  cases (s.working.blocks.get i).spur with
  | none => simp
  | some p => simp [State.atTrip, kept, and_assoc]
end

section
variable {convoy cycle : Nat} {atTrip : Bool} {m n : Master} {clear : Nat}

theorem masterOpened_opens {c : Bool} (opens : masterOpening c m = some n) :
    masterOpened convoy cycle atTrip c m = masterServe convoy cycle atTrip n := by rw [masterOpened, opens]
theorem masterOpened_stands {c : Bool} (stands : m.state = .free ∨ m.state = .held ∨ m.state = .draining) :
    masterOpened convoy cycle atTrip c m = m := by
  obtain state | state | state := stands <;> simp only [masterOpened, masterOpening, state]
end

/-! ## The orders -/

section
variable {h : OrderHdr} {b clear : Nat} {s : State} {i : BlockIx}

theorem runOrder_blockOpen (prep : Bool) (named : s.masterOf b = some i) (form : clear ≤ 1) : (¬ Opens i s clear →
      runOrder prep h (.blockOpen b clear) s = { state := s, result := .notReady, fields := [] }) ∧
    (Opens i s clear →
      runOrder prep h (.blockOpen b clear) s = { state := openBlock i (clear == 1) s, result := .done, fields := [] }) := by
  have ready := openNotReady_iff i s form
  constructor
  · intro closed
    have notReady : s.openNotReady i (clear == 1) = true := by simpa using mt ready.mp closed
    simp only [runOrder, orderBlockOpen, named, notReady]
    rfl
  · intro opens
    simp only [runOrder, orderBlockOpen, named, ready.mpr opens]
    rfl
theorem exec_blockOpen (form : clear ≤ 1) : exec (.blockOpen h b clear) s = orderArrives h (.blockOpen b clear) s := by
  have run : exec (.blockOpen h b clear) s = orderArrives h (if clear ≤ 1 then .blockOpen b clear else .badForm 17) s := rfl
  rw [run, if_pos form]
end

/-- Settles O45: an opening is the master that its state gives, with the waits served; a closing moves the state alone. -/
theorem blocksOpenAndClose : Obligations.BlocksOpenAndClose := by
  intro h b clear s takes quiet form
  refine ⟨fun access => ⟨fun nobody => ?_, fun i named => ⟨fun closed => ?_, fun opens => ?_⟩⟩, fun nobody => ?_, fun i named => ?_⟩
  · have answers : runOrder s.mgmt.prepare h (.blockOpen b clear) (taken 17 s) = { state := taken 17 s, result := .invalid, fields := [] } := by
      have nobody : (taken 17 s).masterOf b = none := nobody
      simp only [runOrder, orderBlockOpen, nobody]
      rfl
    exact (exec_blockOpen form).trans (orderArrives_replied takes access rfl rfl answers takes.settled)
  · have answers := (runOrder_blockOpen (h := h) (s := taken 17 s) s.mgmt.prepare named form).1 closed
    exact (exec_blockOpen form).trans (orderArrives_replied takes access rfl rfl answers takes.settled)
  · have answers := (runOrder_blockOpen (h := h) (s := taken 17 s) s.mgmt.prepare named form).2 opens
    have run : exec (.blockOpen h b clear) s = .next (settle (replied h 17 .done [] (openBlock i (clear == 1) (taken 17 s)))) := by
      rw [exec_blockOpen form, orderArrives_owned takes access rfl rfl]
      exact congrArg (fun a => Host.Outcome.next (settle (reply h 17 a))) answers
    obtain ⟨level, others, master⟩ := settle_replied_onlyMaster i s (h := h) (r := .done) (fields := []) quiet (outsideLevel_openBlock ..)
      (OnlyMaster.openBlock i (taken 17 s) (clear == 1)) (blockPart_openBlock (taken 17 s) i (clear == 1))
    have served (m1 : Master) (opening : masterOpening (clear == 1) (s.master i) = some m1)
        (mw : m1.mWait = (s.master i).mWait) (fw : m1.fWait = (s.master i).fWait) : _ ∧ _ :=
      have waits := waitsServed_masterServe (s.working.blocks.get i).convoy s.line.cycle s.atTrip m1
      have master := master.trans (masterOpened_opens opening)
      ⟨fun mNone fNone => master.trans (waits.idle (mw.trans mNone) (fw.trans fNone)), master ▸ waits⟩
    refine ⟨_, run, level, others, fun stands => master.trans (masterOpened_stands stands), fun closed => ?_, fun fault gone => ?_,
      fun fault keep kept => ?_, fun closing gone => ?_, fun closing keep => ?_⟩
    · exact served _ (by simp [masterOpening, closed]) rfl rfl
    · exact served _ (by simp [masterOpening, fault, gone]) rfl rfl
    · exact served _ (by simp [masterOpening, fault, keep, kept]) rfl rfl
    · exact served _ (by simp [masterOpening, closing, gone]) rfl rfl
    · exact served _ (by simp [masterOpening, closing, keep]) rfl rfl
  · have answers : runOrder s.mgmt.prepare h (.blockClose b) (taken 18 s) = { state := taken 18 s, result := .invalid, fields := [] } := by
      have nobody : (taken 18 s).masterOf b = none := nobody
      simp only [runOrder, orderBlockClose, nobody]
      rfl
    exact orderArrives_open takes rfl rfl answers takes.settled
  · have answers : runOrder s.mgmt.prepare h (.blockClose b) (taken 18 s) =
        { state := closeBlock i (taken 18 s), result := .done, fields := [] } := by
      have named : (taken 18 s).masterOf b = some i := named
      simp only [runOrder, orderBlockClose, named]
      rfl
    have run : exec (.blockClose h b) s = .next (settle (replied h 18 .done [] (closeBlock i (taken 18 s)))) :=
      (orderArrives_openSettled takes rfl rfl).trans (congrArg (fun a => Host.Outcome.next (settle (reply h 18 a))) answers)
    obtain ⟨level, others, master⟩ := settle_replied_onlyMaster i s (h := h) (r := .done) (fields := []) quiet (outsideLevel_closeBlock ..)
      (OnlyMaster.closeBlock i (taken 18 s)) (blockPart_closeBlock (taken 18 s) i)
    exact ⟨_, run, level, others, master⟩

end Sys2Proof.Safety
end

section
/-! PROOFS. The family of the refuge stations: what a change of the level leaves of one record of the Refuge Monitor, of its report mark
and of its panel (R32, R140, R141). -/

namespace Sys2Proof.Safety
open Sys2Proof.Machine

/-! ## The refuges' part of the state -/

/-- The refuge records with their marks, the spurs, and what decides which spur a call, a light or a panel is at. -/
structure RefugePart where
  working : Tables
  refuges : Tab 2 Refuge
  held    : PairIx → Option Nat
  spurs   : Tab 8 Spur
  calls   : Tab 16 CallRec
  lights  : Tab 8 Light
def refugePart (s : State) : RefugePart :=
  { working := s.working, refuges := s.refuges, held := fun r => s.held (.refuge r), spurs := s.spurs, calls := s.calls.recs
    lights := s.blocks.lights }

/-! ### What leaves it alone -/

section
variable (s : State)

theorem refugePart_mark {x : Source} (other : ∀ r, x ≠ .refuge r) : refugePart (s.mark x) = refugePart s := by
  have held (r : PairIx) : (s.mark x).held (.refuge r) = s.held (.refuge r) := held_mark_ne s (other r).symm
  simp only [refugePart, held]
  rfl
@[simp] theorem refugePart_markBlock (i : BlockIx) : refugePart (s.mark (.block i)) = refugePart s := refugePart_mark s (by simp)
@[simp] theorem refugePart_setMaster (i : BlockIx) (m : Master) : refugePart (s.setMaster i m) = refugePart s := rfl
@[simp] theorem refugePart_notify (n : Notice) : refugePart (s.notify n) = refugePart s := rfl
@[simp] theorem refugePart_setLevelMarked (l : LevelUnit) : refugePart ((s.setLevel l).mark .level) = refugePart s :=
  (refugePart_mark (s.setLevel l) (by simp)).trans rfl
@[simp] theorem refugePart_post (d : Side) (m : NMsg) : refugePart (post d m s) = refugePart s := by
  obtain ⟨l, posted⟩ := post_frame d m s
  rw [posted]; rfl
@[simp] theorem refugePart_grantClaim (i : BlockIx) (e : BlockEnd) (t : Nat) : refugePart (grantClaim i e t s) = refugePart s := by
  simp only [grantClaim]; split <;> simp
@[simp] theorem refugePart_decideClaim (i : BlockIx) (e : BlockEnd) (t : Nat) : refugePart (decideClaim i e t s) = refugePart s := by
  simp only [decideClaim, waitClaim]; repeat' split
  all_goals simp
@[simp] theorem refugePart_serveWaits (i : BlockIx) : refugePart (serveWaits i s) = refugePart s := by
  cases state : (s.master i).state with
  | free =>
    rw [serveWaits_free s state]
    exact foldl_keeps refugePart (serveAt i) (fun s e => by unfold serveAt; split <;> simp) _ s
  | held =>
    simp only [serveWaits, state]; repeat' split
    all_goals simp
  | _ => simp only [serveWaits, state]
@[simp] theorem refugePart_reformDrives : refugePart (reformDrives s) = refugePart s :=
  forEach_keeps refugePart 2 reformDrive (fun o s => by unfold reformDrive; split <;> simp) s
end

/-! ## One record and its panel -/

/-- Spur `p` is of type REFUGE, and the panel of refuge `r` and of nothing else. -/
structure OwnPanel (p : SpurId) (r : PairIx) (s : State) : Prop where
  alone : PanelAlone p r s
  type  : s.spurType p = .refuge

/-- From `s` to `t` the record `r` and its mark stand, and so does the spur `p` where it is the record's own panel. -/
structure RecordStands (p : SpurId) (r : PairIx) (s t : State) : Prop where
  working : t.working = s.working
  record  : t.refuges.get r = s.refuges.get r
  held    : t.held (.refuge r) = s.held (.refuge r)
  panel   : OwnPanel p r s → OwnPanel p r t ∧ t.spurs.get p = s.spurs.get p

namespace OwnPanel
variable {p q : SpurId} {r : PairIx} {s t : State} (own : OwnPanel p r s)
include own

/-- What the ownership of a panel rests on. -/
theorem congr (working : t.working = s.working)
    (calls : ∀ k, (t.call k).origin = (s.call k).origin ∧ (t.call k).dest = (s.call k).dest)
    (light : t.blocks.lights.get p = s.blocks.lights.get p) : OwnPanel p r t := by
  obtain ⟨⟨panels, ends, dark⟩, type⟩ := own
  refine ⟨⟨fun q ne => working ▸ panels q ne, fun k => ?_, light.trans dark⟩, (spurType_congr s p working).trans type⟩
  obtain ⟨origin, dest⟩ := calls k
  rw [origin, dest]
  exact ends k
theorem ne_of_type (other : s.spurType q ≠ .refuge) : q ≠ p := fun same => other (same ▸ own.type)
theorem otherSpur_ne {r' : PairIx} (ne : r' ≠ r) : (s.working.refuges.get r').spur ≠ some p :=
  have ⟨panels, _, _⟩ := own.alone
  panels r' ne
theorem origin_ne (k : RecId) : (s.call k).origin ≠ some p :=
  have ⟨_, ends, _⟩ := own.alone
  (ends k).1
theorem dest_ne (k : RecId) : (s.call k).dest ≠ some p :=
  have ⟨_, ends, _⟩ := own.alone
  (ends k).2
theorem dark : s.blocks.lights.get p = .dark :=
  have ⟨_, _, light⟩ := own.alone
  light
end OwnPanel

namespace RecordStands
variable {p : SpurId} {r : PairIx} {s t u : State}

theorem refl (p : SpurId) (r : PairIx) (s : State) : RecordStands p r s s := ⟨rfl, rfl, rfl, fun own => ⟨own, rfl⟩⟩
theorem trans (h : RecordStands p r s t) (k : RecordStands p r t u) : RecordStands p r s u where
  working := k.working.trans h.working
  record := k.record.trans h.record
  held := k.held.trans h.held
  panel own :=
    have ⟨own, before⟩ := h.panel own
    have ⟨own, after⟩ := k.panel own
    ⟨own, after.trans before⟩
theorem of_refugePart (e : refugePart t = refugePart s) : RecordStands p r s t where
  working := congrArg RefugePart.working e
  record := congrArg (fun x => x.refuges.get r) e
  held := congrArg (fun x => x.held r) e
  panel own := by
    have call (k : RecId) : t.call k = s.call k := congrArg (fun x => x.calls.get k) e
    exact ⟨own.congr (congrArg RefugePart.working e) (fun k => by rw [call]; exact ⟨rfl, rfl⟩) (congrArg (fun x => x.lights.get p) e),
      congrArg (fun x => x.spurs.get p) e⟩
/-- What the turns of a walk let stand, the walk lets stand. -/
theorem forEach (n : Nat) (f : Fin n → State → State) (turn : ∀ i s, RecordStands p r s (f i s)) (s : State) :
    RecordStands p r s (forEach n f s) :=
  forEach_invariant (RecordStands p r s) n f (fun i t h => h.trans (turn i t)) s (refl p r s)
theorem foldl {ι : Type} (f : State → ι → State) (turn : ∀ s i, RecordStands p r s (f s i)) (l : List ι) (s : State) :
    RecordStands p r s (l.foldl f s) :=
  List.foldlRecOn l f (motive := RecordStands p r s) (refl p r s) fun t h i _ => h.trans (turn t i)

/-! ### Messages and calls -/

/-- R169: a message to another spur. -/
theorem offer (h : RecordStands p r s t) {q : SpurId} (ne : OwnPanel p r s → q ≠ p) (m : OutMsg) :
    RecordStands p r s (offer q m t) where
  working := (working_offer t q m).trans h.working
  record := by rw [offer_eq]; exact h.record
  held := by rw [offer_eq]; exact h.held
  panel own := by
    obtain ⟨still, stands⟩ := h.panel own
    refine ⟨still.congr (working_offer t q m) (fun k => by rw [call_offer]; exact ⟨rfl, rfl⟩) (by rw [offer_eq]; rfl), ?_⟩
    exact (get_spurs_offer_ne t q p m (ne own).symm).trans stands
theorem toneOpt (h : RecordStands p r s t) {o : Option SpurId} (ne : OwnPanel p r s → o ≠ some p) (a : Tone) :
    RecordStands p r s (toneOpt o a t) := by
  cases o with
  | none => exact h
  | some q => exact h.offer (fun own same => ne own (congrArg some same)) _
/-- R79: a call enters a state and keeps its handsets. -/
theorem enterCall (k : RecId) (st : CallState) : RecordStands p r s (enterCall k st id s) where
  working := rfl
  record := rfl
  held := held_mark_ne _ (by simp)
  panel own := by
    refine ⟨own.congr rfl (fun j => ?_) rfl, rfl⟩
    by_cases same : j = k
    · subst same
      rw [call_enterCall]; exact ⟨rfl, rfl⟩
    · rw [call_enterCall_ne _ _ _ _ _ same]; exact ⟨rfl, rfl⟩
/-- R97: clearing a call sends to its own handsets alone. -/
theorem clearCall (k : RecId) (c : ClearCause) : RecordStands p r s (clearCall k c s) := by
  cases used : (s.call k).inUse with
  | false => rw [clearCall_not_inUse s k c used]; exact refl p r s
  | true =>
    have cleared := clearCall_cleared c used
    have frame := outsideCalls_clearCall s k c
    refine ⟨working_of_outsideCalls frame, congrArg (fun u => u.refuges.get r) frame, ?_, fun own => ⟨?_, ?_⟩⟩
    · rw [State.held, cleared.marked]
      exact Tab.get_put_ne _ _ (ix_ne (by simp))
    · refine own.congr (working_of_outsideCalls frame) (fun j => ?_) (congrArg (fun u => u.blocks.lights.get p) frame)
      by_cases same : j = k
      · subst same
        rw [cleared.record]; exact ⟨rfl, rfl⟩
      · rw [cleared.others j same]; exact ⟨rfl, rfl⟩
    · have notRung : rungSpur (s.call k) ≠ some p := by
        unfold rungSpur; split
        · exact own.dest_ne k
        · exact own.origin_ne k
      have notHandset : p ∉ handsetsOf (s.call k) := by
        have origin := own.origin_ne k
        have dest := own.dest_ne k
        unfold handsetsOf; split <;> simp [origin, dest]
      rw [cleared.spurs, clearingSends]
      simp [notRung, notHandset]
theorem clearWhere (test : CallRec → Bool) (c : ClearCause) (s : State) : RecordStands p r s (clearWhere test c s) :=
  forEach 16 _ (fun k s => by
    split
    · exact clearCall k c
    · exact refl p r s) s
/-- R87, R88: a call that proceeds sends to its own handsets alone. -/
theorem proceedCall (k : RecId) : RecordStands p r s (proceedCall k s) := by
  have rings : RecordStands p r s (ringStep k s) := by
    unfold ringStep
    dsimp only
    split
    · exact refl p r s
    next d dest =>
      repeat' split
      · exact clearCall k _
      · exact clearCall k _
      · exact clearCall k _
      · have notDest (own : OwnPanel p r s) : d ≠ p := fun same => own.dest_ne k (dest.trans (congrArg some same))
        exact ((enterCall k _).offer notDest _).toneOpt (fun own => own.origin_ne k) _
  simp only [Machine.proceedCall]; repeat' split
  · exact rings
  · exact clearCall k _
  · exact (enterCall k _).toneOpt (fun own => own.origin_ne k) _
/-- R33, R89, R90: no call is the panel's. -/
theorem callsAtMask (old new : Nat) (s : State) : RecordStands p r s (callsAtMask old new s) := by
  unfold Machine.callsAtMask; split
  · exact clearWhere _ _ s
  · exact foldl _ (fun s k => by
      split
      · exact proceedCall k
      · exact refl p r s) _ s

/-! ### Lights and blocks -/

/-- R125: no light is shown at a spur that is not of type TRUCK, and none has to go dark at a record's own panel. -/
theorem reformLight (q : SpurId) (s : State) : RecordStands p r s (reformLight q s) := by
  rw [reformLight_eq]; split
  · exact refl p r s
  next changed =>
    refine ⟨rfl, rfl, rfl, fun own => ?_⟩
    have ne : p ≠ q := by
      rintro rfl
      exact changed (by simp [formedLight, own.type, own.dark])
    exact ⟨own.congr rfl (fun _ => ⟨rfl, rfl⟩) (Tab.get_put_ne _ _ ne), Tab.get_put_ne _ _ ne⟩
theorem reformLights (s : State) : RecordStands p r s (reformLights s) := forEach 8 _ reformLight s
/-- R126: STOP ALL goes to TRUCK spurs. -/
theorem sendStopAll (s : State) : RecordStands p r s (sendStopAll s) :=
  forEach 8 _ (fun q s => by
    split
    next truck =>
      have type : s.spurType q = .truck := beq_iff_eq.mp (Bool.and_eq_true_iff.mp truck).2
      exact (refl p r s).offer (fun own => own.ne_of_type (by simp [type])) _
    next => exact refl p r s) s
theorem reformStopAll (s : State) : RecordStands p r s (reformStopAll s) := by
  unfold Machine.reformStopAll; split
  · exact refl p r s
  · refine trans (of_refugePart ?_) (sendStopAll _)
    rfl
/-- R124: what the blocks do at a change of the level. -/
theorem blocksAtLevel (wasTrip : Bool) (s : State) : RecordStands p r s (blocksAtLevel wasTrip s) := by
  have event (i : BlockIx) (s : State) : RecordStands p r s (masterEvent i (serveWaits i) s) := by
    simp only [masterEvent]
    refine trans (of_refugePart ?_) (reformLights _)
    repeat' split
    all_goals simp [postState]
  simp only [Machine.blocksAtLevel]
  refine trans (trans ?_ (reformLights _)) (reformStopAll _)
  split
  · exact forEach 4 _ (fun i s => by
      split
      · exact event i s
      · exact refl p r s) s
  · exact refl p r s

/-! ### The level and the other record -/

theorem reformMask (s : State) : RecordStands p r s (reformMask s) := by
  simp only [Machine.reformMask]; split
  · exact refl p r s
  · exact (of_refugePart (refugePart_setLevelMarked s _)).trans (callsAtMask _ _ _)
/-- R140, R141: the other record is prepared or stood down: its own panel is sent to, and it is written and marked. -/
theorem otherSent {q : PairIx} (ne : r ≠ q) (m : OutMsg) (x : Refuge) (b : Bool) (s : State) :
    RecordStands p r s (((refugeSpurOffer q m s).setRefuge q x).markIf b (.refuge q)) := by
  have sent : RecordStands p r s (refugeSpurOffer q m s) := by
    unfold refugeSpurOffer; split
    next spur => exact (refl p r s).offer (fun own same => own.otherSpur_ne ne.symm (same ▸ spur)) m
    next => exact refl p r s
  refine sent.trans ⟨by simp, ?_, ?_, fun own => ⟨own.congr (by simp) (fun k => ?_) (by simp), by simp⟩⟩
  · rw [State.markIf_refuges]; exact Tab.get_put_ne _ _ ne
  · cases b
    · rfl
    · exact held_mark_ne _ (by simpa using ne)
  · rw [State.call, State.markIf_calls]; exact ⟨rfl, rfl⟩
theorem otherPrepared {q : PairIx} (ne : r ≠ q) (s : State) : RecordStands p r s (sendPrepare q s) := otherSent ne _ _ _ s
theorem otherStoodDown {q : PairIx} (ne : r ≠ q) (s : State) : RecordStands p r s (standdownTest q s) := by
  simp only [standdownTest]; split
  · exact otherSent ne _ _ true s
  · exact refl p r s
end RecordStands

/-! ## What a change of the level does to a record (R140, R141) -/

/-- R140, R141: how a change of the effective level stands to EVACUATE. -/
inductive LevelMove where
  | rises | falls | stays
def levelMove (old new : Level) : LevelMove :=
  if old.val < 4 ∧ new.val = 4 then .rises else if old.val = 4 ∧ new.val < 4 then .falls else .stays
/-- R140, R141: a configured record that has met it. -/
def recordMoved : LevelMove → Refuge → Refuge
  | .rises, x => { x with prepared := true }
  | .falls, x => if x.occupancy = 0 then { x with prepared := false } else x
  | .stays, x => x
/-- R140, R141: what the record's own panel holds then. -/
def panelMoved : LevelMove → Refuge → Spur → Spur
  | .rises, x, panel => if x.prepared = true then panel else sent .refuge .refugePrepare panel
  | .falls, x, panel => if x.prepared = true ∧ x.occupancy = 0 then sent .refuge .refugeStanddown panel else panel
  | .stays, _, panel => panel
/-- From `s` to `t` the record `r`, with its panel `p`, has met a move of the level, and no other change. -/
structure RecordMoved (p : SpurId) (r : PairIx) (m : LevelMove) (s t : State) : Prop where
  working : t.working = s.working
  record  : t.refuges.get r = recordMoved m (s.refuges.get r)
  held    : (s.held (.refuge r)).isSome = true → (t.held (.refuge r)).isSome = true
  panel   : OwnPanel p r s → OwnPanel p r t ∧ t.spurs.get p = panelMoved m (s.refuges.get r) (s.spurs.get p)

theorem effective_of_levelPart {s t : State} (e : levelPart t = levelPart s) : t.level.effective = s.level.effective :=
  congrArg (fun x => x.formed.level.effective) e
theorem levelMove_same (l : Level) : levelMove l l = .stays := by
  rw [levelMove, if_neg (by omega), if_neg (by omega)]
theorem isSome_markHeld (h : Option Nat) : (markHeld h).isSome = true := by cases h <;> rfl
theorem refugeOfSpur_congr {s t : State} (working : t.working = s.working) (p : SpurId) : t.refugeOfSpur p = s.refugeOfSpur p := by
  simp only [State.refugeOfSpur, State.refugeOn, State.commissioned, working]
theorem refugeOfSpur_serves {s : State} {p : SpurId} {r : PairIx} (serves : s.refugeOfSpur p = some r) :
    s.refugeOn r = true ∧ (s.working.refuges.get r).spur = some p := by
  simpa using Tab.firstIx_some serves

/-- R143: a further mark of the record. -/
theorem recordMoved_markIf (s : State) (p : SpurId) (r : PairIx) (b : Bool) : RecordMoved p r .stays s (s.markIf b (.refuge r)) where
  working := by simp
  record := by rw [State.markIf_refuges]; rfl
  held some := by
    cases b
    · exact some
    · exact (held_mark_same s _).symm ▸ isSome_markHeld _
  panel own := by
    refine ⟨own.congr (by simp) (fun k => ?_) (by simp), by rw [State.markIf_spurs]; rfl⟩
    rw [State.call, State.markIf_calls]; exact ⟨rfl, rfl⟩

namespace RecordStands
variable {p : SpurId} {r : PairIx} {s t u : State} {m : LevelMove}

theorem moved (h : RecordStands p r s t) : RecordMoved p r .stays s t :=
  ⟨h.working, h.record, fun some => h.held ▸ some, h.panel⟩
theorem trans_moved (h : RecordStands p r s t) (k : RecordMoved p r m t u) : RecordMoved p r m s u where
  working := k.working.trans h.working
  record := h.record ▸ k.record
  held some := k.held (h.held ▸ some)
  panel own :=
    have ⟨own, stands⟩ := h.panel own
    have ⟨own, sends⟩ := k.panel own
    ⟨own, by rw [sends, stands, h.record]⟩
end RecordStands
theorem RecordMoved.trans_stands {p : SpurId} {r : PairIx} {s t u : State} {m : LevelMove} (h : RecordMoved p r m s t)
    (k : RecordStands p r t u) : RecordMoved p r m s u where
  working := k.working.trans h.working
  record := k.record.trans h.record
  held some := k.held ▸ h.held some
  panel own :=
    have ⟨own, sends⟩ := h.panel own
    have ⟨own, stands⟩ := k.panel own
    ⟨own, stands.trans sends⟩

section
variable {p : SpurId} {r : PairIx} {s : State} (serves : s.refugeOfSpur p = some r)
include serves

/-- R140, R141: the record is prepared or stood down: its panel is sent to, and it is written and marked. -/
theorem refugeSent {m : LevelMove} {msg : OutMsg} {x : Refuge} {b : Bool} (record : x = recordMoved m (s.refuges.get r))
    (panel : sent .refuge msg (s.spurs.get p) = panelMoved m (s.refuges.get r) (s.spurs.get p)) :
    RecordMoved p r m s (((refugeSpurOffer r msg s).setRefuge r x).markIf b (.refuge r)) := by
  obtain ⟨-, spur⟩ := refugeOfSpur_serves serves
  have offered : refugeSpurOffer r msg s = offer p msg s := by simp only [refugeSpurOffer, spur]
  rw [offered]
  refine ⟨by simp, ?_, fun some => ?_, fun own => ⟨own.congr (by simp) (fun k => ?_) ?_, ?_⟩⟩
  · rw [State.markIf_refuges, ← record]; exact Tab.get_put_same _ _ _
  · have held : (((offer p msg s).setRefuge r x).held (.refuge r)).isSome = true := by rw [offer_eq]; exact some
    cases b
    · exact held
    · rw [State.markIf_true, held_mark_same]; exact isSome_markHeld _
  · rw [State.call, State.markIf_calls, State.setRefuge_calls, calls_offer]; exact ⟨rfl, rfl⟩
  · rw [State.markIf_blocks, offer_eq]; rfl
  · rw [State.markIf_spurs, State.setRefuge_spurs, get_spurs_offer_same, own.type, panel]
/-- R138, R140: a chamber that is not prepared is. -/
theorem recordMoved_prepare : RecordMoved p r .rises s (if (s.refuges.get r).prepared = true then s else sendPrepare r s) := by
  split
  next prepared =>
    have same : s.refuges.get r = recordMoved .rises (s.refuges.get r) := by
      simp only [recordMoved, ← prepared]
    exact ⟨rfl, same, id, fun own => ⟨own, by rw [panelMoved, if_pos prepared]⟩⟩
  next not =>
    refine refugeSent serves ?_ ?_
    · simp [recordMoved]
    · rw [panelMoved, if_neg not]
/-- R141: the standdown test, below EVACUATE. -/
theorem recordMoved_standdown : RecordMoved p r (if s.level.effective.val < 4 then .falls else .stays) s (standdownTest r s) := by
  obtain ⟨on, -⟩ := refugeOfSpur_serves serves
  simp only [standdownTest, on]
  by_cases below : s.level.effective.val < 4
  · by_cases due : (s.refuges.get r).prepared = true ∧ (s.refuges.get r).occupancy = 0
    · obtain ⟨prepared, empty⟩ := due
      rw [if_pos below, if_pos (by simp [prepared, empty, below])]
      refine refugeSent (b := true) serves ?_ ?_
      · simp [recordMoved, empty]
      · simp [panelMoved, prepared, empty]
    · rw [if_pos below, if_neg (by simpa [below] using due)]
      refine ⟨rfl, ?_, id, fun own => ⟨own, by rw [panelMoved, if_neg due]⟩⟩
      simp only [recordMoved]; split
      next empty =>
        have unprepared : (s.refuges.get r).prepared = false := by simpa [empty] using due
        rw [← unprepared]
      next => rfl
  · rw [if_neg below, if_neg (by simp [below])]
    exact (RecordStands.refl p r s).moved
/-- R140, R141: the walk over both records is, for one of them, its own turn. -/
theorem recordMoved_walk {m : LevelMove} (f : PairIx → State → State)
    (other : ∀ q t, r ≠ q → RecordStands p r t (f q t) ∧ levelPart (f q t) = levelPart t)
    (turn : ∀ t, t.refugeOfSpur p = some r → t.level.effective = s.level.effective → RecordMoved p r m t (f r t)) :
    RecordMoved p r m s (forEach 2 f s) := by
  refine forEach_turn f (i := r) (Before := fun t => RecordStands p r s t ∧ levelPart t = levelPart s) (After := RecordMoved p r m s)
    (fun q t ne ⟨stands, level⟩ => ?_) (fun t ⟨stands, level⟩ => ?_) (fun q t ne moved => ?_) ⟨.refl p r s, rfl⟩
  · obtain ⟨still, same⟩ := other q t ne.symm
    exact ⟨stands.trans still, same.trans level⟩
  · exact stands.trans_moved (turn t ((refugeOfSpur_congr stands.working p).trans serves) (effective_of_levelPart level))
  · obtain ⟨still, -⟩ := other q t ne.symm
    exact moved.trans_stands still
/-- R140, R141: what a change of the effective level does to a configured record. -/
theorem recordMoved_refugesAtLevel (old : Level) :
    RecordMoved p r (levelMove old s.level.effective) s (refugesAtLevelBut (fun _ => false) old s) := by
  simp only [refugesAtLevelBut, levelMove]
  split
  next rise =>
    refine recordMoved_walk serves _ (fun q t ne => ?_) fun t serves level => ?_
    · split
      · exact ⟨.otherPrepared ne t, levelPart_sendPrepare t q⟩
      · exact ⟨.refl p r t, rfl⟩
    · have moved := recordMoved_prepare serves
      obtain ⟨on, -⟩ := refugeOfSpur_serves serves
      cases prepared : (t.refuges.get r).prepared <;> simpa [on, prepared] using moved
  next =>
    split
    next fall =>
      refine recordMoved_walk serves _ (fun q t ne => ⟨.otherStoodDown ne t, levelPart_standdownTest t q⟩) fun t serves level => ?_
      have moved := recordMoved_standdown serves
      obtain ⟨-, below⟩ := fall
      rw [level, if_pos below] at moved
      exact moved
    next => exact (RecordStands.refl p r s).moved

/-! ## The level formed again (R28, R32) -/

/-- R32: a change of the effective level reaches a configured record by what R140 and R141 do alone. -/
theorem recordMoved_reformEffective :
    RecordMoved p r (levelMove s.level.effective (reformEffective s).level.effective) s (reformEffective s) := by
  simp only [reformEffective, reformEffectiveBut]; split
  · rw [levelMove_same]; exact (RecordStands.refl p r s).moved
  · generalize driven : blocksAtLevel s.atTrip
      (reformDrives (reformMask ((s.setLevel { s.level with effective := s.effectiveOf }).mark .level))) = w
    have stands : RecordStands p r s w := by
      rw [← driven]
      exact (((RecordStands.of_refugePart (refugePart_setLevelMarked s _)).trans (.reformMask _)).trans
        (.of_refugePart (refugePart_reformDrives _))).trans (.blocksAtLevel _ _)
    have spurs : w.refugeOfSpur p = some r := (refugeOfSpur_congr stands.working p).trans serves
    have moved := recordMoved_refugesAtLevel spurs s.level.effective
    have level : ((refugesAtLevelBut (fun _ => false) s.level.effective w).notify .level).level.effective = w.level.effective :=
      effective_of_levelPart (by simp)
    rw [level]
    exact (stands.trans_moved moved).trans_stands (.of_refugePart (refugePart_notify _ _))
theorem recordMoved_reformLocal :
    RecordMoved p r (levelMove s.level.effective (reformLocal s).level.effective) s (reformLocal s) := by
  simp only [reformLocal, reformLocalBut]; split
  · rw [levelMove_same]; exact (RecordStands.refl p r s).moved
  · have stands : RecordStands p r s ((s.setLevel { s.level with localLevel := s.localOf }).mark .level) :=
      .of_refugePart (refugePart_setLevelMarked s _)
    refine stands.trans_moved ?_
    exact recordMoved_reformEffective (s := (s.setLevel { s.level with localLevel := s.localOf }).mark .level) serves
/-- R134: the state formed again, and then what a change of the level does. -/
theorem recordMoved_reformRefuge : RecordMoved p r (levelMove s.level.effective (reformRefuge r s).level.effective)
    (s.setRefuge r { s.refuges.get r with state := s.refugeStateOf r }) (reformRefuge r s) := by
  simp only [reformRefuge]; split
  next same =>
    have unchanged : s.setRefuge r { s.refuges.get r with state := s.refugeStateOf r } = s := by
      rw [same]
      exact congrArg (fun x => { s with refuges := x }) (Tab.put_get s.refuges r)
    rw [unchanged, levelMove_same]
    exact (RecordStands.refl p r s).moved
  next =>
    generalize formed : s.setRefuge r { s.refuges.get r with state := s.refugeStateOf r } = u
    have level : s.level.effective = (u.mark (.refuge r)).level.effective := by rw [← formed]; rfl
    have spurs : (u.mark (.refuge r)).refugeOfSpur p = some r := by rw [← formed]; exact serves
    obtain ⟨working, record, held, panel⟩ := recordMoved_reformLocal spurs
    rw [level]
    refine ⟨working, record, fun _ => held ?_, fun own => panel (own.congr rfl (fun _ => ⟨rfl, rfl⟩) rfl)⟩
    rw [held_mark_same]; exact isSome_markHeld _
end

end Sys2Proof.Safety
end

section
/-! PROOFS. The family of the refuge stations: the roll (O46), the door and the distress button (O47). -/

namespace Sys2Proof.Safety
open Sys2Proof.Machine

/-! ## A message from a panel (R164, R168) -/

section
variable {s : State} {p : SpurId} {r : PairIx}

/-- R168: a panel's message is taken by the record that its UP spur serves, and the changes are then taken. -/
theorem settled_panelMessage {m : HeadMsg} {f : PairIx → State → State} (powered : s.powered = true) (up : s.spurUpAs .refuge p = true)
    (serves : s.refugeOfSpur p = some r) (fits : m.fits .refuge = true) (delivers : ∀ s, deliver p m s = deliverRefuge p f s) :
    settled (headMessage p m) s = .next (settle (f r (heard p s))) := by
  have serves : (heard p s).refugeOfSpur p = some r := serves
  rw [settled_powered _ powered, headMessage_up up fits, delivers, deliverRefuge, serves]
/-- R134: the state of a record whose panel is UP. -/
theorem refugeStateOf_up (serves : s.refugeOfSpur p = some r) (up : s.spurUpAs .refuge p = true) :
    s.refugeStateOf r =
      if (s.refuges.get r).occupancy ≠ 0 ∧ ((s.refuges.get r).distress || s.chamberAlarm (s.working.refuges.get r).chan1 ||
        s.chamberAlarm (s.working.refuges.get r).chan2) = true then .distress
      else if (s.refuges.get r).occupancy ≠ 0 then .occupied
      else if (s.refuges.get r).door = true then .openDoor else .standby := by
  obtain ⟨on, spur⟩ := refugeOfSpur_serves serves
  simp [State.refugeStateOf, on, spur, up]
end

/-! ## A record written, and its state formed again (R134) -/

/-- From `s` to `t` the record `r` is written as `y` and marked, its state is formed again, and a change of the level that this makes
has been met. -/
structure RecordWritten (p : SpurId) (r : PairIx) (y : Refuge) (s t : State) : Prop where
  record : t.refuges.get r =
    recordMoved (levelMove s.level.effective t.level.effective) { y with state := (s.setRefuge r y).refugeStateOf r }
  marked : (t.held (.refuge r)).isSome = true
  panel  : OwnPanel p r s → OwnPanel p r t ∧
    t.spurs.get p = panelMoved (levelMove s.level.effective t.level.effective) y (s.spurs.get p)

section
variable {s u : State} {p : SpurId} {r : PairIx} {y : Refuge} (serves : s.refugeOfSpur p = some r)

/-- What the panel is sent does not rest on the record's state. -/
theorem panelMoved_state (m : LevelMove) (x : Refuge) (st : RefugeState) (panel : Spur) :
    panelMoved m { x with state := st } panel = panelMoved m x panel := by cases m <;> rfl
@[simp] theorem recordMoved_state (m : LevelMove) (x : Refuge) : (recordMoved m x).state = x.state := by
  cases m with
  | falls => rw [recordMoved]; split <;> rfl
  | _ => rfl
@[simp] theorem recordMoved_distress (m : LevelMove) (x : Refuge) : (recordMoved m x).distress = x.distress := by
  cases m with
  | falls => rw [recordMoved]; split <;> rfl
  | _ => rfl
/-- R141: an occupied chamber is not stood down. -/
theorem recordMoved_occupied {old new : Level} {x : Refuge} (occupied : 0 < x.occupancy) :
    (recordMoved (levelMove old new) x).prepared = if old.val < 4 ∧ new.val = 4 ∧ x.prepared = false then true else x.prepared := by
  have notEmpty : x.occupancy ≠ 0 := by omega
  unfold levelMove
  by_cases rise : old.val < 4 ∧ new.val = 4
  · cases prepared : x.prepared <;> simp [rise, recordMoved]
  · have notRaised : ¬ (old.val < 4 ∧ new.val = 4 ∧ x.prepared = false) := fun ⟨below, at_, _⟩ => rise ⟨below, at_⟩
    rw [if_neg rise, if_neg notRaised]
    split <;> simp [recordMoved, notEmpty]
theorem panelMoved_occupied {old new : Level} {x : Refuge} {panel : Spur} (occupied : 0 < x.occupancy) :
    panelMoved (levelMove old new) x panel =
      if old.val < 4 ∧ new.val = 4 ∧ x.prepared = false then sent .refuge .refugePrepare panel else panel := by
  have notEmpty : x.occupancy ≠ 0 := by omega
  unfold levelMove
  by_cases rise : old.val < 4 ∧ new.val = 4
  · cases prepared : x.prepared <;> simp [rise, panelMoved, prepared]
  · have notRaised : ¬ (old.val < 4 ∧ new.val = 4 ∧ x.prepared = false) := fun ⟨below, at_, _⟩ => rise ⟨below, at_⟩
    rw [if_neg rise, if_neg notRaised]
    split <;> simp [panelMoved, notEmpty]

include serves in
theorem recordWritten_reformRefuge (part : refugePart u = refugePart ((s.setRefuge r y).mark (.refuge r))) (level : u.level = s.level)
    (air : u.air = s.air) : RecordWritten p r y s (reformRefuge r u) := by
  have working : u.working = s.working := congrArg RefugePart.working part
  have record : u.refuges.get r = y := (congrArg (fun x => x.refuges.get r) part).trans (Tab.get_put_same _ _ _)
  have spurs : u.spurs = s.spurs := congrArg RefugePart.spurs part
  have held : u.held (.refuge r) = ((s.setRefuge r y).mark (.refuge r)).held (.refuge r) := congrArg (fun x => x.held r) part
  have still : u.refugeOfSpur p = some r := (refugeOfSpur_congr working p).trans serves
  have state : u.refugeStateOf r = (s.setRefuge r y).refugeStateOf r := by
    have refuges : u.refuges = (s.setRefuge r y).refuges := congrArg RefugePart.refuges part
    simp only [State.refugeStateOf, State.refugeOn, State.commissioned, State.spurUpAs, State.spurUp, State.spurType, State.chamberAlarm,
      working, refuges, spurs, air]
    rfl
  obtain ⟨-, formed, marked, panel⟩ := recordMoved_reformRefuge still
  rw [State.setRefuge_refuges, Tab.get_put_same, record, state, level] at formed
  refine ⟨formed, marked ?_, fun own => ?_⟩
  · exact held ▸ (held_mark_same _ _).symm ▸ isSome_markHeld _
  · have call (k : RecId) : u.call k = s.call k := congrArg (fun x => x.calls.get k) part
    have before : OwnPanel p r (u.setRefuge r { u.refuges.get r with state := u.refugeStateOf r }) :=
      own.congr working (fun k => by rw [← call]; exact ⟨rfl, rfl⟩) (congrArg (fun x => x.lights.get p) part)
    obtain ⟨own, sends⟩ := panel before
    rw [State.setRefuge_refuges, Tab.get_put_same, panelMoved_state, record, level, State.setRefuge_spurs, spurs] at sends
    exact ⟨own, sends⟩

theorem notifyOccupied_cases (n : Nat) (s : State) : notifyOccupied r n s = s ∨ notifyOccupied r n s = s.notify (.refuge r) := by
  unfold notifyOccupied; split
  · exact .inl rfl
  · exact .inr rfl
theorem changeRoll_same (same : y = s.refuges.get r) : changeRoll r y s = s := if_pos same
include serves in
theorem recordWritten_changeRoll (changed : y ≠ s.refuges.get r) : RecordWritten p r y s (changeRoll r y s) := by
  rw [changeRoll, if_neg changed]
  obtain handed | handed := notifyOccupied_cases (s.refuges.get r).occupancy ((s.setRefuge r y).mark (.refuge r))
  · rw [handed]; exact recordWritten_reformRefuge serves rfl rfl rfl
  · rw [handed]; exact recordWritten_reformRefuge serves (refugePart_notify _ _) rfl rfl
theorem outsideLevel_changeRoll : outsideLevel (changeRoll r y s) = outsideLevel (s.setRefuge r y) := by
  by_cases same : y = s.refuges.get r
  · rw [changeRoll_same same, same]
    exact (congrArg (fun x => outsideLevel { s with refuges := x }) (Tab.put_get s.refuges r)).symm
  · rw [changeRoll, if_neg same, outsideLevel_reformRefuge]
    obtain handed | handed := notifyOccupied_cases (s.refuges.get r).occupancy ((s.setRefuge r y).mark (.refuge r))
    · rw [handed, outsideLevel_mark]
    · rw [handed, outsideLevel_notify, outsideLevel_mark]
end

/-! ## The roll (R135, R136, R141) -/

/-- R135, R136, R140, R143: `t` is `s` with a frame heard on spur `p` and the roll of record `r` changed. -/
def RollKept (p : SpurId) (r : PairIx) (s t : State) (muster : List Nat) (overflow : Nat) : Prop :=
  let x := s.refuges.get r
  (t.refuges.get r).muster = muster ∧ (t.refuges.get r).overflow = overflow ∧
  outsideActions t = outsideActions ((heard p s).setRefuge r { x with muster := muster, overflow := overflow }) ∧
  (Quiet s → 0 < muster.length + overflow → (t.refuges.get r).state =
    if x.distress || s.chamberAlarm (s.working.refuges.get r).chan1 || s.chamberAlarm (s.working.refuges.get r).chan2
    then .distress else .occupied) ∧
  (Quiet s → (t.held (.refuge r)).isSome = true) ∧
  (Quiet s → 0 < muster.length + overflow →
    let raised : Prop := s.level.effective.val < 4 ∧ t.level.effective.val = 4 ∧ x.prepared = false
    (t.refuges.get r).prepared = (if raised then true else x.prepared) ∧
    (PanelAlone p r s → t.spurs.get p =
      if raised then offerTo .refuge .refugePrepare ((heard p s).spurs.get p) else (heard p s).spurs.get p))

section
variable {s t : State} {p : SpurId} {r : PairIx} {x y : Refuge}

/-- Two records that differ in the distress flag. -/
theorem outsideActions_setRefuge_distress (b : Bool) :
    outsideActions (s.setRefuge r { y with distress := b }) = outsideActions (s.setRefuge r y) := by
  have refuges : (s.refuges.put r { y with distress := b }).mapIx
      (fun _ x => { x with state := .standby, prepared := false, distress := false }) =
        (s.refuges.put r y).mapIx fun _ x => { x with state := .standby, prepared := false, distress := false } :=
    Tab.ext fun q => by simp only [Tab.get_mapIx, Tab.get_put]; split <;> rfl
  have twice (t : Tab 2 Refuge) : (t.mapIx fun _ x => { x with state := .standby, prepared := false }).mapIx
      (fun _ x => { x with distress := false }) = t.mapIx fun _ x => { x with state := .standby, prepared := false, distress := false } :=
    Tab.ext fun i => by simp
  simp only [outsideActions, outsideLevel, State.setRefuge, twice, refuges]
/-- What equal frames say of a written record. -/
theorem roll_of_outsideActions (frame : outsideActions t = outsideActions (s.setRefuge r y)) :
    (t.refuges.get r).muster = y.muster ∧ (t.refuges.get r).overflow = y.overflow ∧ (t.refuges.get r).door = y.door := by
  have record := congrArg (fun u => u.refuges.get r) frame
  simp only [outsideActions, outsideLevel, Tab.get_mapIx, State.setRefuge_refuges, Tab.get_put_same, Refuge.mk.injEq] at record
  obtain ⟨-, door, muster, overflow, -⟩ := record
  exact ⟨muster, overflow, door⟩
theorem occupancy_of_outsideActions (frame : outsideActions t = outsideActions (s.setRefuge r y)) :
    (t.refuges.get r).occupancy = y.occupancy := by
  obtain ⟨muster, overflow, -⟩ := roll_of_outsideActions frame
  rw [Refuge.occupancy, muster, overflow]; rfl
theorem quiet_of_setRefuge (q : Quiet s) (frame : outsideLevel t = outsideLevel (s.setRefuge r y)) : Quiet t :=
  Quiet.of_outsideLevel (s := s.setRefuge r y) ⟨q.queue, q.lists⟩ frame

/-- R136: what a checkout does, by whether it empties the chamber. -/
theorem refugeCheckout_kept {n : Nat} (kept : ¬ ((s.refuges.get r).occupancy ≠ 0 ∧ ((s.refuges.get r).checkout n).occupancy = 0)) :
    refugeCheckout r n s = changeRoll r ((s.refuges.get r).checkout n) s := by
  have emptied : ((s.refuges.get r).occupancy != 0 && ((s.refuges.get r).checkout n).occupancy == 0) = false := by simpa using kept
  simp only [refugeCheckout, emptied]
  rfl
theorem refugeCheckout_same {n : Nat} (same : (s.refuges.get r).checkout n = s.refuges.get r) : refugeCheckout r n s = s := by
  rw [refugeCheckout_kept (by rw [same]; tauto), changeRoll_same same]
theorem refugeCheckout_emptied {n : Nat} (was : (s.refuges.get r).occupancy ≠ 0) (gone : ((s.refuges.get r).checkout n).occupancy = 0) :
    refugeCheckout r n s = standdownTest r ((changeRoll r { (s.refuges.get r).checkout n with distress := false } s).markIf
      (s.refuges.get r).distress (.refuge r)) := by
  have emptied : ((s.refuges.get r).occupancy != 0 && ((s.refuges.get r).checkout n).occupancy == 0) = true := by simp [was, gone]
  simp only [refugeCheckout, emptied]
  rfl
theorem outsideActions_refugeCheckout (n : Nat) :
    outsideActions (refugeCheckout r n s) = outsideActions (s.setRefuge r ((s.refuges.get r).checkout n)) := by
  by_cases emptied : (s.refuges.get r).occupancy ≠ 0 ∧ ((s.refuges.get r).checkout n).occupancy = 0
  · obtain ⟨was, gone⟩ := emptied
    rw [refugeCheckout_emptied was gone, ← outsideActions_setRefuge_distress false]
    exact outsideActions_of_outsideLevel (by rw [outsideLevel_standdownTest, outsideLevel_markIf, outsideLevel_changeRoll])
  · rw [refugeCheckout_kept emptied]
    exact outsideActions_of_outsideLevel outsideLevel_changeRoll

/-! ### The last one out (R136, R141) -/

@[simp] theorem recordMoved_occupancy (m : LevelMove) (x : Refuge) : (recordMoved m x).occupancy = x.occupancy := by
  cases m with
  | falls => rw [recordMoved]; split <;> rfl
  | _ => rfl
theorem checkout_prepared (x : Refuge) (n : Nat) : (x.checkout n).prepared = x.prepared := by
  unfold Refuge.checkout; repeat' split
  all_goals rfl
theorem levelMove_below {old new : Level} (below : new.val < 4) : levelMove old new = if old.val = 4 then .falls else .stays := by
  rw [levelMove, if_neg (by omega)]; simp [below]
/-- R141: what the level's own fall and the test at the last one out send an empty chamber together: one command at the most. -/
theorem panelMoved_standdown {old new : Level} {y : Refuge} {st : RefugeState} {panel : Spur} (empty : y.occupancy = 0)
    (high : old.val = 4 ∨ new.val < 4) :
    panelMoved (if new.val < 4 then .falls else .stays) (recordMoved (levelMove old new) { y with state := st })
      (panelMoved (levelMove old new) y panel) =
        if new.val < 4 ∧ y.prepared = true then sent .refuge .refugeStanddown panel else panel := by
  have stillEmpty : Refuge.occupancy { y with state := st } = 0 := empty
  by_cases below : new.val < 4
  · rw [levelMove_below below]
    by_cases fall : old.val = 4 <;> simp [below, fall, recordMoved, panelMoved, empty, stillEmpty]
  · have stays : levelMove old new = .stays := by rw [levelMove, if_neg (by omega), if_neg (by omega)]
    simp [below, stays, panelMoved]

section
variable {n : Nat} (serves : s.refugeOfSpur p = some r) (was : (s.refuges.get r).occupancy ≠ 0)
  (gone : ((s.refuges.get r).checkout n).occupancy = 0)
include serves was gone

/-- R136, R141: the last one out clears the distress flag, and below EVACUATE the chamber is stood down, its panel being told once. -/
theorem refugeCheckout_last : ((refugeCheckout r n s).refuges.get r).distress = false ∧
    ((refugeCheckout r n s).held (.refuge r)).isSome = true ∧
    ((refugeCheckout r n s).level.effective.val < 4 → ((refugeCheckout r n s).refuges.get r).prepared = false) ∧
    (OwnPanel p r s → s.level.effective.val = 4 ∨ (refugeCheckout r n s).level.effective.val < 4 →
      (refugeCheckout r n s).spurs.get p =
        if (refugeCheckout r n s).level.effective.val < 4 ∧ (s.refuges.get r).prepared = true
          then sent .refuge .refugeStanddown (s.spurs.get p) else s.spurs.get p) := by
  rw [refugeCheckout_emptied was gone]
  generalize left : { (s.refuges.get r).checkout n with distress := false } = y
  have empty : y.occupancy = 0 := by rw [← left]; exact gone
  have distress : y.distress = false := by rw [← left]
  have prepared : y.prepared = (s.refuges.get r).prepared := by rw [← left]; exact checkout_prepared _ n
  have changed : y ≠ s.refuges.get r := fun same => was (same ▸ empty)
  obtain ⟨record, marked, panel⟩ := recordWritten_changeRoll serves changed
  have working : (changeRoll r y s).working = s.working :=
    working_of_outsideLevel (s := s.setRefuge r y) outsideLevel_changeRoll
  generalize changeRoll r y s = w at record marked panel working
  have stands := recordMoved_markIf w p r (s.refuges.get r).distress
  have level : (w.markIf (s.refuges.get r).distress (.refuge r)).level.effective = w.level.effective := by simp
  generalize w.markIf (s.refuges.get r).distress (.refuge r) = v at stands level
  have still : v.refugeOfSpur p = some r := (refugeOfSpur_congr (stands.working.trans working) p).trans serves
  obtain ⟨-, stoodDown, keeps, sends⟩ := recordMoved_standdown still
  rw [stands.record] at stoodDown sends
  rw [effective_of_levelPart (levelPart_standdownTest v r), level]
  rw [level] at stoodDown sends
  refine ⟨?_, keeps (stands.held marked), fun below => ?_, fun own => ?_⟩
  · rw [stoodDown, recordMoved_distress, recordMoved_distress, record, recordMoved_distress]; exact distress
  · rw [stoodDown, if_pos below, recordMoved, if_pos (by rw [recordMoved_occupancy, record, recordMoved_occupancy]; exact empty)]
  · obtain ⟨own, told⟩ := panel own
    obtain ⟨own, same⟩ := stands.panel own
    obtain ⟨-, told'⟩ := sends own
    rw [told', same, told, record, ← prepared]
    exact panelMoved_standdown empty
end
/-- A checkout gives the Action Unit nothing that it would act on in a quiet node. -/
theorem quiet_refugeCheckout {n : Nat} (q : Quiet s) : Quiet (refugeCheckout r n s) := by
  by_cases emptied : (s.refuges.get r).occupancy ≠ 0 ∧ ((s.refuges.get r).checkout n).occupancy = 0
  · obtain ⟨was, gone⟩ := emptied
    rw [refugeCheckout_emptied was gone]
    exact quiet_of_setRefuge q (by rw [outsideLevel_standdownTest, outsideLevel_markIf, outsideLevel_changeRoll])
  · rw [refugeCheckout_kept emptied]
    exact quiet_of_setRefuge q outsideLevel_changeRoll
end

/-! ### What the messages make of a record (R135, R136) -/

section
variable {x : Refuge} {n : Nat}

theorem checkin_same (same : n = 0 ∨ n ∈ x.muster) : x.checkin n = x := if_pos (by simpa using same)
theorem checkin_listed (person : n ≠ 0) (new : n ∉ x.muster) (room : x.muster.length < 32) :
    x.checkin n = { x with muster := x.muster ++ [n] } := by simp [Refuge.checkin, person, new, room]
theorem checkin_overflow (person : n ≠ 0) (new : n ∉ x.muster) (full : 32 ≤ x.muster.length) :
    x.checkin n = { x with overflow := bump 255 x.overflow } := by simp [Refuge.checkin, person, new, full]
theorem checkout_same (same : n = 0 ∨ n ∉ x.muster ∧ x.overflow = 0) : x.checkout n = x := by
  obtain zero | ⟨unlisted, none⟩ := same
  · exact if_pos zero
  · have kept : x.overflow - 1 = x.overflow := by omega
    simp [Refuge.checkout, unlisted, kept]
theorem checkout_listed (person : n ≠ 0) (listed : n ∈ x.muster) :
    x.checkout n = { x with muster := x.muster.filter (· ≠ n) } := by simp [Refuge.checkout, person, listed]
theorem checkout_overflow (person : n ≠ 0) (unlisted : n ∉ x.muster) :
    x.checkout n = { x with overflow := x.overflow - 1 } := by simp [Refuge.checkout, person, unlisted]
end

/-! ### The roll changed by a panel's message -/

section
variable {s : State} {p : SpurId} {r : PairIx} {n overflow : Nat} {muster : List Nat}

theorem ownPanel_heard (up : s.spurUpAs .refuge p = true) (alone : PanelAlone p r s) : OwnPanel p r (heard p s) where
  alone := alone
  type := beq_iff_eq.mp (Bool.and_eq_true_iff.mp up).2
/-- R169: the panel that has been heard is UP. -/
theorem sent_heard (up : s.spurUpAs .refuge p = true) (m : OutMsg) :
    sent .refuge m ((heard p s).spurs.get p) = offerTo .refuge m ((heard p s).spurs.get p) := by
  have heardUp := (heard_spurUpAs .refuge p p s).trans up
  exact sent_up m (beq_iff_eq.mp (Bool.and_eq_true_iff.mp heardUp).1)

variable (up : s.spurUpAs .refuge p = true) (serves : s.refugeOfSpur p = some r)
include up serves

/-- R134, R140, R143: an occupied chamber's roll, or an empty one's, is replaced. -/
theorem rollKept_changeRoll (changed : ({ s.refuges.get r with muster := muster, overflow := overflow } : Refuge) ≠ s.refuges.get r) :
    RollKept p r s (settle (changeRoll r { s.refuges.get r with muster := muster, overflow := overflow } (heard p s))) muster overflow := by
  generalize written : ({ s.refuges.get r with muster := muster, overflow := overflow } : Refuge) = y at changed
  have serves' : (heard p s).refugeOfSpur p = some r := serves
  have up' : ((heard p s).setRefuge r y).spurUpAs .refuge p = true := (heard_spurUpAs .refuge p p s).trans up
  have level : outsideLevel (changeRoll r y (heard p s)) = outsideLevel ((heard p s).setRefuge r y) := outsideLevel_changeRoll
  have frame := (outsideActions_settle _).trans (outsideActions_of_outsideLevel level)
  obtain ⟨rollIs, overflowIs, -⟩ := roll_of_outsideActions frame
  have quiet (q : Quiet s) : settle (changeRoll r y (heard p s)) = _ := settle_quiet (quiet_of_setRefuge (quiet_heard q p) level)
  obtain ⟨record, marked, panel⟩ := recordWritten_changeRoll serves' changed
  have state := refugeStateOf_up (s := (heard p s).setRefuge r y) serves' up'
  rw [State.setRefuge_refuges, Tab.get_put_same] at state
  subst written
  refine ⟨rollIs, overflowIs, frame, fun q someone => ?_, fun q => ?_, fun q someone => ?_⟩
  · have occupied : Refuge.occupancy { s.refuges.get r with muster := muster, overflow := overflow } ≠ 0 :=
      Nat.pos_iff_ne_zero.mp someone
    rw [quiet q, State.setAction_refuges, record, recordMoved_state, state]
    simp only [occupied, ne_eq, not_false_eq_true, true_and, if_true]
    rfl
  · rw [quiet q]; exact marked
  · have occupied : 0 < Refuge.occupancy { s.refuges.get r with muster := muster, overflow := overflow } := someone
    rw [quiet q]
    refine ⟨?_, fun alone => ?_⟩
    · rw [State.setAction_refuges, record]; exact recordMoved_occupied occupied
    · obtain ⟨-, told⟩ := panel (ownPanel_heard up alone)
      rw [panelMoved_occupied occupied, sent_heard up] at told
      exact told
theorem rollKept_refugeCheckin (left : (s.refuges.get r).checkin n = { s.refuges.get r with muster := muster, overflow := overflow })
    (changed : (s.refuges.get r).checkin n ≠ s.refuges.get r) :
    RollKept p r s (settle (refugeCheckin r n (heard p s))) muster overflow := by
  have roll : refugeCheckin r n (heard p s) = changeRoll r _ (heard p s) := congrArg (fun y => changeRoll r y (heard p s)) left
  rw [roll]
  exact rollKept_changeRoll up serves (left ▸ changed)
theorem rollKept_refugeCheckout (left : (s.refuges.get r).checkout n = { s.refuges.get r with muster := muster, overflow := overflow })
    (changed : (s.refuges.get r).checkout n ≠ s.refuges.get r) :
    RollKept p r s (settle (refugeCheckout r n (heard p s))) muster overflow := by
  by_cases emptied : (s.refuges.get r).occupancy ≠ 0 ∧ ((s.refuges.get r).checkout n).occupancy = 0
  · obtain ⟨was, gone⟩ := emptied
    have frame := (outsideActions_settle _).trans (outsideActions_refugeCheckout (s := heard p s) (r := r) n)
    obtain ⟨rollIs, overflowIs, -⟩ := roll_of_outsideActions frame
    obtain ⟨-, marked, -⟩ := refugeCheckout_last (s := heard p s) serves was gone
    have empty : muster.length + overflow = 0 := by rw [left] at gone; exact gone
    have leftHeard : ((heard p s).refuges.get r).checkout n = _ := left
    rw [leftHeard] at rollIs overflowIs frame
    refine ⟨rollIs, overflowIs, frame, fun _ someone => absurd empty someone.ne', fun q => ?_,
      fun _ someone => absurd empty someone.ne'⟩
    rw [settle_quiet (quiet_refugeCheckout (quiet_heard q p))]
    exact marked
  · rw [refugeCheckout_kept (s := heard p s) emptied]
    rw [left] at changed
    exact left ▸ rollKept_changeRoll up serves changed
end

/-- Settles O46: a checkin and a checkout are the record that each makes of the roll; where it has changed, the record is written and its
state formed again, and the last one out then makes the test of R141. -/
theorem rollsAreKept : Obligations.RollsAreKept := by
  intro p r n s powered idle up serves
  have checkin : exec (.checkin p n) s = .next (settle (refugeCheckin r n (heard p s))) :=
    settled_panelMessage (m := .checkin n) (f := fun r => refugeCheckin r n) powered up serves rfl fun _ => rfl
  have checkout : exec (.checkout p n) s = .next (settle (refugeCheckout r n (heard p s))) :=
    settled_panelMessage (m := .checkout n) (f := fun r => refugeCheckout r n) powered up serves rfl fun _ => rfl
  have untouched {t : State} (same : t = heard p s) : settle t = heard p s := by
    rw [same]; exact settle_of_noNotices idle
  have checkinStands (same : (s.refuges.get r).checkin n = s.refuges.get r) : exec (.checkin p n) s = .next (heard p s) :=
    checkin.trans (congrArg _ (untouched (changeRoll_same same)))
  have checkoutStands (same : (s.refuges.get r).checkout n = s.refuges.get r) : exec (.checkout p n) s = .next (heard p s) :=
    checkout.trans (congrArg _ (untouched (refugeCheckout_same same)))
  refine ⟨fun same => checkinStands (checkin_same same), fun person new room => ?_, fun person new full room => ?_,
    fun person new full most => ?_, fun same => checkoutStands (checkout_same same),
    fun person listed => ?_, fun person unlisted some => ?_, fun t quiet was run gone => ?_⟩
  · have left := checkin_listed person new room
    refine ⟨_, checkin, rollKept_refugeCheckin up serves left fun same => ?_⟩
    have longer := congrArg (fun x : Refuge => x.muster.length) (left.symm.trans same)
    simp at longer
  · have left := checkin_overflow person new full
    rw [bump, if_pos room] at left
    refine ⟨_, checkin, rollKept_refugeCheckin up serves left fun same => ?_⟩
    have more := congrArg Refuge.overflow (left.symm.trans same)
    simp at more
  · refine checkinStands ((checkin_overflow person new full).trans ?_)
    rw [bump, if_neg (by omega)]
  · have left := checkout_listed person listed
    refine ⟨_, checkout, rollKept_refugeCheckout up serves left fun same => ?_⟩
    have filtered : (s.refuges.get r).muster.filter (· ≠ n) = (s.refuges.get r).muster :=
      congrArg Refuge.muster (left.symm.trans same)
    rw [← filtered] at listed
    simp at listed
  · have left := checkout_overflow person unlisted
    refine ⟨_, checkout, rollKept_refugeCheckout up serves left fun same => ?_⟩
    have fewer : (s.refuges.get r).overflow - 1 = (s.refuges.get r).overflow := congrArg Refuge.overflow (left.symm.trans same)
    omega
  · have frame := (outsideActions_settle _).trans (outsideActions_refugeCheckout (s := heard p s) (r := r) n)
    rw [checkout] at run
    obtain rfl := Host.Outcome.next.inj run
    rw [occupancy_of_outsideActions frame] at gone
    obtain ⟨distress, -, prepared, panel⟩ := refugeCheckout_last (s := heard p s) serves (Nat.pos_iff_ne_zero.mp was) gone
    rw [settle_quiet (quiet_refugeCheckout (quiet_heard quiet p))]
    refine ⟨distress, prepared, fun alone level => ?_⟩
    have told := panel (ownPanel_heard up alone) level
    rw [sent_heard up] at told
    exact told

/-! ## The door (R137) -/

section
variable {s : State} {p : SpurId} {r : PairIx} {v : Nat}

theorem refugeDoor_same (same : (s.refuges.get r).door = (v == 0)) : refugeDoor r v s = s := if_pos same.symm
theorem refugeDoor_changed (changed : (s.refuges.get r).door ≠ (v == 0)) :
    refugeDoor r v s = reformRefuge r ((s.setRefuge r { s.refuges.get r with door := v == 0 }).mark (.refuge r)) := if_neg changed.symm

/-! ## The distress button (R138) -/

/-- A spur's state and type stand in equal frames. -/
theorem spurUpAs_of_outsideActions {t : State} (frame : outsideActions t = outsideActions s) (working : t.working = s.working)
    (ty : SpurType) : t.spurUpAs ty p = s.spurUpAs ty p := by
  have state := congrArg (fun u => (u.spurs.get p).state) frame
  simp only [outsideActions, outsideLevel, Tab.get_mapIx] at state
  rw [State.spurUpAs, State.spurUp, state, spurType_congr s p working]; rfl
/-- R140, R141: a prepared chamber stays as it is where the level stands, and where somebody is in it. -/
theorem recordMoved_prepared {old new : Level} {x : Refuge} (prepared : x.prepared = true)
    (keeps : new = old ∨ 0 < x.occupancy) : (recordMoved (levelMove old new) x).prepared = true := by
  obtain rfl | occupied := keeps
  · rw [levelMove_same]; exact prepared
  · rw [recordMoved_occupied occupied]; simp [prepared]
theorem panelMoved_prepared {old new : Level} {x : Refuge} (panel : Spur) (prepared : x.prepared = true)
    (keeps : new = old ∨ 0 < x.occupancy) : panelMoved (levelMove old new) x panel = panel := by
  obtain rfl | occupied := keeps
  · rw [levelMove_same]; rfl
  · rw [panelMoved_occupied occupied]; simp [prepared]
/-- R138: the chamber that a press finds prepared or prepares, with the distress flag set. -/
def pressed (r : PairIx) (s : State) : State :=
  setDistress r true (if (s.refuges.get r).prepared = true then s else sendPrepare r s)
theorem refugeDistress_eq : refugeDistress r s = reformRefuge r (pressed r s) := rfl
theorem outsideActions_pressed : outsideActions (pressed r s) = outsideActions s := by
  rw [pressed, outsideActions_setDistress]
  split
  · rfl
  · exact outsideActions_of_outsideLevel (outsideLevel_sendPrepare _ _)
theorem outsideActions_refugeDistress : outsideActions (refugeDistress r s) = outsideActions s :=
  (outsideActions_of_outsideLevel (outsideLevel_reformRefuge r (pressed r s))).trans outsideActions_pressed
theorem quiet_setDistress (flag : Bool) (q : Quiet s) : Quiet (setDistress r flag s) := by
  simp only [setDistress]; split
  · exact q
  · exact ⟨q.queue, q.lists⟩
theorem quiet_refugeDistress (q : Quiet s) : Quiet (refugeDistress r s) := by
  refine Quiet.of_outsideLevel (s := pressed r s) ?_ (outsideLevel_reformRefuge _ _)
  refine quiet_setDistress true ?_
  split
  · exact q
  · exact q.of_outsideLevel (outsideLevel_sendPrepare _ _)

/-- From `s` to `t` a press has reached the record `r`, with its panel `p`, and the state is not yet formed again. -/
structure RecordPressed (p : SpurId) (r : PairIx) (s t : State) : Prop where
  working : t.working = s.working
  level   : t.level.effective = s.level.effective
  record  : t.refuges.get r = { s.refuges.get r with prepared := true, distress := true }
  marked  : (s.refuges.get r).distress = false ∨ (s.refuges.get r).prepared = false → (t.held (.refuge r)).isSome = true
  panel   : OwnPanel p r s → OwnPanel p r t ∧ t.spurs.get p = panelMoved .rises (s.refuges.get r) (s.spurs.get p)

theorem sendPrepare_marks (unprepared : (s.refuges.get r).prepared = false) : ((sendPrepare r s).held (.refuge r)).isSome = true := by
  simp only [sendPrepare, refugeSpurOffer_refuges, unprepared, Bool.not_false, State.markIf_true, held_mark_same]
  exact isSome_markHeld _
theorem recordPressed_pressed (serves : s.refugeOfSpur p = some r) : RecordPressed p r s (pressed r s) := by
  obtain ⟨working, record, held, panel⟩ := recordMoved_prepare serves
  have level : levelPart (if (s.refuges.get r).prepared = true then s else sendPrepare r s) = levelPart s := by split <;> simp
  have marks (unprepared : (s.refuges.get r).prepared = false) :
      ((if (s.refuges.get r).prepared = true then s else sendPrepare r s).held (.refuge r)).isSome = true := by
    rw [if_neg (by simp [unprepared])]; exact sendPrepare_marks unprepared
  unfold pressed
  generalize (if (s.refuges.get r).prepared = true then s else sendPrepare r s) = w at working record held panel level marks
  have flag : (w.refuges.get r).distress = (s.refuges.get r).distress := by rw [record]; rfl
  have level : (setDistress r true w).level.effective = s.level.effective :=
    effective_of_levelPart ((levelPart_setDistress w r true).trans level)
  by_cases set : (w.refuges.get r).distress = true
  · rw [setDistress, if_pos set] at level ⊢
    refine ⟨working, level, ?_, fun new => marks ?_, panel⟩
    · rw [record]; rw [flag] at set; simp only [recordMoved, ← set]
    · simpa [← flag, set] using new
  · rw [setDistress, if_neg set] at level ⊢
    refine ⟨working, level, ?_, fun _ => ?_, fun own => ?_⟩
    · rw [State.mark_refuges, State.setRefuge_refuges, Tab.get_put_same, record]; rfl
    · rw [held_mark_same]; exact isSome_markHeld _
    · obtain ⟨own, told⟩ := panel own
      exact ⟨own.congr rfl (fun _ => ⟨rfl, rfl⟩) rfl, told⟩
/-- R134, R138: what a press leaves of the record and of its panel, the state formed again. -/
theorem refugeDistress_presses (serves : s.refugeOfSpur p = some r) (up : s.spurUpAs .refuge p = true) :
    ((refugeDistress r s).refuges.get r).distress = true ∧
    ((refugeDistress r s).level.effective = s.level.effective ∨ 0 < (s.refuges.get r).occupancy →
      ((refugeDistress r s).refuges.get r).prepared = true ∧
      (OwnPanel p r s → (refugeDistress r s).spurs.get p = panelMoved .rises (s.refuges.get r) (s.spurs.get p))) ∧
    ((s.refuges.get r).distress = false ∨ (s.refuges.get r).prepared = false →
      ((refugeDistress r s).held (.refuge r)).isSome = true) ∧
    (0 < (s.refuges.get r).occupancy → ((refugeDistress r s).refuges.get r).state = .distress) := by
  obtain ⟨working, level, record, marked, told⟩ := recordPressed_pressed serves
  have upPressed := (spurUpAs_of_outsideActions outsideActions_pressed working .refuge).trans up
  have servesPressed := (refugeOfSpur_congr working p).trans serves
  have occupancy : ((pressed r s).refuges.get r).occupancy = (s.refuges.get r).occupancy := by rw [record]; rfl
  have prepared : ((pressed r s).refuges.get r).prepared = true := by rw [record]
  have flag : ((pressed r s).refuges.get r).distress = true := by rw [record]
  obtain ⟨-, formed, keeps, sends⟩ := recordMoved_reformRefuge servesPressed
  rw [State.setRefuge_refuges, Tab.get_put_same] at formed sends
  rw [panelMoved_state, State.setRefuge_spurs] at sends
  rw [← level, ← occupancy, refugeDistress_eq]
  refine ⟨?_, fun stands => ⟨?_, fun own => ?_⟩, fun new => keeps (marked new), fun occupied => ?_⟩
  · rw [formed, recordMoved_distress]; exact flag
  · rw [formed]; exact recordMoved_prepared prepared stands
  · obtain ⟨own, before⟩ := told own
    rw [(sends (own.congr rfl (fun _ => ⟨rfl, rfl⟩) rfl)).2, panelMoved_prepared _ prepared stands, before]
  · rw [formed, recordMoved_state, refugeStateOf_up servesPressed upPressed]
    simp [Nat.pos_iff_ne_zero.mp occupied, flag]
end

/-- Settles O47: a changed door is a record written and formed again; a press is the record prepared with its flag set, formed again,
which stands the chamber down only where it is empty and the level falls. -/
theorem doorAndDistress : Obligations.DoorAndDistress := by
  intro p r v s powered idle up serves
  have servesHeard : (heard p s).refugeOfSpur p = some r := serves
  have upHeard : (heard p s).spurUpAs .refuge p = true := (heard_spurUpAs .refuge p p s).trans up
  have door : exec (.door p v) s = .next (settle (refugeDoor r v (heard p s))) :=
    settled_panelMessage (m := .door v) (f := fun r => refugeDoor r v) powered up serves rfl fun _ => rfl
  have distress : exec (.distress p) s = .next (settle (refugeDistress r (heard p s))) :=
    settled_panelMessage (m := .distress) (f := refugeDistress) powered up serves rfl fun _ => rfl
  refine ⟨fun same => ?_, fun changed => ⟨_, door, ?_⟩, _, distress, ?_, fun quiet => ?_⟩
  · rw [door, refugeDoor_same (s := heard p s) same, settle_of_noNotices]
    exact idle
  · have moved := refugeDoor_changed (s := heard p s) changed
    have level : outsideLevel (refugeDoor r v (heard p s)) =
        outsideLevel ((heard p s).setRefuge r { s.refuges.get r with door := v == 0 }) := by
      rw [moved, outsideLevel_reformRefuge, outsideLevel_mark]; rfl
    have frame := (outsideActions_settle _).trans (outsideActions_of_outsideLevel level)
    have written : RecordWritten p r { s.refuges.get r with door := v == 0 } (heard p s) (refugeDoor r v (heard p s)) :=
      moved ▸ recordWritten_reformRefuge servesHeard rfl rfl rfl
    refine ⟨(roll_of_outsideActions frame).2.2, frame, fun quiet => ?_, fun quiet empty => ?_⟩
    · rw [settle_quiet (quiet_of_setRefuge (quiet_heard quiet p) level)]
      exact written.marked
    · rw [settle_quiet (quiet_of_setRefuge (quiet_heard quiet p) level), State.setAction_refuges, written.record, recordMoved_state,
        refugeStateOf_up (s := (heard p s).setRefuge r _) servesHeard upHeard]
      have still : Refuge.occupancy { s.refuges.get r with door := v == 0 } = 0 := empty
      simp [still]
  · exact (outsideActions_settle _).trans outsideActions_refugeDistress
  · obtain ⟨flag, prepares, marked, state⟩ := refugeDistress_presses servesHeard upHeard
    have after := quiet_refugeDistress (r := r) (quiet_heard quiet p)
    generalize refugeDistress r (heard p s) = t at flag prepares marked state after
    rw [settle_quiet after]
    refine ⟨flag, fun stands => ?_, marked, state⟩
    obtain ⟨prepared, told⟩ := prepares stands
    refine ⟨prepared, fun alone => (told (ownPanel_heard up alone)).trans ?_⟩
    rw [panelMoved, sent_heard up]; rfl

end Sys2Proof.Safety
end
